-- ==== Sys2Proof/Word.lean ====
section
/-! DEFINITION. The machine words of the part: the byte of the serial link and of the section records, and the numbers that
name sections, addresses and channels. -/

namespace Sys2Proof

/-- One character of the serial link, or one byte of a section record (11_the_host_link.md; 03, section record layout). -/
abbrev Byte := BitVec 8

/-- A section's sync word: "any 16-bit value" (R60, R61). -/
abbrev SyncWord := BitVec 16

/-- Line sections are numbered 0 to 7 (00_scope.md, numbers used throughout). -/
abbrev SectionId := Fin 8

/-- Post addresses are 1 to 15; address 0 is broadcast (00_scope.md; section record layout, byte 0). -/
abbrev Addr := Fin 16

/-- Control channels are numbered 0 to 3 (R155). -/
abbrev ChanId := Fin 4

/-- The eight sections in number order. -/
def allSections : List SectionId := [0, 1, 2, 3, 4, 5, 6, 7]

/-- The four channels in number order. -/
def allChannels : List ChanId := [0, 1, 2, 3]

/-- The post addresses of a section in address order, broadcast left out. -/
def postAddrs : List Addr := [1, 2, 3, 4, 5, 6, 7, 8, 9, 10, 11, 12, 13, 14, 15]

end Sys2Proof
end

