-- ==== Sys2Proof/Config.lean ====
section
/-! DEFINITION. What the spec fixes for every part: the depths of its tables, the fixed times and the limits of its numbers.
The spec leaves no result of a command open, so there is no free value here (log 33). -/

namespace Sys2Proof.Config

/-- The event queue holds up to 32 records (R179). -/
@[simp] def eventDepth : Nat := 32
/-- The lost-after count saturates at 255 (R180). -/
@[simp] def lostMax : Nat := 255
/-- The call table has room for 32 records (R129). -/
@[simp] def callDepth : Nat := 32
/-- The history holds up to 16 records (R150). -/
@[simp] def historyDepth : Nat := 16
/-- The request buffer holds up to 2 entries (R188). -/
@[simp] def bufferDepth : Nat := 2
/-- At most six host-originated transactions are counted on a section (R74, R76). -/
@[simp] def hostDepth : Nat := 6
/-- Call references run from 1 to 65,535 (R149). -/
@[simp] def refMax : Nat := 65535
/-- Post numbers run from 1 to 59,999 (R4). -/
@[simp] def postMax : Nat := 59999
/-- The seconds count is 32 bits wide and stays at its largest value (R178). -/
@[simp] def secondsMax : Nat := 4294967295
/-- Chainages run from 0 to 999,999 m (R24). -/
@[simp] def chainageMax : Nat := 999999
/-- A resistance reading at or above the top of the scale is stored as 60,000 (R27). -/
@[simp] def sampleMax : Nat := 60000
/-- Three arbitration losses fail a transaction (R50). -/
@[simp] def lossMax : Nat := 3
/-- Attempts used in a step are 0 to 4 (R43). -/
@[simp] def attemptMax : Nat := 4
/-- The missed-poll count stays at 15 (R15). -/
@[simp] def missedMax : Nat := 15
/-- The more count of the unresolved-post record saturates at 255 (R18). -/
@[simp] def moreMax : Nat := 255
/-- A call's boost stays at 6 (R164). -/
@[simp] def boostMax : Nat := 6
/-- Message text is cut to 32 characters (R196). -/
@[simp] def textMax : Nat := 32
/-- A text record carries up to 8 characters (R57). -/
@[simp] def textChunk : Nat := 8

/-- The next byte of a frame must arrive within 100 ms (R187). -/
@[simp] def byteGapMs : Nat := 100
/-- The lead window is the first 20 ms of a transaction burst, the 20 ms mark included (R37, R49). -/
@[simp] def leadMs : Nat := 20
/-- POWER-UP lasts 300 ms (R90). -/
@[simp] def powerUpMs : Nat := 300
/-- ANNOUNCE lasts 200 ms (R91). -/
@[simp] def announceMs : Nat := 200
/-- The settle lasts 1 s (R85). -/
@[simp] def settleMs : Nat := 1000
/-- The settle quiet of 500 ms is fixed (R66). -/
@[simp] def quietMs : Nat := 500
/-- A sample is taken every 250 ms of a measurement (R120). -/
@[simp] def sampleMs : Nat := 250
/-- A measurement takes four samples (R120). -/
@[simp] def samplesWanted : Nat := 4

/-- IDENTIFY's part code (R193). -/
@[simp] def partCode : Nat := 0x0816
/-- IDENTIFY's revision, "1 for the part this manual describes" (R193). -/
@[simp] def revision : Nat := 1
/-- A frame starts with 0x5A (frame table). -/
@[simp] def startByte : Byte := 0x5A
/-- The body of a frame has at most 250 bytes (frame table). -/
@[simp] def bodyMax : Nat := 250
/-- The kind of an error reply (R189). -/
@[simp] def errorKind : Nat := 0xFF
/-- The channel byte of a request that names no channel (kind codes, last paragraph). -/
@[simp] def noChannel : Nat := 0xFF

end Sys2Proof.Config
end

