-- ==== Sys2Proof/Syntax.lean ====
section
/-! DEFINITION. The commands: one constructor of `Instr` for each row of spec/opcode_table.json, with its operands. A host
request carries its frame's tag and body length and the raw values of its body's fields, so that every value the frame can
hold, an out-of-range one included, can be written (R189, R190). -/

namespace Sys2Proof

/-- What a request frame carries beside its fields: the tag that the reply echoes and the number of body bytes received
(R187, R189). -/
structure Hdr where
  tag : Byte
  len : Nat
deriving DecidableEq, Repr

/-- The nine settings of SET GLOBALS as received, in the table's order (R194). -/
structure RawGlobals where
  ageing : Nat
  offerTimeout : Nat
  ringTimeout : Nat
  baseTunnel : Nat
  baseBridge : Nat
  baseOpen : Nat
  baseService : Nat
  lowBattery : Nat
  autoOffer : Nat
deriving DecidableEq, Repr

/-- The eight definition fields of DEFINE SECTION as received (R61). -/
structure RawSection where
  base : Nat
  sign : Nat
  length : Nat
  k : Nat
  rc : Nat
  sync : SyncWord
  hibernate : Nat
  autoMeasure : Nat
deriving DecidableEq, Repr

/-- The eight settings of SET SECTION TIMING as received (R62). -/
structure RawTiming where
  replyWindow : Nat
  retries : Nat
  idleHold : Nat
  period : Nat
  offset : Nat
  unreachable : Nat
  stuck : Nat
  brk : Nat
deriving DecidableEq, Repr

/-- The six fields of DEFINE POST as received (R7). -/
structure RawPost where
  post : Nat
  sec : Nat
  addr : Nat
  offset : Nat
  cls : Nat
  cway : Nat
deriving DecidableEq, Repr

/-- One record of a burst as received from a pair: its bytes in the order of the section record layout, the CRC-8 last
(03, Records). -/
structure LineRec where
  addr : Byte
  kind : Byte
  len : Byte
  payload : List Byte
  check : Byte
deriving DecidableEq, Repr

/-- The commands, in the order of spec/opcode_table.json. -/
inductive Instr where
  -- device requests
  | identify (h : Hdr)
  | reset (h : Hdr)
  | start (h : Hdr)
  | setGlobals (h : Hdr) (g : RawGlobals)
  -- section requests
  | defineSection (h : Hdr) (sec : Nat) (d : RawSection)
  | setSectionTiming (h : Hdr) (sec : Nat) (t : RawTiming)
  | sectionServiceIn (h : Hdr) (sec dir force : Nat)
  | sectionServiceOut (h : Hdr) (sec dir force : Nat)
  | sectionReset (h : Hdr) (sec : Nat)
  | forceIdle (h : Hdr) (sec : Nat)
  -- post requests
  | definePost (h : Hdr) (p : RawPost)
  | removePost (h : Hdr) (post : Nat)
  | suspendPost (h : Hdr) (post : Nat)
  | resumePost (h : Hdr) (post : Nat)
  | lamp (h : Hdr) (post pattern : Nat)
  | message (h : Hdr) (post n : Nat) (text : List Byte)
  | pollNow (h : Hdr) (sec : Nat)
  | measure (h : Hdr) (sec : Nat)
  -- channel and call requests
  | setChannelOut (h : Hdr) (chan dir : Nat)
  | setChannelIn (h : Hdr) (chan dir : Nat)
  | answer (h : Hdr) (ref : Nat)
  | pick (h : Hdr) (ref chan : Nat)
  | park (h : Hdr) (ref : Nat)
  | retrieve (h : Hdr) (ref chan : Nat)
  | clear (h : Hdr) (ref : Nat)
  | callPost (h : Hdr) (post chan : Nat)
  | dismiss (h : Hdr) (ref : Nat)
  -- reading requests
  | getEvent (h : Hdr)
  | listCalls (h : Hdr)
  | readCall (h : Hdr) (ref : Nat)
  | readPost (h : Hdr) (post : Nat)
  | readSection (h : Hdr) (sec : Nat)
  | readChannels (h : Hdr)
  | readUnresolved (h : Hdr)
  | readHistory (h : Hdr) (index : Nat)
  | readMeasurement (h : Hdr) (sec : Nat)
  -- the serial link and the resets
  | frameReceived (bytes : List Byte)
  | frameByteGap
  | discardNoticeReply
  | replySent
  | powerSteady
  | resetInputAsserted
  | resetInputReleased
  -- the timebase
  | secondsTick
  | ageingStep (ref : Nat)
  | pollCountdownExpiry (i : SectionId)
  -- power states of a section
  | enterSettling (i : SectionId)
  | shutdownSent (i : SectionId)
  | settleTimerExpiry (i : SectionId) (offHook : Bool)
  | offHookDetected (i : SectionId)
  | powerUpEnd (i : SectionId)
  | announceEnd (i : SectionId)
  -- the pair of a section
  | leadWindowEnd (i : SectionId)
  | transactionBurstSent (i : SectionId)
  | replyWindowExpiry (i : SectionId)
  | postBurstStart (i : SectionId) (sync : SyncWord)
  | replyBurstEnd (i : SectionId) (recs : List LineRec)
  | postBurstEnd (i : SectionId) (recs : List LineRec)
  | answerBurstSent (i : SectionId)
  | carrierAppears (i : SectionId)
  | carrierDrops (i : SectionId)
  | stuckLimit (i : SectionId)
  | spaceAppears (i : SectionId)
  | breakTime (i : SectionId)
  | spaceEnds (i : SectionId)
  | settleQuiet (i : SectionId)
  | endMarkObserved (i : SectionId)
  | sampleTaken (i : SectionId) (reading : Nat)
  -- call timers and channel inputs
  | offerTimeout (ref : Nat)
  | ringTimeout (ref : Nat)
  | readyLost (c : ChanId)
  | readyRegained (c : ChanId)
  | byteReceived (b : Byte)
deriving DecidableEq, Repr

end Sys2Proof
end

