-- ==== Sys2Proof/WellFormed.lean ====
section
/-! DEFINITION. Which commands are well formed: every operand fits the coding the link or the line gives it, and the direction
byte of a request that the table splits into two rows does not name the other row (log 23, log 32). A command that is not well
formed can be sent by nobody; exec is total on it all the same. -/

namespace Sys2Proof

/-- A field of one body byte (11, kind codes: "in 1 byte"). -/
def isByte (n : Nat) : Bool := n < 256
/-- A field of two body bytes, high byte first. -/
def isWord (n : Nat) : Bool := n < 65536

/-- A frame's header: the length byte of a frame that becomes a request is at most 250 (R187). -/
def Hdr.wellFormed (h : Hdr) : Bool := h.len ≤ Config.bodyMax

/-- SET GLOBALS has nine one-byte settings (kind table: 9 body bytes). -/
def RawGlobals.wellFormed (g : RawGlobals) : Bool :=
  isByte g.ageing && isByte g.offerTimeout && isByte g.ringTimeout && isByte g.baseTunnel && isByte g.baseBridge &&
  isByte g.baseOpen && isByte g.baseService && isByte g.lowBattery && isByte g.autoOffer

/-- "In DEFINE SECTION the base chainage takes 3 bytes and the length, k, Rc and sync word 2 bytes each." -/
def RawSection.wellFormed (d : RawSection) : Bool :=
  decide (d.base < 16777216) && isByte d.sign && isWord d.length && isWord d.k && isWord d.rc && isByte d.hibernate &&
  isByte d.autoMeasure

/-- "In SET SECTION TIMING the reply window, idle hold, poll period and poll offset take 2 bytes each and the other four
settings 1 byte each." -/
def RawTiming.wellFormed (t : RawTiming) : Bool :=
  isWord t.replyWindow && isByte t.retries && isWord t.idleHold && isWord t.period && isWord t.offset &&
  isByte t.unreachable && isByte t.stuck && isByte t.brk

/-- DEFINE POST has post number and offset in two bytes each and four one-byte fields (8 body bytes). -/
def RawPost.wellFormed (p : RawPost) : Bool :=
  isWord p.post && isByte p.sec && isByte p.addr && isWord p.offset && isByte p.cls && isByte p.cway

/-- A record as a receiver can cut it out of a burst: as many payload bytes as its length byte says, or none where the length
byte is above 8 and marks the record bad (R40). -/
def LineRec.wellFormed (r : LineRec) : Bool :=
  if r.len.toNat ≤ 8 then r.payload.length == r.len.toNat else r.payload.isEmpty

/-- Every operand of the command fits the coding it arrives in. -/
def Instr.wellFormed : Instr → Bool
  | .identify h | .reset h | .start h | .getEvent h | .listCalls h | .readChannels h | .readUnresolved h => h.wellFormed
  | .setGlobals h g => h.wellFormed && g.wellFormed
  | .defineSection h s d => h.wellFormed && isByte s && d.wellFormed
  | .setSectionTiming h s t => h.wellFormed && isByte s && t.wellFormed
  | .sectionServiceIn h s dir f => h.wellFormed && isByte s && isByte dir && dir != 1 && isByte f
  | .sectionServiceOut h s dir f => h.wellFormed && isByte s && isByte dir && dir != 0 && isByte f
  | .sectionReset h s | .forceIdle h s | .pollNow h s | .measure h s | .readSection h s | .readHistory h s
  | .readMeasurement h s => h.wellFormed && isByte s
  | .definePost h p => h.wellFormed && p.wellFormed
  | .removePost h p | .suspendPost h p | .resumePost h p | .readPost h p => h.wellFormed && isWord p
  | .lamp h p pat => h.wellFormed && isWord p && isByte pat
  | .message h p n text => h.wellFormed && isWord p && isByte n && (h.len != 3 + n || text.length == n)
  | .setChannelOut h c dir => h.wellFormed && isByte c && isByte dir && dir != 0
  | .setChannelIn h c dir => h.wellFormed && isByte c && isByte dir && dir != 1
  | .answer h r | .park h r | .clear h r | .dismiss h r | .readCall h r => h.wellFormed && isWord r
  | .pick h r c | .retrieve h r c => h.wellFormed && isWord r && isByte c
  | .callPost h p c => h.wellFormed && isWord p && isByte c
  | .replyBurstEnd _ recs | .postBurstEnd _ recs => recs.all LineRec.wellFormed
  | .ageingStep r | .offerTimeout r | .ringTimeout r => isWord r
  | .frameReceived _ | .frameByteGap | .discardNoticeReply | .replySent | .powerSteady | .resetInputAsserted
  | .resetInputReleased | .secondsTick | .pollCountdownExpiry _ | .enterSettling _ | .shutdownSent _ | .settleTimerExpiry _ _
  | .offHookDetected _ | .powerUpEnd _ | .announceEnd _ | .leadWindowEnd _ | .transactionBurstSent _ | .replyWindowExpiry _
  | .postBurstStart _ _ | .answerBurstSent _ | .carrierAppears _ | .carrierDrops _ | .stuckLimit _ | .spaceAppears _
  | .breakTime _ | .spaceEnds _ | .settleQuiet _ | .endMarkObserved _ | .sampleTaken _ _ | .readyLost _ | .readyRegained _
  | .byteReceived _ => true

end Sys2Proof
end

