-- ==== Sys2Proof/Decode.lean ====
section
/-! DEFINITION. Words and commands: spec/opcode_table.json gives no row any bits, so no word spells a command. The part has no
instruction decoder; the frames of the host link are read in Machine/HostLink.lean (R187). -/

namespace Sys2Proof

/-- The command that a word of the table's bits spells: none, since no row of the table has bits. -/
def decodeTableWord (_nbits _w : Nat) : Option Instr := none

end Sys2Proof
end

