-- ==== Sys2Proof/Machine/State.lean ====
section
/-! DEFINITION. The state of the part as plain data: every register, table, queue, timer, flag and input level the spec gives
it (INVENTORY.md, State, names the rule of each), the queue of commands waiting, the state after device reset, and the two
types of stop. -/

namespace Sys2Proof.Machine

/-! ## Posts and the post directory -/

/-- A post's class (R1). -/
inductive PostClass where
  | tunnel | bridge | openRoad | service
deriving DecidableEq, Repr

/-- A carriageway; BOTH only in a resolution or a location (R5, R26). -/
inductive Carriageway where
  | a | b | both
deriving DecidableEq, Repr

/-- A post's service state (R12). -/
inductive ServiceState where
  | inService | suspended
deriving DecidableEq, Repr

/-- A lamp pattern: OFF, STEADY, SLOW, FAST. -/
inductive LampPattern where
  | off | steady | slow | fast
deriving DecidableEq, Repr

/-- The six fields of a STATUS or NOTICE payload (03, status layout). A flag is true for OFF, OPEN, DETECTED and FAIL. -/
structure StatusFields where
  hookOff : Bool
  doorOpen : Bool
  impact : Bool
  selfTestFail : Bool
  battery : Nat
  lamp : LampPattern
deriving DecidableEq, Repr

/-- A valid directory entry (R1): the definition fields, the service state and the supervision fields. -/
structure PostEntry where
  post : Nat
  sec : SectionId
  addr : Addr
  offset : Nat
  cls : PostClass
  cway : Carriageway
  service : ServiceState
  lastStatus : Option StatusFields
  lastReply : Option Nat
  missed : Nat
  reachable : Bool
  lowBattery : Bool
deriving DecidableEq, Repr

/-- What the lookup by section and address gives (R5). -/
structure Resolution where
  post : Nat
  cls : PostClass
  cway : Carriageway
  offset : Option Nat
  service : Option ServiceState
deriving DecidableEq, Repr

/-- The kinds of a post's records (03, post records). -/
inductive PostKind where
  | alert | answer | onhook | notice | status | ack | nack
deriving DecidableEq, Repr

/-- The unresolved-post record when filled (R18). -/
structure Unresolved where
  sec : SectionId
  addr : Addr
  kind : PostKind
  time : Nat
  more : Nat
deriving DecidableEq, Repr

/-! ## Calls, channels and the speech switch -/

/-- Where a call or an alert came from (R130). -/
inductive CallOrigin where
  | alert | poll | host
deriving DecidableEq, Repr

/-- A call's direction (R130). -/
inductive CallDirection where
  | inbound | outbound
deriving DecidableEq, Repr

/-- The six states of a live call (R132). -/
inductive CallState where
  | queued | offered | connected | parked | ringing | abandoned
deriving DecidableEq, Repr

/-- The basis of a call's location (R25, R26). -/
inductive Basis where
  | directory | suspended | sectionOnly
deriving DecidableEq, Repr

/-- A call's location record (02, call locations). -/
structure Location where
  chainage : Nat
  cway : Carriageway
  basis : Basis
  clamped : Bool
deriving DecidableEq, Repr

/-- A running millisecond timer: the millisecond at which it started and its duration. -/
structure Timer where
  start : Nat
  dur : Nat
deriving DecidableEq, Repr

/-- A live call record (08, the call record), with the timer that belongs to the call while OFFERED or RINGING. -/
structure Call where
  ref : Nat
  direction : CallDirection
  origin : CallOrigin
  post : Nat
  sec : SectionId
  addr : Addr
  cls : PostClass
  state : CallState
  arrival : Nat
  boost : Nat
  channel : Option ChanId
  location : Location
  connectedSince : Option Nat
  connectedTotal : Nat
  offerTimer : Option Timer
  ringTimer : Option Timer
deriving DecidableEq, Repr

/-- The end causes of R146. -/
inductive EndCause where
  | clearedByControl | clearedByPost | dismissed | dismissedAuto | noAnswer | postUnreached | channelLost | sectionOff
  | sectionReset
deriving DecidableEq, Repr

/-- An ended-call record of the history (R150). -/
structure HistRec where
  ref : Nat
  post : Nat
  sec : SectionId
  addr : Addr
  direction : CallDirection
  arrival : Nat
  endTime : Nat
  cause : EndCause
  seconds : Nat
deriving DecidableEq, Repr

/-- The states of a control channel (R155). -/
inductive ChannelState where
  | free | offering | ringing | connected | down | out
deriving DecidableEq, Repr

/-- A channel record (R155); `ready` is the far-end-ready input as last seen, true for HIGH. -/
structure Channel where
  state : ChannelState
  ready : Bool
  call : Option Nat
deriving DecidableEq, Repr

/-- What a section path is joined to (R160). -/
inductive Join where
  | nothing | tone | channel (c : ChanId)
deriving DecidableEq, Repr

/-! ## Section controllers -/

/-- The direction sign of a section (02, post chainage). -/
inductive Sign where
  | plus | minus
deriving DecidableEq, Repr

/-- A section definition (R60). -/
structure SectionDef where
  base : Nat
  sign : Sign
  length : Nat
  k : Nat
  rc : Nat
  sync : SyncWord
  hibernate : Bool
  autoMeasure : Bool
deriving DecidableEq, Repr

/-- A timing record (R62): reply window in ms; idle hold, poll period, poll offset, stuck limit and break time in s. -/
structure Timing where
  replyWindow : Nat
  retries : Nat
  idleHold : Nat
  period : Nat
  offset : Nat
  unreachable : Nat
  stuck : Nat
  brk : Nat
deriving DecidableEq, Repr

/-- The wake phase (R82). -/
inductive WakePhase where
  | powerUp | announce
deriving DecidableEq, Repr

/-- The settle part (R82). -/
inductive SettlePart where
  | shutdown | settle
deriving DecidableEq, Repr

/-- The power state, with the wake phase or settle part that is present in it (R82). -/
inductive Power where
  | off | waking (p : WakePhase) | active | settling (p : SettlePart) | hibernate
deriving DecidableEq, Repr

/-- A wake reason (R82). -/
inductive WakeReason where
  | post | host | call | schedule | reset
deriving DecidableEq, Repr

/-- The wake reason set: one flag for each reason, so that equal sets are equal data (R82). -/
structure ReasonSet where
  post : Bool
  host : Bool
  call : Bool
  schedule : Bool
  reset : Bool
deriving DecidableEq, Repr

/-- The line states (R65). -/
inductive LineState where
  | down | unknown | idle | owned | foreign | brk | testing
deriving DecidableEq, Repr

/-- Transaction kinds with their payload (R74); polls are never queued. -/
inductive TxnKind where
  | poll | ring | ringStop | connect | clear | parked | lamp (p : LampPattern) | text (chars : List Byte)
deriving DecidableEq, Repr

/-- A transaction's kind without its payload, as TRANSACTION_FAILED names it (R79). -/
inductive TxnName where
  | poll | ring | ringStop | connect | clear | parked | lamp | text
deriving DecidableEq, Repr

/-- Who a transaction's outcome is reported to: the round (for a poll), the call manager, or the host (R79). -/
inductive TxnOrigin where
  | round | host | call (ref : Nat)
deriving DecidableEq, Repr

/-- A transaction, queued or in flight (04, the transaction queue; R43). -/
structure Txn where
  kind : TxnKind
  addr : Addr
  origin : TxnOrigin
  attempts : Nat
  losses : Nat
  progress : Nat
  headerDone : Bool
deriving DecidableEq, Repr

/-- The reasons for which a transaction fails (R79). -/
inductive FailReason where
  | noReply | arbLost | lengthShort | aborted
deriving DecidableEq, Repr

/-- What a record sent by a section controller says (03, concentrator records). -/
inductive OutKind where
  | poll | ring | ringStop | connect | clear | parked | lamp (p : LampPattern) | textHeader (count : Nat)
  | textRecord (chars : List Byte) | alertRegistered (ref : Nat) | alertDeferred | shutdown | ack
deriving DecidableEq, Repr

/-- A record sent by a section controller. -/
structure OutRec where
  addr : Addr
  kind : OutKind
deriving DecidableEq, Repr

/-- The FILLER records a burst begins with: none (R37); those of an attempt through its lead window, whose address no rule states
(R37; log 17); those addressed to `a` (R91). How many they are and what they carry, "any value", is not held (log 17). -/
inductive Filler where
  | absent | lead | addressed (a : Addr)
deriving DecidableEq, Repr

/-- A burst a section controller sends: its sync word, its FILLER records, and its other records (R37). -/
structure Burst where
  sync : SyncWord
  filler : Filler
  recs : List OutRec
deriving DecidableEq, Repr

/-- The check flag that the section controller latches with a record it receives (R40). -/
inductive CheckFlag where
  | good | bad
deriving DecidableEq, Repr

/-- What is going on between a section controller and its pair (R59): nothing; a transaction burst sending its filler, sending
its record, or collided with; the reply window; a reply burst being received; a failed attempt waiting for the pair to be free
of carrier; a post-started burst being received; one discarded whose carrier has not dropped; an answer burst that waits for the
post's carrier to drop; an answer, SHUTDOWN or announce burst being sent. A transaction burst has its lead window's timer, which
started with its preamble (R37, R49). A post-started burst that is answered has the latched statuses of its records until its
answer burst ends (R40; log 34). -/
inductive Exchange where
  | quiet
  | lead (b : Burst) (window : Timer)
  | sending (b : Burst) (window : Timer)
  | collided (b : Burst)
  | window (t : Timer)
  | reply
  | retryWait
  | post
  | discarded
  | answerDue (recs : List OutRec) (latched : List CheckFlag)
  | answering (b : Burst) (latched : List CheckFlag)
  | shutdown (b : Burst)
  | announce (b : Burst)
deriving DecidableEq, Repr

/-- The trigger of a MEASURE (R77). -/
inductive Trigger where
  | auto | host
deriving DecidableEq, Repr

/-- An end of a bracket: the cabinet, a post, or the end of the section (R32). -/
inductive BracketEnd where
  | cabinet | post (p : Nat) | sectionEnd
deriving DecidableEq, Repr

/-- The open-fault bracket (R98): its lower end is a post or the cabinet, its upper end a post. -/
structure OpenBracket where
  lower : BracketEnd
  upper : Nat
deriving DecidableEq, Repr

/-- The round's poll while it is off the line after a yield or a break, with its counts (R103, R104). -/
structure KeptPoll where
  addr : Addr
  attempts : Nat
  losses : Nat
deriving DecidableEq, Repr

/-- An open poll round (R98): its cursor, the poll kept for the arbiter, and the three round counts. -/
structure Round where
  cursor : Nat
  kept : Option KeptPoll
  answered : Nat
  missed : Nat
  skipped : Nat
deriving DecidableEq, Repr

/-- One section controller. -/
structure SectionCtl where
  defn : Option SectionDef
  timing : Option Timing
  pendingTiming : Option Timing
  power : Power
  wakeTimer : Option Timer
  settleTimer : Option Timer
  reasons : ReasonSet
  roundDue : Bool
  line : LineState
  exch : Exchange
  carrier : Bool
  disowned : Bool
  space : Bool
  stuckTimer : Option Timer
  breakTimer : Option Timer
  quietTimer : Option Timer
  episode : Bool
  idleSince : Option Nat
  queue : List Txn
  inFlight : Option Txn
  slot : Option Trigger
  anchor : Option Nat
  due : Option Nat
  round : Option Round
  overrun : Bool
  bracket : Option OpenBracket
deriving DecidableEq, Repr

/-! ## Line test unit -/

/-- A running measurement (R115). -/
structure Running where
  trigger : Trigger
  startSeconds : Nat
  startMs : Nat
  samples : List Nat
deriving DecidableEq, Repr

/-- The verdict of a measurement (R123). -/
inductive Verdict where
  | short | clear | aborted
deriving DecidableEq, Repr

/-- A measurement result record (R123). -/
structure MeasResult where
  sec : SectionId
  time : Nat
  trigger : Trigger
  samples : List Nat
  verdict : Verdict
  rm : Option Nat
  distance : Option Nat
  beyondEnd : Bool
  unsteady : Bool
  chainage : Option Nat
  clamped : Bool
  nearest : Option Nat
  bracket : Option (BracketEnd × BracketEnd)
deriving DecidableEq, Repr

/-- What the line test unit holds for one section (R115). -/
structure LtuSection where
  running : Option Running
  last : Option MeasResult
deriving DecidableEq, Repr

/-! ## Events -/

/-- The causes of CALL_REQUEUED (R136, R164). -/
inductive RequeueCause where
  | offerTimeout | channelLost | revived
deriving DecidableEq, Repr

/-- The causes of CHANNEL_STATE (R157). -/
inductive ChannelCause where
  | readyLost | readyRegained | setOut | setIn
deriving DecidableEq, Repr

/-- The change set of a status report (R14). -/
structure ChangeSet where
  hook : Bool
  door : Bool
  impact : Bool
  selfTest : Bool
deriving DecidableEq, Repr

/-- A battery crossing (R14). -/
inductive Crossing where
  | downward | upward
deriving DecidableEq, Repr

/-- The power states SECTION_STATE reports (R186). -/
inductive ReportedPower where
  | active | hibernate | off
deriving DecidableEq, Repr

/-- The 24 event kinds with their subject and fields, in the catalogue's order (10, the event catalogue). -/
inductive EventBody where
  | callNew (ref : Nat) (direction : CallDirection) (origin : CallOrigin) (post : Nat) (sec : SectionId) (addr : Addr)
      (cls : PostClass) (location : Location)
  | callOffered (ref : Nat) (chan : ChanId) (score post : Nat) (sec : SectionId) (location : Location)
  | callConnected (ref : Nat) (chan : ChanId)
  | callParked (ref : Nat) (chan : ChanId)
  | callRequeued (ref : Nat) (cause : RequeueCause) (boost : Nat) (chan : Option ChanId)
  | callAbandoned (ref post : Nat) (sec : SectionId) (addr : Addr) (left : CallState)
  | callEnded (ref post : Nat) (sec : SectionId) (addr : Addr) (direction : CallDirection) (cause : EndCause) (seconds : Nat)
  | callTableFull (sec : SectionId) (addr : Addr) (post : Nat) (origin : CallOrigin)
  | postStatus (post : Nat) (sec : SectionId) (addr : Addr) (changes : ChangeSet) (crossing : Option Crossing)
      (status : StatusFields)
  | postUnreachable (post : Nat) (sec : SectionId) (addr : Addr) (missed : Nat)
  | postReachable (post : Nat) (sec : SectionId) (addr : Addr) (missed : Nat)
  | unresolvedPost (sec : SectionId) (addr : Addr) (kind : PostKind)
  | sectionState (sec : SectionId) (power : ReportedPower) (reasons : ReasonSet)
  | lineBreakStart (sec : SectionId)
  | lineBreakEnd (sec : SectionId)
  | lineStuck (sec : SectionId)
  | roundDone (sec : SectionId) (overrun : Bool) (answered missed skipped : Nat)
  | faultLocated (sec : SectionId) (trigger : Trigger) (distance chainage : Nat) (clamped beyondEnd unsteady : Bool)
      (nearest : Option Nat) (lower upper : BracketEnd)
  | lineClear (sec : SectionId) (trigger : Trigger) (saturated : Nat)
  | measureAborted (sec : SectionId) (trigger : Trigger) (samples : Nat) (started : Bool)
  | openSuspected (sec : SectionId) (bracket : OpenBracket) (chainage : Nat) (clamped : Bool)
  | openCleared (sec : SectionId) (bracket : OpenBracket)
  | transactionFailed (sec : SectionId) (addr : Addr) (post : Nat) (kind : TxnName) (reason : FailReason)
      (ref : Option Nat) (delivered : Option Nat)
  | channelState (chan : ChanId) (state : ChannelState) (ready : Bool) (cause : ChannelCause)
deriving DecidableEq, Repr

/-- A stored event record (R177). -/
structure Event where
  body : EventBody
  time : Nat
  lostAfter : Nat
deriving DecidableEq, Repr

/-! ## The host link -/

/-- The device mode (R191). -/
inductive Mode where
  | setup | service
deriving DecidableEq, Repr

/-- The global settings record (R194). -/
structure Globals where
  ageing : Nat
  offerTimeout : Nat
  ringTimeout : Nat
  baseTunnel : Nat
  baseBridge : Nat
  baseOpen : Nat
  baseService : Nat
  lowBattery : Nat
  autoOffer : Bool
deriving DecidableEq, Repr

/-- The status codes of a reply (11, status codes). -/
inductive Status where
  | ok | okClamped | frameBad | unknownKind | wrongMode | badField | noSuchSection | noSuchPost | noSuchCall | wrongCallState
  | dirRowFull | addressTaken | postBusy | postHasCall | pathBusy | noChannel | channelBusy | sectionOff | sectionActive
  | callsPresent | queueFull | measurePending | tableFull
deriving DecidableEq, Repr

/-- The receiver (R187): HUNTING, or IN FRAME with the bytes received after the start byte and the byte-gap timer. -/
inductive Receiver where
  | hunting
  | inFrame (got : List Byte) (gap : Timer)
deriving DecidableEq, Repr

/-- An entry of the request buffer (R188). -/
inductive BufEntry where
  | request (kind tag : Byte) (body : List Byte)
  | notice (status : Status) (tag : Option Byte)
deriving DecidableEq, Repr

/-- What POLL NOW's reply indicates (R107). -/
inductive PollNowNote where
  | opened | alreadyOpen | markedDue | alreadyDue
deriving DecidableEq, Repr

/-- What MEASURE's reply says (R116). -/
inductive MeasureNote where
  | startsAtOnce | waitsForPath | waitsForActive
deriving DecidableEq, Repr

/-- The MEASURE in progress as READ MEASUREMENT reports it (R127). -/
inductive MeasureProgress where
  | idle
  | pending (trigger : Trigger) (waitsForPath : Bool)
  | running (trigger : Trigger) (samples : List Nat)
deriving DecidableEq, Repr

/-- A call in brief, an entry of LIST CALLS (R152, R189). -/
structure CallBrief where
  ref : Nat
  state : CallState
  sec : SectionId
  addr : Addr
  post : Nat
  channel : Option ChanId
deriving DecidableEq, Repr

/-- A queue entry as READ SECTION reports it (R197). -/
structure QueueView where
  kind : TxnName
  addr : Addr
  origin : TxnOrigin
  losses : Nat
deriving DecidableEq, Repr

/-- The transaction in flight as READ SECTION reports it (R197). -/
structure FlightView where
  kind : TxnName
  addr : Addr
  origin : TxnOrigin
  attempts : Nat
  losses : Nat
  progress : Nat
deriving DecidableEq, Repr

/-- The open round as READ SECTION reports it (R197). -/
structure RoundView where
  cursor : Nat
  poll : Option Addr
  answered : Nat
  missed : Nat
  skipped : Nat
deriving DecidableEq, Repr

/-- A section as READ SECTION reports it (R197). -/
structure SectionView where
  defn : SectionDef
  timing : Timing
  pendingTiming : Option Timing
  power : Power
  reasons : ReasonSet
  roundDue : Bool
  line : LineState
  episode : Bool
  inFlight : Option FlightView
  hostCount : Nat
  queueLength : Nat
  queue : List QueueView
  slot : Option Trigger
  measuring : Bool
  anchor : Option Nat
  due : Option Nat
  round : Option RoundView
  overrun : Bool
  bracket : Option OpenBracket
deriving DecidableEq, Repr

/-- What a reply carries after its status byte, by the rule of its request. -/
inductive ReplyBody where
  | nothing
  | errorReply (tagRead : Bool)
  | identity (part revision : Nat) (mode : Mode) (seconds : Nat) (defined : List SectionId) (events : Nat)
  | resetAt (seconds : Nat)
  | started (sections : List SectionId)
  | globals (g : Globals)
  | definition (d : SectionDef)
  | timing (t : Timing) (applied : Bool)
  | powerFound (p : Power)
  | serviceOut (found : Power) (ended : Nat)
  | callCount (n : Nat)
  | idleFound (power : Power) (line : LineState)
  | placed (row : Fin 64) (col : Fin 2)
  | lampTaken (sec : SectionId) (addr : Addr) (replaced : Bool)
  | textTaken (sec : SectionId) (addr : Addr) (text : List Byte) (recordCount : Nat)
  | pollNow (n : PollNowNote)
  | measure (n : MeasureNote)
  | channelMove (found left : ChannelState)
  | callRef (ref : Nat)
  | channelBusy (ref : Nat) (found left : ChannelState)
  | callFound (st : CallState)
  | callLeft (st : CallState) (chan : Option ChanId)
  | callOver (seconds : Nat)
  | ringing (ref : Nat) (isNew : Bool)
  | event (e : Option Event) (left seconds : Nat)
  | callList (n : Nat) (calls : List CallBrief) (locations : List Location)
  | call (c : Call) (score : Option Nat) (eligible : Option Bool) (connected : Option Nat)
  | post (e : PostEntry) (row : Fin 64) (col : Fin 2) (liveCall : Option Nat)
  | sectionView (v : SectionView)
  | channels (t : List Channel) (holders : List (Option Nat)) (joins : List Join) (autoOffer : Bool)
  | unresolved (u : Option Unresolved)
  | history (r : Option HistRec) (count : Nat)
  | measurement (last : Option MeasResult) (now : MeasureProgress)
deriving DecidableEq, Repr

/-- A reply frame: its kind, tag, status and fields (R189). -/
structure Reply where
  kind : Nat
  tag : Byte
  status : Status
  body : ReplyBody
deriving DecidableEq, Repr

/-! ## The whole part -/

/-- The state of the part. `resetHeld` is the RESET input held asserted, `poweringUp` that power is still coming up (R199). -/
structure State where
  rx : Receiver
  buffer : List BufEntry
  reply : Option Reply
  headTaken : Bool
  resetHeld : Bool
  poweringUp : Bool
  mode : Mode
  globals : Globals
  events : List Event
  seconds : Nat
  nowMs : Nat
  dir : Vector (Vector (Option PostEntry) 2) 64
  rosters : Vector (Vector (Option Nat) 15) 8
  unresolved : Option Unresolved
  secs : Vector SectionCtl 8
  ltu : Vector LtuSection 8
  calls : List Call
  history : List HistRec
  nextRef : Nat
  fullEpisode : Bool
  channels : Vector Channel 4
  holders : Vector (Option Nat) 8
  joins : Vector Join 8
  dispatchDue : Bool
  pending : List Instr
deriving DecidableEq, Repr

/-- No wake reason. -/
def ReasonSet.empty : ReasonSet := ⟨false, false, false, false, false⟩

/-- The defaults of the global settings (R194). -/
def Globals.default : Globals := ⟨10, 20, 60, 8, 6, 4, 0, 110, true⟩

/-- The defaults of the section timing (04, section timing). -/
def Timing.default : Timing := ⟨400, 2, 60, 900, 0, 3, 3, 2⟩

/-- A section controller at device reset (R60, R65, R82, R98); its input levels low (DESIGN CHOICE, unsafe, log 7). -/
def SectionCtl.reset : SectionCtl :=
  { defn := none, timing := none, pendingTiming := none, power := .off, wakeTimer := none, settleTimer := none,
    reasons := .empty, roundDue := false, line := .down, exch := .quiet, carrier := false, disowned := false, space := false,
    stuckTimer := none, breakTimer := none, quietTimer := none, episode := false, idleSince := none, queue := [],
    inFlight := none, slot := none, anchor := none, due := none, round := none, overrun := false, bracket := none }

/-- A channel after a device reset that finds this level on its far-end-ready input (R155). -/
def Channel.resetWith (ready : Bool) : Channel := ⟨if ready then .free else .down, ready, none⟩

/-- The part right after device reset (R199), with every far-end-ready input LOW (DESIGN CHOICE, unsafe, log 6) and no command
waiting. -/
def State.reset : State :=
  { rx := .hunting, buffer := [], reply := none, headTaken := false, resetHeld := false, poweringUp := false,
    mode := .setup, globals := .default, events := [], seconds := 0, nowMs := 0,
    dir := Vector.replicate 64 (Vector.replicate 2 none),
    rosters := Vector.replicate 8 (Vector.replicate 15 none),
    unresolved := none,
    secs := Vector.replicate 8 .reset,
    ltu := Vector.replicate 8 ⟨none, none⟩,
    calls := [], history := [], nextRef := 1, fullEpisode := false,
    channels := Vector.replicate 4 (.resetWith false),
    holders := Vector.replicate 8 none,
    joins := Vector.replicate 8 .nothing,
    dispatchDue := false, pending := [] }

/-- Faults: the spec gives the part no stop, so there is none (safe). -/
inductive Fault where
deriving DecidableEq, Repr

/-- Refusals. -/
inductive Refusal where
  /-- Raised by an arm of exec whose command has no meaning in the model yet; no arm raises it (safe: the model stops). -/
  | notModelled (mnemonic : String)
deriving DecidableEq, Repr

end Sys2Proof.Machine
end

