-- ==== Sys2Proof/Machine/Flags.lean ====
section
/-! DEFINITION. The computed check flags: the CRC-16 of a frame, the CRC-8 of a section record, and the check flag the section
controller latches with a received record (R40, R41, R187). -/

namespace Sys2Proof.Machine

/-- One place of a CRC-16 with polynomial 0x1021, highest place first. -/
def crc16Place (r : BitVec 16) : BitVec 16 :=
  if r.msb then (r <<< 1) ^^^ 0x1021#16 else r <<< 1

/-- `n` places of the CRC-16. -/
def crc16Places : Nat → BitVec 16 → BitVec 16
  | 0, r => r
  | n + 1, r => crc16Places n (crc16Place r)

/-- One byte taken into the CRC-16, highest place first. -/
def crc16Byte (r : BitVec 16) (b : Byte) : BitVec 16 :=
  crc16Places 8 (r ^^^ (b.zeroExtend 16 <<< 8))

/-- The CRC-16 of the frame table: polynomial 0x1021, initial value 0xFFFF, no final inversion. -/
def crc16 (bs : List Byte) : BitVec 16 := bs.foldl crc16Byte 0xFFFF#16

/-- The high byte of a CRC-16, which a frame carries first. -/
def crc16High (bs : List Byte) : Byte := (crc16 bs >>> 8).truncate 8

/-- The low byte of a CRC-16. -/
def crc16Low (bs : List Byte) : Byte := (crc16 bs).truncate 8

/-- One place of a CRC-8 with polynomial 0x07. That a byte is taken highest place first, as the spec says of the CRC-16 and not of
the CRC-8, is the model's choice (DESIGN CHOICE, log 48). -/
def crc8Place (r : Byte) : Byte := if r.msb then (r <<< 1) ^^^ 0x07#8 else r <<< 1

/-- `n` places of the CRC-8. -/
def crc8Places : Nat → Byte → Byte
  | 0, r => r
  | n + 1, r => crc8Places n (crc8Place r)

/-- One byte taken into the CRC-8. -/
def crc8Byte (r b : Byte) : Byte := crc8Places 8 (r ^^^ b)

/-- The CRC-8 of the section record layout: polynomial 0x07, initial value 0x00, no final inversion. -/
def crc8 (bs : List Byte) : Byte := bs.foldl crc8Byte 0x00#8

end Sys2Proof.Machine

namespace Sys2Proof

/-- The bytes a record's check is computed over: address, kind, length and payload (03, byte 3 + n). -/
def LineRec.checked (r : LineRec) : List Byte := r.addr :: r.kind :: r.len :: r.payload

/-- The CRC-8 received is the one computed over the record's bytes. -/
def LineRec.crcGood (r : LineRec) : Bool := r.check == Machine.crc8 r.checked

/-- A FILLER record with a good CRC-8, which is discarded on receipt "before any other test is applied" (R41). -/
def LineRec.isFiller (r : LineRec) : Bool := r.kind == 0x0C#8 && r.crcGood

end Sys2Proof

namespace Sys2Proof.Machine

/-- A record as it may stand in the FILLER of a burst: kind FILLER, "0 to 8 bytes, any value" (03, concentrator records), its CRC-8
good, and the address that the burst's rule gives, any address of the record table where it gives none (R37, R91; log 17). -/
def Filler.admits (f : Filler) (r : LineRec) : Bool :=
  r.isFiller && decide (r.payload.length ≤ 8) && r.len == BitVec.ofNat 8 r.payload.length &&
  match f with
  | .absent => false
  | .lead => decide (r.addr.toNat ≤ 15)
  | .addressed a => r.addr == BitVec.ofNat 8 a.val

/-- The post kind codes (03, post records). -/
def PostKind.ofCode (b : Byte) : Option PostKind :=
  match b.toNat with
  | 0x41 => some .alert
  | 0x42 => some .answer
  | 0x43 => some .onhook
  | 0x44 => some .notice
  | 0x45 => some .status
  | 0x46 => some .ack
  | 0x47 => some .nack
  | _ => none

/-- A lamp code: 0 OFF, 1 STEADY, 2 SLOW, 3 FAST. -/
def LampPattern.ofCode (n : Nat) : Option LampPattern :=
  match n with
  | 0 => some .off
  | 1 => some .steady
  | 2 => some .slow
  | 3 => some .fast
  | _ => none

/-- The status layout read from a payload: none where its length is not three, an upper flag place is set, the battery is above
150 or the lamp above 3 (R40; 03, status layout). -/
def StatusFields.ofPayload (p : List Byte) : Option StatusFields :=
  match p with
  | [flags, battery, lamp] =>
    match LampPattern.ofCode lamp.toNat with
    | some l =>
      if flags.toNat < 16 && battery.toNat ≤ 150 then
        some { hookOff := flags.getLsbD 0, doorOpen := flags.getLsbD 1, impact := flags.getLsbD 2,
               selfTestFail := flags.getLsbD 3, battery := battery.toNat, lamp := l }
      else none
    | none => none
  | _ => none

/-- A post record whose check flag is good, with what it says. -/
structure GoodRec where
  addr : Addr
  kind : PostKind
  status : Option StatusFields
deriving DecidableEq, Repr

/-- A post record's payload matches its kind: three bytes of the status layout for STATUS and NOTICE, none otherwise (R40). The
outer option is whether it matches. -/
def payloadOf (k : PostKind) (p : List Byte) : Option (Option StatusFields) :=
  match k with
  | .notice | .status =>
    match StatusFields.ofPayload p with
    | some st => some (some st)
    | none => none
  | .alert | .answer | .onhook | .ack | .nack => if p.isEmpty then some none else none

/-- The check flag of R40 with what a good record says: none where the check is bad. -/
def checkRec (r : LineRec) : Option GoodRec :=
  if r.crcGood && decide (r.addr.toNat ≤ 15) && decide (r.len.toNat ≤ 8) && r.payload.length == r.len.toNat then
    match PostKind.ofCode r.kind with
    | some k =>
      match payloadOf k r.payload with
      | some st => some ⟨Fin.ofNat 16 r.addr.toNat, k, st⟩
      | none => none
    | none => none
  else none

/-- The check flags of a burst's records: none where any of them is bad (R46, R53). -/
def checkAll : List LineRec → Option (List GoodRec)
  | [] => some []
  | r :: rs =>
    match checkRec r, checkAll rs with
    | some g, some gs => some (g :: gs)
    | _, _ => none

/-- The statuses latched with the records of a burst, FILLER discarded first (R40, R41). -/
def latches (rs : List LineRec) : List CheckFlag :=
  (rs.filter (fun r => !r.isFiller)).map (fun r => if (checkRec r).isSome then .good else .bad)

/-- A burst as the controller judges it: FILLER discarded first (R41), then none where a record left has a bad check. -/
def readBurst (rs : List LineRec) : Option (List GoodRec) := checkAll (rs.filter (fun r => !r.isFiller))

end Sys2Proof.Machine
end

