-- ==== Sys2Proof/Machine/Operands.lean ====
section
/-! DEFINITION. The operand forms: how the raw fields of a request become values, are clamped or are refused (R190), the kind
table of the host link with its body lengths and modes, the status codes, and how sent records, replies and events are named on
the wire. -/

namespace Sys2Proof.Machine

/-! ## Clamping and coded fields (R190) -/

/-- "A value below the range is stored as the lowest value and one above as the highest." -/
def clampTo (lo hi v : Nat) : Nat := if v < lo then lo else if hi < v then hi else v

/-- A flag or an on/off setting: 0 no, 1 yes. -/
def flagOf (n : Nat) : Option Bool :=
  match n with
  | 0 => some false
  | 1 => some true
  | _ => none

/-- Sign + is 0 and − is 1. -/
def Sign.ofCode (n : Nat) : Option Sign :=
  match n with
  | 0 => some .plus
  | 1 => some .minus
  | _ => none

/-- Class TUNNEL 0 to SERVICE 3. -/
def PostClass.ofCode (n : Nat) : Option PostClass :=
  match n with
  | 0 => some .tunnel
  | 1 => some .bridge
  | 2 => some .openRoad
  | 3 => some .service
  | _ => none

/-- Carriageway A 0 and B 1. -/
def Carriageway.ofCode (n : Nat) : Option Carriageway :=
  match n with
  | 0 => some .a
  | 1 => some .b
  | _ => none

/-- A section number above 7 names no section. -/
def sectionOf (n : Nat) : Option SectionId := if h : n < 8 then some ⟨n, h⟩ else none

/-- An address 1 to 15; 0 and above 15 name no post address. -/
def addrOf (n : Nat) : Option Addr := if h : 1 ≤ n ∧ n < 16 then some ⟨n, h.2⟩ else none

/-- A channel number above 3 names no channel. -/
def chanOf (n : Nat) : Option ChanId := if h : n < 4 then some ⟨n, h⟩ else none

/-- The optional channel of PICK, RETRIEVE and CALL POST: 0xFF names none; the outer option is whether the field is in range. -/
def optChanOf (n : Nat) : Option (Option ChanId) :=
  if n = Config.noChannel then some none else (chanOf n).map some

/-- A post number, 1 to 59,999 (R4). -/
def isPostNumber (n : Nat) : Bool := decide (1 ≤ n ∧ n ≤ Config.postMax)

/-- A call reference is not 0 (R165). -/
def isRef (n : Nat) : Bool := decide (1 ≤ n)

/-- OK, or OK_CLAMPED where a value was clamped or degraded (R190). -/
def okStatus (asGiven : Bool) : Status := if asGiven then .ok else .okClamped

/-- A character outside 0x20 to 0x7E is replaced by '?' (R196). -/
def printable (b : Byte) : Byte := if 0x20 ≤ b.toNat ∧ b.toNat ≤ 0x7E then b else 0x3F#8

/-- The text as queued: cut to its first 32 characters, then made printable (R196). -/
def preparedText (text : List Byte) : List Byte := (text.take Config.textMax).map printable

/-- The number of text records a text is sent in: ceil(n / 8), or 1 for empty text (R57). -/
def recordCount (text : List Byte) : Nat := if text.isEmpty then 1 else (text.length + 7) / Config.textChunk

/-! ## The kind table (11, kind codes) -/

/-- The request codes, in the kind table's order. -/
inductive ReqKind where
  | identify | reset | start | setGlobals | defineSection | setSectionTiming | sectionService | sectionReset | forceIdle
  | definePost | removePost | suspendPost | resumePost | lamp | message | pollNow | measure | setChannel | answer | pick | park
  | retrieve | clear | callPost | dismiss | getEvent | listCalls | readCall | readPost | readSection | readChannels
  | readUnresolved | readHistory | readMeasurement
deriving DecidableEq, Repr

/-- The kind code of a request. -/
def ReqKind.code : ReqKind → Nat
  | .identify => 0x01
  | .reset => 0x02
  | .start => 0x03
  | .setGlobals => 0x04
  | .defineSection => 0x10
  | .setSectionTiming => 0x11
  | .sectionService => 0x12
  | .sectionReset => 0x13
  | .forceIdle => 0x14
  | .definePost => 0x20
  | .removePost => 0x21
  | .suspendPost => 0x22
  | .resumePost => 0x23
  | .lamp => 0x24
  | .message => 0x25
  | .pollNow => 0x26
  | .measure => 0x27
  | .setChannel => 0x30
  | .answer => 0x40
  | .pick => 0x41
  | .park => 0x42
  | .retrieve => 0x43
  | .clear => 0x44
  | .callPost => 0x45
  | .dismiss => 0x46
  | .getEvent => 0x50
  | .listCalls => 0x51
  | .readCall => 0x52
  | .readPost => 0x53
  | .readSection => 0x54
  | .readChannels => 0x55
  | .readUnresolved => 0x56
  | .readHistory => 0x57
  | .readMeasurement => 0x58

/-- The body bytes a kind requires; for MESSAGE, "3 + text length", the part before the text. -/
def ReqKind.bodyLen : ReqKind → Nat
  | .identify | .reset | .start | .getEvent | .listCalls | .readChannels | .readUnresolved => 0
  | .setGlobals => 9
  | .defineSection => 15
  | .setSectionTiming => 13
  | .definePost => 8
  | .sectionService | .lamp | .message | .pick | .retrieve | .callPost => 3
  | .removePost | .suspendPost | .resumePost | .setChannel | .answer | .park | .clear | .dismiss | .readCall | .readPost => 2
  | .sectionReset | .forceIdle | .pollNow | .measure | .readSection | .readHistory | .readMeasurement => 1

/-- The device modes a kind is allowed in: those of the table's column that name SETUP. -/
def ReqKind.inSetup : ReqKind → Bool
  | .identify | .reset | .start | .setGlobals | .defineSection | .setSectionTiming | .definePost | .removePost | .suspendPost
  | .resumePost | .setChannel | .getEvent | .listCalls | .readCall | .readPost | .readSection | .readChannels
  | .readUnresolved | .readHistory | .readMeasurement => true
  | .sectionService | .sectionReset | .forceIdle | .lamp | .message | .pollNow | .measure | .answer | .pick | .park | .retrieve
  | .clear | .callPost | .dismiss => false

/-- A kind is allowed in a mode: in SERVICE "every request but START" (R191). -/
def ReqKind.allowedIn (k : ReqKind) (m : Mode) : Bool :=
  match m with
  | .setup => k.inSetup
  | .service => k != .start

/-- Every request code. -/
def ReqKind.all : List ReqKind :=
  [.identify, .reset, .start, .setGlobals, .defineSection, .setSectionTiming, .sectionService, .sectionReset, .forceIdle,
   .definePost, .removePost, .suspendPost, .resumePost, .lamp, .message, .pollNow, .measure, .setChannel, .answer, .pick, .park,
   .retrieve, .clear, .callPost, .dismiss, .getEvent, .listCalls, .readCall, .readPost, .readSection, .readChannels,
   .readUnresolved, .readHistory, .readMeasurement]

/-- A kind byte is a request code of the kind table (R187). -/
def isRequestCode (b : Byte) : Bool := ReqKind.all.any (fun k => k.code == b.toNat)

/-- The status codes (11, status codes). -/
def Status.code : Status → Nat
  | .ok => 0x00
  | .okClamped => 0x01
  | .frameBad => 0x10
  | .unknownKind => 0x11
  | .wrongMode => 0x12
  | .badField => 0x13
  | .noSuchSection => 0x20
  | .noSuchPost => 0x21
  | .noSuchCall => 0x22
  | .wrongCallState => 0x23
  | .dirRowFull => 0x24
  | .addressTaken => 0x25
  | .postBusy => 0x26
  | .postHasCall => 0x27
  | .pathBusy => 0x28
  | .noChannel => 0x29
  | .channelBusy => 0x2A
  | .sectionOff => 0x2B
  | .sectionActive => 0x2C
  | .callsPresent => 0x2D
  | .queueFull => 0x2E
  | .measurePending => 0x2F
  | .tableFull => 0x30

/-- A number in one body byte. -/
def byte1 (n : Nat) : List Byte := [BitVec.ofNat 8 n]

/-- A number in two body bytes, "high byte first". -/
def byte2 (n : Nat) : List Byte := [BitVec.ofNat 8 (n / 256), BitVec.ofNat 8 n]

/-- A number in three body bytes, high byte first. -/
def byte3 (n : Nat) : List Byte := [BitVec.ofNat 8 (n / 65536), BitVec.ofNat 8 (n / 256), BitVec.ofNat 8 n]

end Sys2Proof.Machine

namespace Sys2Proof

open Machine

/-! ## The raw fields of the requests that write settings, and the body bytes they stand in -/

/-- SET GLOBALS: the eight quantities clamped; none where the auto-offer byte is neither 0 nor 1 (R194). -/
def RawGlobals.stored (g : RawGlobals) : Option Globals :=
  match flagOf g.autoOffer with
  | some a =>
    some { ageing := clampTo 5 60 g.ageing, offerTimeout := clampTo 5 120 g.offerTimeout,
           ringTimeout := clampTo 10 180 g.ringTimeout, baseTunnel := clampTo 0 12 g.baseTunnel,
           baseBridge := clampTo 0 12 g.baseBridge, baseOpen := clampTo 0 12 g.baseOpen,
           baseService := clampTo 0 12 g.baseService, lowBattery := clampTo 0 150 g.lowBattery, autoOffer := a }
  | none => none

/-- No value of the settings was clamped. -/
def RawGlobals.sameAs (g : RawGlobals) (s : Globals) : Bool :=
  g.ageing == s.ageing && g.offerTimeout == s.offerTimeout && g.ringTimeout == s.ringTimeout &&
  g.baseTunnel == s.baseTunnel && g.baseBridge == s.baseBridge && g.baseOpen == s.baseOpen &&
  g.baseService == s.baseService && g.lowBattery == s.lowBattery

/-- DEFINE SECTION: length, k and Rc clamped; none where the base chainage is above 999,999 or the sign or an enable is not one
of its values (R61). -/
def RawSection.stored (d : RawSection) : Option SectionDef :=
  match Sign.ofCode d.sign, flagOf d.hibernate, flagOf d.autoMeasure with
  | some sg, some hb, some am =>
    if d.base ≤ Config.chainageMax then
      some { base := d.base, sign := sg, length := clampTo 100 20000 d.length, k := clampTo 1000 40000 d.k,
             rc := clampTo 0 1000 d.rc, sync := d.sync, hibernate := hb, autoMeasure := am }
    else none
  | _, _, _ => none

/-- No value of the definition was clamped. -/
def RawSection.sameAs (d : RawSection) (s : SectionDef) : Bool :=
  d.length == s.length && d.k == s.k && d.rc == s.rc

/-- SET SECTION TIMING: "The poll period is clamped first, and the offset is then clamped into 0 to the clamped period minus 1"
(R62). -/
def RawTiming.stored (t : RawTiming) : Timing :=
  let period := clampTo 60 3600 t.period
  { replyWindow := clampTo 100 2000 t.replyWindow, retries := clampTo 0 3 t.retries, idleHold := clampTo 5 600 t.idleHold,
    period := period, offset := clampTo 0 (period - 1) t.offset, unreachable := clampTo 1 8 t.unreachable,
    stuck := clampTo 1 10 t.stuck, brk := clampTo 1 10 t.brk }

/-- No setting was clamped. -/
def RawTiming.sameAs (t : RawTiming) (s : Timing) : Bool :=
  t.replyWindow == s.replyWindow && t.retries == s.retries && t.idleHold == s.idleHold && t.period == s.period &&
  t.offset == s.offset && t.unreachable == s.unreachable && t.stuck == s.stuck && t.brk == s.brk

/-- The nine body bytes of SET GLOBALS. -/
def RawGlobals.body (g : RawGlobals) : List Byte :=
  byte1 g.ageing ++ byte1 g.offerTimeout ++ byte1 g.ringTimeout ++ byte1 g.baseTunnel ++ byte1 g.baseBridge ++
  byte1 g.baseOpen ++ byte1 g.baseService ++ byte1 g.lowBattery ++ byte1 g.autoOffer

/-- The fourteen body bytes of DEFINE SECTION after the section number. -/
def RawSection.body (d : RawSection) : List Byte :=
  byte3 d.base ++ byte1 d.sign ++ byte2 d.length ++ byte2 d.k ++ byte2 d.rc ++ byte2 d.sync.toNat ++ byte1 d.hibernate ++
  byte1 d.autoMeasure

/-- The twelve body bytes of SET SECTION TIMING after the section number. -/
def RawTiming.body (t : RawTiming) : List Byte :=
  byte2 t.replyWindow ++ byte1 t.retries ++ byte2 t.idleHold ++ byte2 t.period ++ byte2 t.offset ++ byte1 t.unreachable ++
  byte1 t.stuck ++ byte1 t.brk

/-- The eight body bytes of DEFINE POST. -/
def RawPost.body (p : RawPost) : List Byte :=
  byte2 p.post ++ byte1 p.sec ++ byte1 p.addr ++ byte2 p.offset ++ byte1 p.cls ++ byte1 p.cway

end Sys2Proof

namespace Sys2Proof.Machine

/-! ## Records on a pair (03, concentrator records) -/

/-- The code of a lamp pattern. -/
def LampPattern.code : LampPattern → Byte
  | .off => 0
  | .steady => 1
  | .slow => 2
  | .fast => 3

/-- The kind code of a sent record; the answer ACK is 0x46 (DEDUCED, log 16). -/
def OutKind.code : OutKind → Byte
  | .poll => 0x01
  | .ring => 0x02
  | .ringStop => 0x03
  | .connect => 0x04
  | .clear => 0x05
  | .parked => 0x06
  | .lamp _ => 0x07
  | .textHeader _ => 0x08
  | .textRecord _ => 0x09
  | .alertRegistered _ | .alertDeferred => 0x0A
  | .shutdown => 0x0B
  | .ack => 0x46

/-- The payload of a sent record; ALERT ACK carries its outcome and the call reference, 0 with DEFERRED. -/
def OutKind.payload : OutKind → List Byte
  | .lamp p => [p.code]
  | .textHeader n => [BitVec.ofNat 8 n]
  | .textRecord cs => cs
  | .alertRegistered ref => [0x01, BitVec.ofNat 8 (ref / 256), BitVec.ofNat 8 ref]
  | .alertDeferred => [0x02, 0x00, 0x00]
  | .poll | .ring | .ringStop | .connect | .clear | .parked | .shutdown | .ack => []

/-- A sent record as it stands on the pair, its CRC-8 last. -/
def OutRec.line (r : OutRec) : LineRec :=
  let p := r.kind.payload
  let a : Byte := BitVec.ofNat 8 r.addr.val
  let n : Byte := BitVec.ofNat 8 p.length
  { addr := a, kind := r.kind.code, len := n, payload := p, check := crc8 (a :: r.kind.code :: n :: p) }

/-- The records `rs` may be the record part of the burst on the pair: its FILLER first, one record of it or more where the burst has
FILLER, and then its other records (R37, R91). -/
def Burst.admits (b : Burst) (rs : List LineRec) : Bool :=
  let n := rs.length - b.recs.length
  (rs.take n).all b.filler.admits && ((rs.take n).isEmpty == (b.filler == .absent)) && rs.drop n == b.recs.map OutRec.line

/-- A transaction's kind without its payload. -/
def TxnKind.name : TxnKind → TxnName
  | .poll => .poll
  | .ring => .ring
  | .ringStop => .ringStop
  | .connect => .connect
  | .clear => .clear
  | .parked => .parked
  | .lamp _ => .lamp
  | .text _ => .text

/-- A call notice: RING, RING STOP, CONNECT, CLEAR or PARKED (R75). -/
def TxnKind.isNotice : TxnKind → Bool
  | .ring | .ringStop | .connect | .clear | .parked => true
  | .poll | .lamp _ | .text _ => false

/-- A LAMP. -/
def TxnKind.isLamp : TxnKind → Bool
  | .lamp _ => true
  | .poll | .ring | .ringStop | .connect | .clear | .parked | .text _ => false

/-- The characters of the text record at position `k`, counted from 0 (R57). -/
def textPart (chars : List Byte) (k : Nat) : List Byte := (chars.drop (Config.textChunk * k)).take Config.textChunk

/-- The record of the transaction's present step (R43); a TEXT resumes with its header while the header flag is clear, and else
with the text record after the last one delivered (R58). -/
def Txn.stepRecord (t : Txn) : OutRec :=
  match t.kind with
  | .poll => ⟨t.addr, .poll⟩
  | .ring => ⟨t.addr, .ring⟩
  | .ringStop => ⟨t.addr, .ringStop⟩
  | .connect => ⟨t.addr, .connect⟩
  | .clear => ⟨t.addr, .clear⟩
  | .parked => ⟨t.addr, .parked⟩
  | .lamp p => ⟨t.addr, .lamp p⟩
  | .text cs => if t.headerDone then ⟨t.addr, .textRecord (textPart cs t.progress)⟩ else ⟨t.addr, .textHeader (recordCount cs)⟩

/-! ## Events on the link (10, the event catalogue) -/

/-- The code by which GET EVENT's reply names an event kind. -/
def EventBody.code : EventBody → Nat
  | .callNew .. => 0x10
  | .callOffered .. => 0x11
  | .callConnected .. => 0x12
  | .callParked .. => 0x13
  | .callRequeued .. => 0x14
  | .callAbandoned .. => 0x15
  | .callEnded .. => 0x16
  | .callTableFull .. => 0x17
  | .postStatus .. => 0x20
  | .postUnreachable .. => 0x21
  | .postReachable .. => 0x22
  | .unresolvedPost .. => 0x23
  | .sectionState .. => 0x30
  | .lineBreakStart .. => 0x31
  | .lineBreakEnd .. => 0x32
  | .lineStuck .. => 0x33
  | .roundDone .. => 0x34
  | .faultLocated .. => 0x40
  | .lineClear .. => 0x41
  | .measureAborted .. => 0x42
  | .openSuspected .. => 0x50
  | .openCleared .. => 0x51
  | .transactionFailed .. => 0x60
  | .channelState .. => 0x70

/-- An event's subject: the call reference, post number, section or channel its catalogue line names. -/
def EventBody.subject : EventBody → Nat
  | .callNew ref .. | .callOffered ref .. | .callConnected ref .. | .callParked ref .. | .callRequeued ref ..
  | .callAbandoned ref .. | .callEnded ref .. => ref
  | .callTableFull i .. => i.val
  | .postStatus p .. | .postUnreachable p .. | .postReachable p .. => p
  | .unresolvedPost i .. | .sectionState i .. | .lineBreakStart i | .lineBreakEnd i | .lineStuck i | .roundDone i ..
  | .faultLocated i .. | .lineClear i .. | .measureAborted i .. | .openSuspected i .. | .openCleared i ..
  | .transactionFailed i .. => i.val
  | .channelState c .. => c.val

end Sys2Proof.Machine
end

