-- ==== Sys2Proof/Machine/Ops.lean ====
section
/-! DEFINITION. The shared operations over the state that every block uses: reading and writing the tables, posting an event,
the millisecond timers, the directory's lookups and reports, and the call table. -/

namespace Sys2Proof.Machine

/-! ## Reading and writing the tables -/

namespace State

/-- Section controller `i`. -/
def sec (s : State) (i : SectionId) : SectionCtl := s.secs.get i

/-- Section controller `i` replaced. -/
def setSec (s : State) (i : SectionId) (x : SectionCtl) : State := { s with secs := s.secs.set i.val x i.isLt }

/-- Section controller `i` changed by `f`. -/
def modSec (s : State) (i : SectionId) (f : SectionCtl → SectionCtl) : State := s.setSec i (f (s.sec i))

/-- What the line test unit holds for section `i`. -/
def ltuOf (s : State) (i : SectionId) : LtuSection := s.ltu.get i

/-- What the line test unit holds for section `i`, replaced. -/
def setLtu (s : State) (i : SectionId) (x : LtuSection) : State := { s with ltu := s.ltu.set i.val x i.isLt }

/-- Channel `c`. -/
def chan (s : State) (c : ChanId) : Channel := s.channels.get c

/-- Channel `c` replaced. -/
def setChan (s : State) (c : ChanId) (x : Channel) : State := { s with channels := s.channels.set c.val x c.isLt }

/-- The path holder of section `i` (R159). -/
def holder (s : State) (i : SectionId) : Option Nat := s.holders.get i

/-- The path holder of section `i` set. -/
def setHolder (s : State) (i : SectionId) (r : Option Nat) : State := { s with holders := s.holders.set i.val r i.isLt }

/-- The join of section `i`'s path (R160). -/
def join (s : State) (i : SectionId) : Join := s.joins.get i

/-- The join of section `i`'s path set. -/
def setJoin (s : State) (i : SectionId) (j : Join) : State := { s with joins := s.joins.set i.val j i.isLt }

/-- ATTN is high exactly when the event queue is not empty (R184). -/
def attn (s : State) : Bool := !s.events.isEmpty

/-- "While the RESET input is held asserted, and while power comes up, the part receives no frame and sends nothing" (R199). -/
def silent (s : State) : Bool := s.resetHeld || s.poweringUp

/-- READY: low while the buffer holds two entries and until a reset takes effect, else high (R188, R199). -/
def ready (s : State) : Bool := !s.silent && decide (s.buffer.length < Config.bufferDepth)

/-- The test source control output of section `i`: raised while its measurement runs (R119, R122). -/
def testSource (s : State) (i : SectionId) : Bool := (s.ltuOf i).running.isSome

end State

/-! ## Events -/

/-- The newest stored record's lost-after count raised by 1, staying at 255 (R180). -/
def bumpTail : List Event → List Event
  | [] => []
  | [e] => [{ e with lostAfter := min Config.lostMax (e.lostAfter + 1) }]
  | e :: f :: r => e :: bumpTail (f :: r)

/-- Posting an event (R177, R180): stored at the tail with the present seconds count, or lost on the tail when the queue is
full. "No record posted before the reset takes effect is stored" (R199). -/
def State.post (b : EventBody) (s : State) : State :=
  if s.silent then s
  else if s.events.length < Config.eventDepth then { s with events := s.events ++ [⟨b, s.seconds, 0⟩] }
  else { s with events := bumpTail s.events }

/-- Events posted in order. -/
def State.postAll : List EventBody → State → State
  | [], s => s
  | b :: bs, s => State.postAll bs (s.post b)

/-! ## Time -/

/-- The millisecond at which a timer runs out. -/
def Timer.due (t : Timer) : Nat := t.start + t.dur

/-- A timer of `ms` milliseconds started now. -/
def State.startTimer (s : State) (ms : Nat) : Timer := ⟨s.nowMs, ms⟩

/-- The moment a timer runs out has come: the millisecond time is at least that moment (DESIGN CHOICE, safe, log 1). -/
def State.reach (s : State) (ms : Nat) : State := { s with nowMs := max s.nowMs ms }

/-- One millisecond passes: what an empty command queue does (DESIGN CHOICE, log 1). -/
def State.tickMs (s : State) : State := { s with nowMs := s.nowMs + 1 }

/-- The seconds count rises by one, staying at its largest value (R178); the millisecond time keeps step with it, both being
timed by the one reference clock (log 1). -/
def State.tickSecond (s : State) : State :=
  { s with seconds := min Config.secondsMax (s.seconds + 1),
           nowMs := max s.nowMs (1000 * min Config.secondsMax (s.seconds + 1)) }

/-! ## What a section controller's state says -/

namespace SectionCtl

/-- The pair counts as free of carrier: none is present, or the one present is disowned (R70). -/
def pairFree (x : SectionCtl) : Bool := !x.carrier || x.disowned

/-- The controller is itself sending a burst. -/
def isSending (x : SectionCtl) : Bool :=
  match x.exch with
  | .lead _ _ | .sending _ _ | .collided _ | .answering _ _ | .shutdown _ | .announce _ => true
  | .quiet | .window _ | .reply | .retryWait | .post | .discarded | .answerDue _ _ => false

/-- The stuck timer runs: "while a carrier is present on the pair and the controller is not itself sending, in the line states
UNKNOWN, IDLE, OWNED and FOREIGN", until the carrier is disowned (R70). A carrier disowned before the section left ACTIVE, and not
dropped since, is still disowned when the section becomes ACTIVE again and starts no stuck timer (DESIGN CHOICE, log 51). -/
def stuckRuns (x : SectionCtl) : Bool :=
  x.power == .active && (x.line == .unknown || x.line == .idle || x.line == .owned || x.line == .foreign) &&
  !x.pairFree && !x.isSending

/-- The break timer runs: space is present "and the power state is ACTIVE with the line in any state other than TESTING and
BREAK" (R71). -/
def breakRuns (x : SectionCtl) : Bool :=
  x.power == .active && (x.line == .unknown || x.line == .idle || x.line == .owned || x.line == .foreign) && x.space

/-- The settle quiet timer runs: UNKNOWN, and the pair shows neither carrier nor space (R66). -/
def quietRuns (x : SectionCtl) : Bool := x.power == .active && x.line == .unknown && x.pairFree && !x.space

/-- A timer that runs exactly while `run` holds: it keeps its start and its limit while it runs on (R64). -/
def keepTimer (run : Bool) (t : Option Timer) (now dur : Nat) : Option Timer :=
  if run then some (t.getD ⟨now, dur⟩) else none

/-- The applied timing; a defined section always has one (R61). -/
def timingD (x : SectionCtl) : Timing := x.timing.getD Timing.default

/-- The three line timers started and stopped as the state of the line and of the pair asks (R66, R70, R71). A timer that has stopped
starts again from zero, the stuck timer after the controller's own sending under one carrier too (DESIGN CHOICE, log 46). -/
def retime (now : Nat) (x : SectionCtl) : SectionCtl :=
  { x with stuckTimer := keepTimer x.stuckRuns x.stuckTimer now (1000 * x.timingD.stuck),
           breakTimer := keepTimer x.breakRuns x.breakTimer now (1000 * x.timingD.brk),
           quietTimer := keepTimer x.quietRuns x.quietTimer now Config.quietMs }

/-- The line feed: 0 removed, 1 low, 2 full (R83). -/
def lineFeed (x : SectionCtl) : Fin 3 :=
  match x.power with
  | .off => 0
  | .hibernate => 1
  | .waking _ | .active | .settling _ => 2

/-- A transaction of the host. -/
def isHost (t : Txn) : Bool := t.origin == .host

/-- The host count: "those in the queue, plus a host entry in flight" (R76). -/
def hostCount (x : SectionCtl) : Nat :=
  (x.queue.filter isHost).length + (match x.inFlight with | some t => if isHost t then 1 else 0 | none => 0)

/-- The section's sync word; a section that sends is defined. -/
def syncWord (x : SectionCtl) : SyncWord :=
  match x.defn with
  | some d => d.sync
  | none => 0

/-- The round's poll in flight, on the line or kept after a yield or a break, with its counts (R98). -/
def pollInFlight (x : SectionCtl) : Option KeptPoll :=
  match x.inFlight with
  | some t => if t.kind == .poll then some ⟨t.addr, t.attempts, t.losses⟩ else x.round.bind Round.kept
  | none => x.round.bind Round.kept

end SectionCtl

/-- Section controller `i` changed by `f` where the change touches the line, the pair or the power state: its line timers follow
(R66, R70, R71). -/
def State.modLine (s : State) (i : SectionId) (f : SectionCtl → SectionCtl) : State :=
  s.setSec i ((f (s.sec i)).retime s.nowMs)

/-- A reason joins the wake reason set (R82, R89). -/
def ReasonSet.add (r : ReasonSet) (w : WakeReason) : ReasonSet :=
  match w with
  | .post => { r with post := true }
  | .host => { r with host := true }
  | .call => { r with call := true }
  | .schedule => { r with schedule := true }
  | .reset => { r with reset := true }

/-! ## Sorting -/

/-- `x` put into a list before the first element it does not come after. -/
def insertBy {α : Type} (le : α → α → Bool) (x : α) : List α → List α
  | [] => [x]
  | y :: ys => if le x y then x :: y :: ys else y :: insertBy le x ys

/-- A list in the order of `le`. -/
def sortBy {α : Type} (le : α → α → Bool) : List α → List α
  | [] => []
  | x :: xs => insertBy le x (sortBy le xs)

/-! ## The post directory -/

/-- The row of a post number: (P mod 64) XOR ((P div 64) mod 64) (R2). -/
def rowOf (p : Nat) : Fin 64 := ((BitVec.ofNat 6 p) ^^^ (BitVec.ofNat 6 (p / 64))).toFin

namespace State

/-- The entry at a row and column. -/
def entry (s : State) (r : Fin 64) (c : Fin 2) : Option PostEntry := (s.dir.get r).get c

/-- The entry at a row and column written. -/
def setEntry (s : State) (r : Fin 64) (c : Fin 2) (e : Option PostEntry) : State :=
  { s with dir := s.dir.set r.val ((s.dir.get r).set c.val e c.isLt) r.isLt }

/-- The lookup by post number (R4): both columns of the hashed row. -/
def lookup (s : State) (p : Nat) : Option (Fin 2 × PostEntry) :=
  match s.entry (rowOf p) 0 with
  | some e =>
    if e.post = p then some (0, e)
    else match s.entry (rowOf p) 1 with
      | some f => if f.post = p then some (1, f) else none
      | none => none
  | none =>
    match s.entry (rowOf p) 1 with
    | some f => if f.post = p then some (1, f) else none
    | none => none

/-- The roster slot of a section and address (R3); "No roster has a slot for address 0". -/
def slotAt (s : State) (i : SectionId) (a : Addr) : Option Nat :=
  if h : 1 ≤ a.val then (s.rosters.get i).get ⟨a.val - 1, by omega⟩ else none

/-- The roster slot of a section and address written; nothing for address 0. -/
def setSlot (s : State) (i : SectionId) (a : Addr) (p : Option Nat) : State :=
  if h : 1 ≤ a.val then
    { s with rosters := s.rosters.set i.val ((s.rosters.get i).set (a.val - 1) p (by omega)) i.isLt }
  else s

/-- The entry of the post that a roster slot names. -/
def entryAt (s : State) (i : SectionId) (a : Addr) : Option PostEntry :=
  match s.slotAt i a with
  | some p => (s.lookup p).map Prod.snd
  | none => none

/-- The entry of post `p`, if it has one, changed by `f`. -/
def modEntry (s : State) (p : Nat) (f : PostEntry → PostEntry) : State :=
  match s.lookup p with
  | some (c, e) => s.setEntry (rowOf p) c (some (f e))
  | none => s

/-- Every valid directory entry, in row and column order. -/
def entries (s : State) : List PostEntry := s.dir.toList.flatMap (fun r => r.toList.filterMap id)

/-- Every valid directory entry of a section. -/
def postsOn (s : State) (i : SectionId) : List PostEntry := s.entries.filter (fun e => e.sec = i)

/-- The largest offset among a section's valid entries, 0 where there is none (R13). -/
def largestOffset (s : State) (i : SectionId) : Nat := (s.postsOn i).foldl (fun m e => max m e.offset) 0

/-- The lookup by section and address (R5). -/
def resolve (s : State) (i : SectionId) (a : Addr) : Resolution :=
  match s.entryAt i a with
  | some e => ⟨e.post, e.cls, e.cway, some e.offset, some e.service⟩
  | none => ⟨0, .service, .both, none, none⟩

end State

/-- The supervision fields at their defined-post values (R8). -/
def PostEntry.supervisionReset (e : PostEntry) : PostEntry :=
  { e with lastStatus := none, lastReply := none, missed := 0, reachable := true, lowBattery := false }

/-- The status a first report is compared with: ON, CLOSED, NONE, PASS (R14). -/
def StatusFields.initial : StatusFields := ⟨false, false, false, false, 0, .off⟩

/-- The change set of a report against the stored status (R14); lamp and battery never enter it. -/
def changesOf (old new : StatusFields) : ChangeSet :=
  ⟨old.hookOff != new.hookOff, old.doorOpen != new.doorOpen, old.impact != new.impact, old.selfTestFail != new.selfTestFail⟩

/-- Some field is in the change set. -/
def ChangeSet.any (c : ChangeSet) : Bool := c.hook || c.door || c.impact || c.selfTest

/-- The battery crossing between the stored mark and the new one (R14). -/
def crossingOf (old new : Bool) : Option Crossing :=
  if old == new then none else if new then some .downward else some .upward

/-- An entry as a status report leaves it (R14). -/
def PostEntry.reported (e : PostEntry) (st : StatusFields) (time threshold : Nat) : PostEntry :=
  { e with lastStatus := some st, lastReply := some time, missed := 0, reachable := true,
           lowBattery := decide (st.battery < threshold) }

/-- An entry as a missed-poll report leaves it (R15). -/
def PostEntry.missedPoll (e : PostEntry) (threshold : Nat) : PostEntry :=
  { e with missed := min Config.missedMax (e.missed + 1),
           reachable := decide (min Config.missedMax (e.missed + 1) < threshold) }

/-- An entry as a threshold application leaves it (R17). -/
def PostEntry.rethreshold (e : PostEntry) (threshold : Nat) : PostEntry :=
  { e with reachable := decide (e.missed < threshold) }

/-- The events the controller posts from the directory's answer to a status report, in the order of R108. -/
def statusEvents (e : PostEntry) (st : StatusFields) (threshold : Nat) : List EventBody :=
  let changes := changesOf (e.lastStatus.getD .initial) st
  let crossing := crossingOf e.lowBattery (decide (st.battery < threshold))
  (if e.reachable then [] else [.postReachable e.post e.sec e.addr 0]) ++
  (if changes.any || crossing.isSome then [.postStatus e.post e.sec e.addr changes crossing st] else [])

/-- A status report (R14, R16) with the events that follow from it (R108): nothing where the slot is empty. -/
def State.statusReport (s : State) (i : SectionId) (a : Addr) (st : StatusFields) : State :=
  match s.entryAt i a with
  | some e =>
    (s.modEntry e.post (fun x => x.reported st s.seconds s.globals.lowBattery)).postAll (statusEvents e st s.globals.lowBattery)
  | none => s

/-- A missed-poll report (R15, R16) with the event that follows where the post has become unreachable (R110). -/
def State.missedReport (s : State) (i : SectionId) (a : Addr) : State :=
  match s.entryAt i a with
  | some e =>
    let e' := e.missedPoll (s.sec i).timingD.unreachable
    let s := s.modEntry e.post (fun x => x.missedPoll (s.sec i).timingD.unreachable)
    if e.reachable && !e'.reachable then s.post (.postUnreachable e.post e.sec e.addr e'.missed) else s
  | none => s

/-- The row of the directory with every entry of section `i` re-evaluated against a threshold (R17). -/
def rethresholdRow (i : SectionId) (threshold : Nat) (r : Vector (Option PostEntry) 2) : Vector (Option PostEntry) 2 :=
  let f : Option PostEntry → Option PostEntry := fun o =>
    match o with
    | some e => some (if e.sec = i then e.rethreshold threshold else e)
    | none => none
  (r.set 0 (f (r.get 0))).set 1 (f (r.get 1))

/-- Rows from the last of a list of row numbers to its first, re-evaluated (R17). -/
def rethresholdRows (i : SectionId) (threshold : Nat) :
    List (Fin 64) → Vector (Vector (Option PostEntry) 2) 64 → Vector (Vector (Option PostEntry) 2) 64
  | [], d => d
  | r :: rs, d => rethresholdRows i threshold rs (d.set r.val (rethresholdRow i threshold (d.get r)) r.isLt)

/-- The row numbers of the directory. -/
def allRows : List (Fin 64) := (List.range 64).map (fun n => Fin.ofNat 64 n)

/-- The flip event of an entry whose reachable field a threshold changes (R64, R112). -/
def flipEvent (threshold : Nat) (e : PostEntry) : Option EventBody :=
  if e.reachable == (e.rethreshold threshold).reachable then none
  else if e.reachable then some (.postUnreachable e.post e.sec e.addr e.missed)
  else some (.postReachable e.post e.sec e.addr e.missed)

/-- A threshold application (R17) with its flips posted in address order (R64, R112). -/
def State.applyThreshold (s : State) (i : SectionId) (threshold : Nat) : State :=
  let flips := (sortBy (fun a b : PostEntry => decide (a.addr.val ≤ b.addr.val)) (s.postsOn i)).filterMap (flipEvent threshold)
  { s with dir := rethresholdRows i threshold allRows s.dir }.postAll flips

/-! ## The call table -/

namespace State

/-- The live call of a reference. -/
def findCall (s : State) (ref : Nat) : Option Call := s.calls.find? (fun c => c.ref == ref)

/-- The live call that names a section and address (R6). -/
def callAt (s : State) (i : SectionId) (a : Addr) : Option Call := s.calls.find? (fun c => c.sec == i && c.addr == a)

/-- The live call of a reference changed by `f`. -/
def modCall (s : State) (ref : Nat) (f : Call → Call) : State :=
  { s with calls := s.calls.map (fun c => if c.ref == ref then f c else c) }

/-- The live calls of a section. -/
def callsOn (s : State) (i : SectionId) : List Call := s.calls.filter (fun c => c.sec == i)

end State

/-- Earlier arrival first, lower reference first among equals (R145, R152). -/
def Call.before (a b : Call) : Bool := decide (a.arrival < b.arrival) || (a.arrival == b.arrival && decide (a.ref ≤ b.ref))

/-- A call's connected seconds at a moment (R133). -/
def Call.connectedSeconds (c : Call) (now : Nat) : Nat :=
  match c.connectedSince with
  | some t => c.connectedTotal + (now - t)
  | none => c.connectedTotal

/-- A call's connected time closed off as it leaves CONNECTED for another state (R133). -/
def Call.closeConnected (c : Call) (now : Nat) : Call :=
  { c with connectedTotal := c.connectedSeconds now, connectedSince := none }

end Sys2Proof.Machine
end

