-- ==== Sys2Proof/Machine/Loc.lean ====
section
/-! DEFINITION. The location calculator (02): rounding, chainage, call locations, trimming, fault distance, bracket and nearest
post, the open-bracket midpoint and the priority score. It holds no state (R22). -/

namespace Sys2Proof.Machine

/-- round(N / D): halves rounded upward (R23). -/
def roundDiv (n d : Nat) : Nat := if d ≤ 2 * (n % d) then n / d + 1 else n / d

/-- The definition of a section in use; a section that is put in use is defined, so the default is never read (log 37). -/
def SectionCtl.defnD (x : SectionCtl) : SectionDef := x.defn.getD ⟨0, .plus, 100, 1000, 0, 0, false, false⟩

/-- The chainage of an offset and its clamped flag (R24). -/
def SectionDef.chainage (d : SectionDef) (o : Nat) : Nat × Bool :=
  let v : Int := match d.sign with
    | .plus => (d.base : Int) + o
    | .minus => (d.base : Int) - o
  if v < 0 then (0, true) else if (Config.chainageMax : Int) < v then (Config.chainageMax, true) else (v.toNat, false)

/-- A call's location from its section's definition and the slot's resolution (R25, R26). -/
def SectionDef.location (d : SectionDef) (r : Resolution) : Location :=
  match r.offset with
  | some o =>
    { chainage := (d.chainage o).1, cway := r.cway,
      basis := if r.service = some .suspended then .suspended else .directory, clamped := (d.chainage o).2 }
  | none =>
    let m := roundDiv d.length 2
    { chainage := (d.chainage m).1, cway := .both, basis := .sectionOnly, clamped := (d.chainage m).2 }

/-! ## A measurement's samples -/

/-- "A reading at or above the top of the sample scale is stored as 60,000" (R27). -/
def storedSample (reading : Nat) : Nat := min Config.sampleMax reading

/-- How many samples are saturated (R27). -/
def saturatedCount (samples : List Nat) : Nat := (samples.filter (fun v => v == Config.sampleMax)).length

/-- The two samples left when the lowest and the highest of the four are dropped (R28); none is the CLEAR verdict (R27). -/
def trim (samples : List Nat) : Option (Nat × Nat) :=
  if 2 ≤ saturatedCount samples then none
  else match sortBy (fun a b : Nat => decide (a ≤ b)) samples with
    | [_, a, b, _] => some (a, b)
    | _ => none

/-- The unsteady test (R29). -/
def unsteady (a b : Nat) : Bool := decide (a < (b - a) * 10)

/-- The fault distance before the section's length is applied (R30). -/
def SectionDef.rawDistance (d : SectionDef) (rm : Nat) : Nat :=
  if rm ≤ d.rc then 0 else roundDiv ((rm - d.rc) * 10000) d.k

/-- The fault distance and the beyond-end flag (R31). -/
def SectionDef.distance (d : SectionDef) (rm : Nat) : Nat × Bool :=
  if d.length < d.rawDistance rm then (d.length, true) else (d.rawDistance rm, false)

/-- Lower offset first, lower address first among equals (R32, R113). -/
def PostEntry.beforeByOffset (a b : PostEntry) : Bool :=
  decide (a.offset < b.offset) || (a.offset == b.offset && decide (a.addr.val ≤ b.addr.val))

/-- Posts in order of offset and address (R32, R113). -/
def byOffset (ps : List PostEntry) : List PostEntry := sortBy PostEntry.beforeByOffset ps

/-- The bracket of a distance among posts in order (R32). -/
def bracketOf (ps : List PostEntry) (d : Nat) : BracketEnd × BracketEnd :=
  ((match (ps.filter (fun e => decide (e.offset ≤ d))).getLast? with
    | some e => .post e.post
    | none => .cabinet),
   (match ps.find? (fun e => decide (d < e.offset)) with
    | some e => .post e.post
    | none => .sectionEnd))

/-- How far a post is from a distance, "taken without sign" (R32). -/
def apart (o d : Nat) : Nat := if o ≤ d then d - o else o - d

/-- The first of the posts in order that is closest to a distance (R32). -/
def nearestOf (d : Nat) : List PostEntry → Option PostEntry
  | [] => none
  | e :: es =>
    match nearestOf d es with
    | some f => if apart f.offset d < apart e.offset d then some f else some e
    | none => some e

/-- The midpoint offset of an open-fault bracket (R33). -/
def midpoint (oa ob : Nat) : Nat := roundDiv (oa + ob) 2

/-- The result of a completed measurement (R122, R123, R27 to R32). -/
def SectionDef.result (d : SectionDef) (i : SectionId) (posts : List PostEntry) (time : Nat) (trigger : Trigger)
    (samples : List Nat) : MeasResult :=
  match trim samples with
  | some (a, b) =>
    let rm := roundDiv (a + b) 2
    let dist := d.distance rm
    let ch := d.chainage dist.1
    { sec := i, time := time, trigger := trigger, samples := samples, verdict := .short, rm := some rm,
      distance := some dist.1, beyondEnd := dist.2, unsteady := unsteady a b, chainage := some ch.1, clamped := ch.2,
      nearest := (nearestOf dist.1 (byOffset posts)).map PostEntry.post, bracket := some (bracketOf (byOffset posts) dist.1) }
  | none =>
    { sec := i, time := time, trigger := trigger, samples := samples, verdict := .clear, rm := none, distance := none,
      beyondEnd := false, unsteady := false, chainage := none, clamped := false, nearest := none, bracket := none }

/-- The result of a measurement aborted while running (R123, R125). -/
def abortedResult (i : SectionId) (time : Nat) (trigger : Trigger) (samples : List Nat) : MeasResult :=
  { sec := i, time := time, trigger := trigger, samples := samples, verdict := .aborted, rm := none, distance := none,
    beyondEnd := false, unsteady := false, chainage := none, clamped := false, nearest := none, bracket := none }

/-- The event a completed measurement posts (R124). -/
def MeasResult.event (r : MeasResult) : EventBody :=
  match r.distance, r.chainage, r.bracket with
  | some d, some c, some b => .faultLocated r.sec r.trigger d c r.clamped r.beyondEnd r.unsteady r.nearest b.1 b.2
  | _, _, _ => .lineClear r.sec r.trigger (saturatedCount r.samples)

/-! ## The priority score -/

/-- The class base of a class (R34). -/
def Globals.classBase (g : Globals) : PostClass → Nat
  | .tunnel => g.baseTunnel
  | .bridge => g.baseBridge
  | .openRoad => g.baseOpen
  | .service => g.baseService

/-- The ageing step count of a waiting time (R35). -/
def ageingSteps (w interval : Nat) : Nat := min 7 (w / interval)

/-- The score of a call (R34). -/
def State.score (s : State) (c : Call) : Nat :=
  min 15 (s.globals.classBase c.cls + ageingSteps (s.seconds - c.arrival) s.globals.ageing + c.boost)

end Sys2Proof.Machine
end

