-- ==== Sys2Proof/Machine/Line.lean ====
section
/-! DEFINITION. What a section controller does by itself: starting a transaction attempt and a MEASURE, the poll round and its
close, applying a timing record, entering IDLE, the line arbiter, and the wake causes. The call manager's operations stand above
this file, so nothing here asks for a call. -/

namespace Sys2Proof.Machine

/-! ## Sending -/

/-- The burst of an attempt: sync word, FILLER through the lead window, and the record of the transaction's step (R37). -/
def SectionCtl.attemptBurst (x : SectionCtl) (t : Txn) : Burst := ⟨x.syncWord, .lead, [t.stepRecord]⟩

/-- An attempt of the transaction `t`, which is in flight, its lead window starting with its preamble (R37, R43, R47, R49). A part
that may send nothing (R199, log 8) leaves the attempt waiting. -/
def SectionCtl.withAttempt (silent : Bool) (now : Nat) (t : Txn) (x : SectionCtl) : SectionCtl :=
  { x with line := .owned, inFlight := some t,
           exch := if silent then .retryWait else .lead (x.attemptBurst t) ⟨now, Config.leadMs⟩ }

/-- Section `i` starts an attempt of `t`. -/
def State.sendAttempt (i : SectionId) (t : Txn) (s : State) : State := s.modLine i (SectionCtl.withAttempt s.silent s.nowMs t)

/-- A transaction as it is first placed: "A new entry starts with arbitration-loss count 0, attempts used 0, progress 0 and its
header flag clear" (R74). -/
def Txn.fresh (k : TxnKind) (a : Addr) (o : TxnOrigin) : Txn := ⟨k, a, o, 0, 0, 0, false⟩

/-- The round's poll of an address: its counts start at 0, or are those it was kept with where it was kept at this address
(R103). -/
def pollTxn (kept : Option KeptPoll) (a : Addr) : Txn :=
  match kept with
  | some k => if k.addr = a then ⟨.poll, a, .round, k.attempts, k.losses, 0, false⟩ else Txn.fresh .poll a .round
  | none => Txn.fresh .poll a .round

/-! ## The poll round -/

/-- An address is eligible when its slot holds a post whose entry is IN SERVICE (R103). -/
def State.eligibleAddr (s : State) (i : SectionId) (a : Addr) : Bool :=
  match s.entryAt i a with
  | some e => e.service == .inService
  | none => false

/-- The lowest eligible address at or above the cursor (R103). -/
def State.nextEligible (s : State) (i : SectionId) (cursor : Nat) : Option Addr :=
  postAddrs.find? (fun a => decide (cursor ≤ a.val) && s.eligibleAddr i a)

/-- The reachable posts at the front of the order and the rest of it (R113). -/
def splitReachable : List PostEntry → List PostEntry × List PostEntry
  | [] => ([], [])
  | e :: es => if e.reachable then (e :: (splitReachable es).1, (splitReachable es).2) else ([], e :: es)

/-- The candidate bracket with the offsets of its ends (R113, R33), from a section's posts. -/
def candidateBracket (posts : List PostEntry) : Option (OpenBracket × Nat × Nat) :=
  let parts := splitReachable (byOffset (posts.filter (fun e => e.service == .inService)))
  match parts.2 with
  | [] => none
  | u :: rest =>
    if rest.any PostEntry.reachable then none
    else match parts.1.getLast? with
      | some l => some (⟨.post l.post, u.post⟩, l.offset, u.offset)
      | none => some (⟨.cabinet, u.post⟩, 0, u.offset)

/-- The candidate bracket compared with the stored one (R114). -/
def State.compareBracket (i : SectionId) (s : State) : State :=
  let x := s.sec i
  match x.bracket, candidateBracket (s.postsOn i) with
  | none, none => s
  | some b, none => (s.modSec i (fun x => { x with bracket := none })).post (.openCleared i b)
  | stored, some (c, oa, ob) =>
    if stored = some c then s
    else
      let ch := x.defnD.chainage (midpoint oa ob)
      (s.modSec i (fun x => { x with bracket := some c })).post (.openSuspected i c ch.1 ch.2)

/-- A round that closes with its work done (R105); nothing where none is open. -/
def State.closeRound (i : SectionId) (s : State) : State :=
  match (s.sec i).round with
  | some r =>
    (((s.modSec i (fun x => { x with round := none })).post
      (.roundDone i (s.sec i).overrun r.answered r.missed r.skipped)).modSec i
      (fun x => { x with overrun := false })).compareBracket i
  | none => s

/-- A round closes at once where no eligible address remains at or above its cursor (R102, R104, R105). -/
def State.closeIfDone (i : SectionId) (s : State) : State :=
  match (s.sec i).round with
  | some r => if (s.nextEligible i r.cursor).isSome then s else s.closeRound i
  | none => s

/-- A round opens (R102). -/
def State.openRound (i : SectionId) (s : State) : State :=
  (s.modSec i (fun x => { x with round := some ⟨1, none, 0, 0, 0⟩ })).closeIfDone i

/-- A poll ended: the round's counts, the cursor past the address, no poll in flight, and the close where nothing is left
(R104). -/
def State.pollEnded (i : SectionId) (a : Addr) (count : Round → Round) (s : State) : State :=
  match (s.sec i).round with
  | some r =>
    (s.modSec i (fun x => { x with round := some { count r with cursor := a.val + 1, kept := none } })).closeIfDone i
  | none => s

/-! ## The MEASURE slot -/

/-- The MEASURE in the slot may run: "an automatic MEASURE always may; a host MEASURE may when the call manager's path holder
for the section is empty" (R73, R118). -/
def State.measureRunnable (s : State) (i : SectionId) : Bool :=
  match (s.sec i).slot with
  | some .auto => true
  | some .host => (s.holder i).isNone
  | none => false

/-- The arbiter starts the MEASURE in the slot (R119). -/
def State.startMeasure (i : SectionId) (s : State) : State :=
  match (s.sec i).slot with
  | some t =>
    (s.setLtu i { s.ltuOf i with running := some ⟨t, s.seconds, s.nowMs, []⟩ }).modLine i
      (fun x => { x with slot := none, line := .testing, exch := .quiet })
  | none => s

/-! ## The line arbiter -/

/-- The arbiter comes to the open round: it starts the next poll, or closes the round (R73, R103). -/
def State.arbitrateRound (i : SectionId) (s : State) : State :=
  match (s.sec i).round with
  | some r =>
    match s.nextEligible i r.cursor with
    | some a =>
      (s.modSec i (fun x => { x with round := some { r with cursor := a.val, kept := none } })).sendAttempt i
        (pollTxn r.kept a)
    | none => s.closeRound i
  | none => s

/-- The line arbiter (R73): a MEASURE that may run, then the queue's head, then the open round. A carrier that is not disowned
holds it back in IDLE (R68, log 11); in BREAK it selects the MEASURE only; elsewhere it does not act. In a part that may send
nothing it starts no transaction (R199, log 8). -/
def State.arbiter (i : SectionId) (s : State) : State :=
  match (s.sec i).line with
  | .idle =>
    if !(s.sec i).pairFree then s
    else if s.measureRunnable i then s.startMeasure i
    else if s.silent then s
    else match (s.sec i).queue with
      | t :: q => (s.modSec i (fun x => { x with queue := q })).sendAttempt i t
      | [] => s.arbitrateRound i
  | .brk => if s.measureRunnable i then s.startMeasure i else s
  | .down | .unknown | .owned | .foreign | .testing => s

/-- Work other than a MEASURE arrives: the arbiter acts "when work arrives while the line is IDLE" (R73). -/
def State.workArrived (i : SectionId) (s : State) : State := if (s.sec i).line = .idle then s.arbiter i else s

/-! ## Timing records -/

/-- The first time of the form S + offset + n × period above a seconds count (R101). -/
def nextDue (anchor offset period now : Nat) : Nat :=
  if now < anchor + offset then anchor + offset
  else anchor + offset + ((now - (anchor + offset)) / period + 1) * period

/-- The due time after a timing record is applied (R101). -/
def SectionCtl.movedDue (x : SectionCtl) (t : Timing) (now : Nat) : Option Nat :=
  if x.timingD.period = t.period ∧ x.timingD.offset = t.offset then x.due
  else match x.anchor with
    | some a => some (nextDue a t.offset t.period now)
    | none => x.due

/-- A timing record applied (R64, R101), with its threshold application (R17, R112). -/
def State.applyTiming (i : SectionId) (t : Timing) (s : State) : State :=
  (s.modSec i (fun x => { x with timing := some t, pendingTiming := none, due := x.movedDue t s.seconds })).applyThreshold i
    t.unreachable

/-- The pending record applied, where one is held (R63). -/
def State.applyPending (i : SectionId) (s : State) : State :=
  match (s.sec i).pendingTiming with
  | some t => s.applyTiming i t
  | none => s

/-! ## Entering IDLE -/

/-- The line enters IDLE up to the arbiter's act: pending timing applied, then the idle-since time set (R63, R68). -/
def State.settleIdle (i : SectionId) (s : State) : State :=
  (s.applyPending i).modLine i (fun x => { x with line := .idle, exch := .quiet, idleSince := some s.nowMs })

/-- The line enters IDLE and the arbiter acts (R68). -/
def State.enterIdle (i : SectionId) (s : State) : State := (s.settleIdle i).arbiter i

/-- A burst that the controller takes with the section's sync word has ended (R48, R69). -/
def State.burstEnded (i : SectionId) (s : State) : State := s.modSec i (fun x => { x with idleSince := some s.nowMs })

/-! ## Waking -/

/-- A section enters WAKING with POWER-UP and a reason set (R89, R90): a burst being sent is cut off, the settle timer stops. -/
def State.startWake (i : SectionId) (r : ReasonSet) (s : State) : State :=
  s.modLine i (fun x =>
    { x with power := .waking .powerUp, line := .down, exch := .quiet, settleTimer := none,
             wakeTimer := some ⟨s.nowMs, Config.powerUpMs⟩, reasons := r, idleSince := none })

/-- A return from SETTLING to ACTIVE (R86, R87), which is an occasion for the dispatcher (R161). -/
def State.toActive (i : SectionId) (s : State) : State :=
  { s.modLine i (fun x =>
      { x with power := .active, line := .idle, exch := .quiet, settleTimer := none, idleSince := some s.nowMs }) with
    dispatchDue := true }

/-- A wake cause reaches a section (R87, R89, R92): it wakes a HIBERNATE section, adds its reason in WAKING, returns a SETTLING
section to ACTIVE, and does nothing in ACTIVE. -/
def State.arrive (i : SectionId) (w : WakeReason) (s : State) : State :=
  match (s.sec i).power with
  | .hibernate => s.startWake i (ReasonSet.empty.add w)
  | .waking _ => s.modSec i (fun x => { x with reasons := x.reasons.add w })
  | .settling _ => s.toActive i
  | .off | .active => s

/-- The service of a section begins (R94, R97, R99). -/
def State.beginService (i : SectionId) (s : State) : State :=
  (s.startWake i (ReasonSet.empty.add .host)).modSec i (fun x =>
    { x with anchor := some s.seconds,
             due := some (s.seconds + (if x.timingD.offset = 0 then x.timingD.period else x.timingD.offset)),
             roundDue := decide (x.timingD.offset = 0) })

/-! ## The transaction queue -/

/-- A call notice joins a queue, in the place of a call notice for its address where one stands (R75). -/
def joinNotice (t : Txn) (q : List Txn) : List Txn :=
  if q.any (fun u => u.kind.isNotice && u.addr == t.addr) then
    q.map (fun u => if u.kind.isNotice && u.addr == t.addr then t else u)
  else q ++ [t]

/-- A LAMP joins a queue, in the place of a LAMP for its address where one stands (R76). -/
def joinLamp (t : Txn) (q : List Txn) : List Txn :=
  if q.any (fun u => u.kind.isLamp && u.addr == t.addr) then
    q.map (fun u => if u.kind.isLamp && u.addr == t.addr then t else u)
  else q ++ [t]

/-- Section `i`'s queue changed by `f`. -/
def State.modQueue (i : SectionId) (f : List Txn → List Txn) (s : State) : State :=
  s.modSec i (fun x => { x with queue := f x.queue })

/-- The call manager offers a call notice (R75): discarded in OFF, else a wake cause (R89) that joins the queue and lets the
arbiter act. -/
def State.offerNotice (i : SectionId) (a : Addr) (k : TxnKind) (ref : Nat) (s : State) : State :=
  match (s.sec i).power with
  | .off => s
  | .waking _ | .active | .settling _ | .hibernate =>
    ((s.arrive i .call).modQueue i (joinNotice (.fresh k a (.call ref)))).workArrived i

/-- A closing notice offered while its section is being reset joins the queue "without acting as a wake cause" (R81). -/
def State.offerQuietNotice (i : SectionId) (a : Addr) (k : TxnKind) (ref : Nat) (s : State) : State :=
  match (s.sec i).power with
  | .off => s
  | .waking _ | .active | .settling _ | .hibernate => s.modQueue i (joinNotice (.fresh k a (.call ref)))

/-- A transaction returned to its queue (R78): to the head, but for a call notice or a LAMP that the queue already holds a newer
one of, which is dropped; a poll stays the next poll of the round. Its attempts used are "as they were", 4 included (log 50). -/
def State.returnTxn (i : SectionId) (t : Txn) (s : State) : State :=
  if t.kind = .poll then
    s.modSec i (fun x =>
      { x with round := x.round.map (fun r => { r with kept := some ⟨t.addr, t.attempts, t.losses⟩ }) })
  else s.modQueue i (fun q =>
    if (t.kind.isNotice && q.any (fun u => u.kind.isNotice && u.addr == t.addr)) ||
       (t.kind.isLamp && q.any (fun u => u.kind.isLamp && u.addr == t.addr)) then q else t :: q)

end Sys2Proof.Machine
end

