-- ==== Sys2Proof/Machine/Calls.lean ====
section
/-! DEFINITION. The call manager: channels, paths and joins, the ending of a call, eviction, references and creation, alerts,
answers and hang-ups, the requeue, and the dispatcher. -/

namespace Sys2Proof.Machine

/-! ## Channels, paths and joins -/

/-- An occasion on which the dispatcher acts at the end of the operation (R161). -/
def State.markDispatch (s : State) : State := { s with dispatchDue := true }

/-- A released channel: no call, FREE by a HIGH ready level and DOWN by a LOW one (R157). The CHANNEL_STATE of a release to DOWN
is posted by READY_LOST, the one command that releases to DOWN, after the call's own events. -/
def Channel.released (x : Channel) : Channel := ⟨if x.ready then .free else .down, x.ready, none⟩

/-- The channel a call carries, if any, released (R157); one that goes FREE is an occasion for the dispatcher (R161). -/
def State.releaseChannel (c : Option ChanId) (s : State) : State :=
  match c with
  | some ch =>
    if (s.chan ch).ready then (s.setChan ch (s.chan ch).released).markDispatch else s.setChan ch (s.chan ch).released
  | none => s

/-- The path, where this call holds it, emptied with its join (R159, R160). -/
def State.dropPath (i : SectionId) (ref : Nat) (s : State) : State :=
  if s.holder i = some ref then ((s.setHolder i none).setJoin i .nothing).markDispatch else s

/-- Some channel is FREE: the lowest-numbered one (R162). -/
def State.freeChannel (s : State) : Option ChanId := allChannels.find? (fun c => (s.chan c).state == .free)

/-! ## The dispatcher -/

/-- A call is eligible: QUEUED, its section's path empty or its own, its section ACTIVE (R162). -/
def State.eligible (s : State) (c : Call) : Bool :=
  c.state == .queued && (s.holder c.sec == none || s.holder c.sec == some c.ref) && (s.sec c.sec).power == .active

/-- Higher score first, then earlier arrival, then lower reference (R162). -/
def State.ranksBefore (s : State) (a b : Call) : Bool :=
  decide (s.score b < s.score a) || (s.score a == s.score b && a.before b)

/-- The call to be offered next (R162). -/
def State.bestCall (s : State) : Option Call := (sortBy s.ranksBefore (s.calls.filter s.eligible)).head?

/-- An offer (R163). -/
def State.offer (c : Call) (ch : ChanId) (s : State) : State :=
  ((((s.modCall c.ref (fun x =>
      { x with state := .offered, channel := some ch, offerTimer := some ⟨s.nowMs, 1000 * s.globals.offerTimeout⟩ })).setChan ch
      ⟨.offering, (s.chan ch).ready, some c.ref⟩).setHolder c.sec (some c.ref)).setJoin c.sec .nothing).post
    (.callOffered c.ref ch (s.score c) c.post c.sec c.location)

/-- The dispatcher repeats while a channel is FREE and a call eligible (R162); four channels bound the offers of one act. -/
def State.dispatch : Nat → State → State
  | 0, s => s
  | n + 1, s =>
    match s.freeChannel, s.bestCall with
    | some ch, some c => State.dispatch n (s.offer c ch)
    | _, _ => s

/-- The end of an operation: the dispatcher acts once where an occasion came up and auto-offer is on (R161). -/
def State.finish (s : State) : State :=
  if s.dispatchDue then
    if s.globals.autoOffer then State.dispatch 4 { s with dispatchDue := false } else { s with dispatchDue := false }
  else s

/-! ## The end of a call -/

/-- The closing notice of a call (R146). -/
def Call.closing (c : Call) : TxnKind := if c.state = .ringing then .ringStop else .clear

/-- The history record of an ended call (R150). -/
def Call.histRec (c : Call) (cause : EndCause) (now : Nat) : HistRec :=
  { ref := c.ref, post := c.post, sec := c.sec, addr := c.addr, direction := c.direction, arrival := c.arrival,
    endTime := now, cause := cause, seconds := c.connectedSeconds now }

/-- The record leaves the table, its history record is written, and CALL_ENDED is posted (R145, steps 1 to 4). -/
def State.retireCall (c : Call) (cause : EndCause) (s : State) : State :=
  { ({ s with calls := s.calls.filter (fun x => x.ref != c.ref),
              history := (c.histRec cause s.seconds :: s.history).take Config.historyDepth }.post
      (.callEnded c.ref c.post c.sec c.addr c.direction cause (c.connectedSeconds s.seconds))) with fullEpisode := false }

/-- The channel and the path that a call held are released, with their joins (R145 step 6, R157, R159). -/
def State.releaseHeld (c : Call) (s : State) : State := (s.releaseChannel c.channel).dropPath c.sec c.ref

/-- What the call held is released, and the section's arbiter acts on the freed path (R145 step 6, R159; log 10). -/
def State.freeHeld (c : Call) (s : State) : State :=
  if s.holder c.sec = some c.ref then (s.releaseHeld c).arbiter c.sec else s.releaseHeld c

/-- The ending of a call (R145). On an IDLE line the closing notice of step 5 starts before the path is emptied in step 6, so a host
MEASURE that waits for the path waits for the next IDLE (log 40). -/
def State.endCall (c : Call) (cause : EndCause) (s : State) : State :=
  ((s.retireCall c cause).offerNotice c.sec c.addr c.closing c.ref).freeHeld c

/-- The ending of a call by the reset of its section, whose closing notice is no wake cause (R81 step 2). The line has been stopped
and the MEASURE slot emptied (R80), so the arbiter has no occasion (log 20). -/
def State.endCallQuietly (c : Call) (cause : EndCause) (s : State) : State :=
  ((s.retireCall c cause).offerQuietNotice c.sec c.addr c.closing c.ref).releaseHeld c

/-- Calls ended one after another (R145, last paragraph). -/
def State.endCalls (cause : EndCause) : List Call → State → State
  | [], s => s
  | c :: cs, s => State.endCalls cause cs (s.endCall c cause)

/-- Calls of a section being reset ended one after another. -/
def State.endCallsQuietly (cause : EndCause) : List Call → State → State
  | [], s => s
  | c :: cs, s => State.endCallsQuietly cause cs (s.endCallQuietly c cause)

/-- A section's calls in the order in which they are ended: arrival time, then reference (R145). -/
def State.callsInOrder (s : State) (i : SectionId) : List Call := sortBy Call.before (s.callsOn i)

/-- The ABANDONED call that eviction takes: the earliest arrival, then the lower reference (R139). -/
def State.oldestAbandoned (s : State) : Option Call :=
  (sortBy Call.before (s.calls.filter (fun c => c.state == .abandoned))).head?

/-! ## References and creation -/

/-- The reference after a value: "from 65,535 to 1" (R149). -/
def refAfter (r : Nat) : Nat := if Config.refMax ≤ r then 1 else r + 1

/-- The first candidate held by no live call (R149); the fuel is one more than the live calls. -/
def freeRef (calls : List Call) : Nat → Nat → Nat
  | 0, r => r
  | n + 1, r => if calls.any (fun c => c.ref == r) then freeRef calls n (refAfter r) else r

/-- The reference a new call takes (R149). -/
def State.newRef (s : State) : Nat := freeRef s.calls (s.calls.length + 1) s.nextRef

/-- A new call record from a slot's resolution (R130, R131, R135, R172). -/
def State.newCall (s : State) (dir : CallDirection) (o : CallOrigin) (i : SectionId) (a : Addr) (st : CallState) : Call :=
  { ref := s.newRef, direction := dir, origin := o, post := (s.resolve i a).post, sec := i, addr := a,
    cls := (s.resolve i a).cls, state := st, arrival := s.seconds, boost := 0, channel := none,
    location := (s.sec i).defnD.location (s.resolve i a), connectedSince := none, connectedTotal := 0, offerTimer := none,
    ringTimer := none }

/-- A new record joins the table, the counter moves past its reference (R149) and CALL_NEW is posted (R135, R172). -/
def State.addCall (c : Call) (s : State) : State :=
  { s with calls := s.calls ++ [c], nextRef := refAfter c.ref }.post
    (.callNew c.ref c.direction c.origin c.post c.sec c.addr c.cls c.location)

/-- A new QUEUED call from an alert (R135), with its reference. -/
def State.createFromAlert (o : CallOrigin) (i : SectionId) (a : Addr) (s : State) : State × Option Nat :=
  ((s.addCall (s.newCall .inbound o i a .queued)).markDispatch, some s.newRef)

/-! ## Connecting -/

/-- A call goes to CONNECTED on a channel: path, join, CALL_CONNECTED and the CONNECT notice (R166, R167, R169, R173). -/
def State.connect (c : Call) (ch : ChanId) (s : State) : State :=
  (((((s.modCall c.ref (fun x =>
      { x with state := .connected, channel := some ch, connectedSince := some s.seconds, offerTimer := none,
               ringTimer := none })).setChan ch ⟨.connected, (s.chan ch).ready, some c.ref⟩).setHolder c.sec (some c.ref)).setJoin
      c.sec (.channel ch)).post (.callConnected c.ref ch)).offerNotice c.sec c.addr .connect c.ref

/-- A rung post answers (R137, R173). A RINGING call always holds a channel (R155). -/
def State.postAnswers (c : Call) (s : State) : State :=
  match c.channel with
  | some ch => s.connect c ch
  | none => s

/-! ## Alerts, answers and hang-ups -/

/-- An ABANDONED call is revived (R136). -/
def State.revive (c : Call) (s : State) : State :=
  ((s.modCall c.ref (fun x => { x with state := .queued })).post (.callRequeued c.ref .revived c.boost none)).markDispatch

/-- An alert is deferred (R140). -/
def State.deferAlert (o : CallOrigin) (i : SectionId) (a : Addr) (s : State) : State :=
  if s.fullEpisode then s
  else { (s.post (.callTableFull i a (s.resolve i a).post o)) with fullEpisode := true }

/-- An alert that needs a new record (R134, R139, R140), with the outcome: a reference is REGISTERED, none is DEFERRED. -/
def State.newAlert (o : CallOrigin) (i : SectionId) (a : Addr) (s : State) : State × Option Nat :=
  if s.calls.length < Config.callDepth then s.createFromAlert o i a
  else match s.oldestAbandoned with
    | some v => (s.endCall v .dismissedAuto).createFromAlert o i a
    | none => (s.deferAlert o i a, none)

/-- An alert from a section and address (R134). -/
def State.alert (o : CallOrigin) (i : SectionId) (a : Addr) (s : State) : State × Option Nat :=
  if a = 0 then (s, none)
  else match s.callAt i a with
    | some c =>
      match c.state with
      | .ringing => (s.postAnswers c, some c.ref)
      | .abandoned => (s.revive c, some c.ref)
      | .queued | .offered | .connected | .parked => (s, some c.ref)
    | none => s.newAlert o i a

/-- An ANSWER record (R137). -/
def State.answerRecord (i : SectionId) (a : Addr) (s : State) : State :=
  match s.callAt i a with
  | some c => if c.state = .ringing then s.postAnswers c else s
  | none => s

/-- A call is abandoned (R143). -/
def State.abandon (c : Call) (s : State) : State :=
  let freed := ((s.modCall c.ref (fun x => { x with state := .abandoned, channel := none, offerTimer := none })).releaseChannel
    c.channel).dropPath c.sec c.ref
  let told := (freed.post (.callAbandoned c.ref c.post c.sec c.addr c.state)).offerNotice c.sec c.addr .clear c.ref
  if s.holder c.sec = some c.ref then told.arbiter c.sec else told

/-- An ONHOOK record (R141). -/
def State.onhook (i : SectionId) (a : Addr) (s : State) : State :=
  match s.callAt i a with
  | some c =>
    match c.state with
    | .connected => s.endCall c .clearedByPost
    | .queued | .offered | .parked => s.abandon c
    | .ringing | .abandoned => s
  | none => s

/-- A hook OFF in a status report derives an implied alert where no live call stands (R111); its outcome is told to nobody
(R138). -/
def State.impliedAlert (i : SectionId) (a : Addr) (st : StatusFields) (s : State) : State :=
  if st.hookOff && (s.callAt i a).isNone then (s.alert .poll i a).1.finish else s

/-- A call notice failed: a RING ends its RINGING call (R147). -/
def State.noticeFailed (k : TxnKind) (ref : Nat) (s : State) : State :=
  match s.findCall ref with
  | some c => if k = .ring ∧ c.state = .ringing then s.endCall c .postUnreached else s
  | none => s

/-! ## Requeue -/

/-- The boost after a requeue: "rises by 2, and a boost of 6 stays at 6" (R164). -/
def boostAfter (b : Nat) : Nat := min Config.boostMax (b + 2)

/-- A requeue, steps 1 to 6 (R164): the CHANNEL_STATE of step 7 is READY_LOST's. -/
def State.requeue (c : Call) (cause : RequeueCause) (s : State) : State :=
  (((((s.modCall c.ref (fun x =>
      { x.closeConnected s.seconds with state := .queued, boost := boostAfter x.boost, channel := none,
                                        offerTimer := none })).releaseChannel c.channel).setJoin c.sec .tone).post
      (.callRequeued c.ref cause (boostAfter c.boost) c.channel)).offerNotice c.sec c.addr .parked c.ref).markDispatch

end Sys2Proof.Machine
end

