-- ==== Sys2Proof/Machine/Transactions.lean ====
section
/-! DEFINITION. The outcomes of transactions and bursts: failure and its report, the failed attempt and the retry, the return of a
yielded transaction, an accepted reply, the records of a post-started burst, and the abort of a queue. -/

namespace Sys2Proof.Machine

/-! ## The end of a transaction -/

/-- The call reference TRANSACTION_FAILED carries "for CALL origin" (R79). -/
def TxnOrigin.ref : TxnOrigin → Option Nat
  | .call r => some r
  | .round | .host => none

/-- The delivered count TRANSACTION_FAILED carries "for LENGTH_SHORT" (R79). -/
def Txn.delivered (t : Txn) (r : FailReason) : Option Nat :=
  match r with
  | .lengthShort => some t.progress
  | .noReply | .arbLost | .aborted => none

/-- A failed poll reported to the round (R104). -/
def State.pollFailed (i : SectionId) (a : Addr) (r : FailReason) (s : State) : State :=
  match r with
  | .noReply => (s.missedReport i a).pollEnded i a (fun x => { x with missed := x.missed + 1 })
  | .arbLost => s.pollEnded i a (fun x => { x with skipped := x.skipped + 1 })
  | .lengthShort | .aborted => s

/-- A transaction's failure: TRANSACTION_FAILED, then the report to its origin (R79). -/
def State.reportFailed (i : SectionId) (t : Txn) (r : FailReason) (s : State) : State :=
  let told := s.post (.transactionFailed i t.addr ((s.slotAt i t.addr).getD 0) t.kind.name r t.origin.ref (t.delivered r))
  match t.origin with
  | .round => told.pollFailed i t.addr r
  | .host => told
  | .call ref => told.noticeFailed t.kind ref

/-- The transaction in flight leaves the line (R79). -/
def State.clearFlight (i : SectionId) (s : State) : State := s.modLine i (fun x => { x with inFlight := none, exch := .quiet })

/-- The transaction in flight fails, is reported, and the line returns to IDLE (R47, R58, R79); a call that the report ends gives
the dispatcher its occasion before the line moves on (log 9). -/
def State.failFlight (i : SectionId) (t : Txn) (r : FailReason) (s : State) : State :=
  (((s.clearFlight i).reportFailed i t r).finish).enterIdle i

/-- The transaction in flight succeeds with nothing to report (R45, R79, R147), and the line returns to IDLE. -/
def State.succeed (i : SectionId) (s : State) : State := (s.clearFlight i).enterIdle i

/-! ## Failed attempts -/

/-- Attempts used have reached "one more than the section's retries" (R47). -/
def SectionCtl.spent (x : SectionCtl) (t : Txn) : Bool := decide (x.timingD.retries + 1 ≤ t.attempts)

/-- The retry or the failure that follows a failed attempt on a free pair (R47). -/
def State.resumeFlight (i : SectionId) (s : State) : State :=
  match (s.sec i).inFlight with
  | some t => if (s.sec i).spent t then s.failFlight i t .noReply else s.sendAttempt i t
  | none => s

/-- A transaction with one more attempt used (R46). -/
def Txn.oneMore (t : Txn) : Txn := { t with attempts := t.attempts + 1 }

/-- A failed attempt other than a collision (R46, R47): the budget is compared at once, and a retry waits for the pair to be
free of carrier (log 14). -/
def State.attemptFailed (i : SectionId) (s : State) : State :=
  match (s.sec i).inFlight with
  | some t =>
    if (s.sec i).spent t.oneMore then s.failFlight i t.oneMore .noReply
    else if (s.sec i).pairFree then s.sendAttempt i t.oneMore
    else s.modLine i (fun x => { x with inFlight := some t.oneMore, exch := .retryWait })
  | none => s

/-! ## Post-started bursts: their end -/

/-- A transaction with one more arbitration loss (R50). -/
def Txn.oneLoss (t : Txn) : Txn := { t with losses := t.losses + 1 }

/-- A yielded transaction is returned, or fails ARB_LOST at the third loss (R50). -/
def State.returnYielded (i : SectionId) (s : State) : State :=
  match (s.sec i).inFlight with
  | some t =>
    if Config.lossMax ≤ t.oneLoss.losses then ((s.clearFlight i).reportFailed i t.oneLoss .arbLost).finish
    else (s.clearFlight i).returnTxn i t.oneLoss
  | none => s.clearFlight i

/-- The post-started burst has been answered or discarded: the yielded transaction returns and the line goes to IDLE (R50, R53,
R54). Under a carrier that outlasts the answer burst the stuck timer starts as the sending ends, still in FOREIGN, before the entry
to IDLE applies a pending timing (DESIGN CHOICE, log 45). -/
def State.endForeign (i : SectionId) (s : State) : State := (s.returnYielded i).enterIdle i

/-- The answer burst is sent "as soon as the post's carrier has dropped" (R54), and not by a part that may send nothing (R199, log
8); the latched statuses of the burst it answers last until it ends (R40). -/
def State.sendAnswer (i : SectionId) (recs : List OutRec) (latched : List CheckFlag) (s : State) : State :=
  if (s.sec i).pairFree && !s.silent then
    s.modLine i (fun x => { x with exch := .answering ⟨x.syncWord, .absent, recs⟩ latched })
  else s.modLine i (fun x => { x with exch := .answerDue recs latched })

/-! ## Post-started bursts: their records -/

/-- The unresolved-post record is driven by a record from an empty slot (R18). -/
def State.driveUnresolved (i : SectionId) (g : GoodRec) (s : State) : State :=
  match s.unresolved with
  | some u => { s with unresolved := some { u with more := min Config.moreMax (u.more + 1) } }
  | none =>
    { s with unresolved := some ⟨i, g.addr, g.kind, s.seconds, 0⟩ }.post (.unresolvedPost i g.addr g.kind)

/-- What an ALERT's outcome answers (R55). -/
def alertAck (o : Option Nat) : OutKind :=
  match o with
  | some ref => .alertRegistered ref
  | none => .alertDeferred

/-- A NOTICE handed to the directory, with its events and the examination of its hook (R109, R111); none of this from an empty
slot. -/
def State.takeNotice (i : SectionId) (a : Addr) (st : StatusFields) (s : State) : State :=
  if (s.slotAt i a).isSome then (s.statusReport i a st).impliedAlert i a st else s

/-- One record of a post-started burst handed to its consumer, with the answer it needs (R52, R54). -/
def State.handRecord (i : SectionId) (g : GoodRec) (s : State) : State × List OutRec :=
  match g.kind with
  | .alert => let o := s.alert .alert i g.addr; (o.1.finish, [⟨g.addr, alertAck o.2⟩])
  | .answer => ((s.answerRecord i g.addr).finish, [⟨g.addr, .ack⟩])
  | .onhook => ((s.onhook i g.addr).finish, [⟨g.addr, .ack⟩])
  | .notice =>
    match g.status with
    | some st => (s.takeNotice i g.addr st, [⟨g.addr, .ack⟩])
    | none => (s, [⟨g.addr, .ack⟩])
  | .status | .ack | .nack => (s, [])

/-- The records of a post-started burst in the order they arrived; the first from an empty slot drives the unresolved-post record
before it is handed on (R18, R52). -/
def State.handRecords (i : SectionId) : List GoodRec → Bool → State → State × List OutRec
  | [], _, s => (s, [])
  | g :: gs, driven, s =>
    let drives := !driven && (s.slotAt i g.addr).isNone
    let first := (if drives then s.driveUnresolved i g else s).handRecord i g
    let rest := State.handRecords i gs (driven || drives) first.1
    (rest.1, first.2 ++ rest.2)

/-! ## Reply bursts -/

/-- The next step of a TEXT starts at once (R45), with its attempts used at 0 (R58). -/
def State.nextStep (i : SectionId) (t : Txn) (s : State) : State := s.sendAttempt i { t with attempts := 0 }

/-- An ACK completes a step of a TEXT (R58). -/
def State.textAcked (i : SectionId) (t : Txn) (chars : List Byte) (s : State) : State :=
  if t.headerDone then
    if recordCount chars ≤ t.progress + 1 then s.succeed i else s.nextStep i { t with progress := t.progress + 1 }
  else s.nextStep i { t with headerDone := true }

/-- A poll's STATUS is accepted: the report, the hook's examination, the poll's end, and IDLE (R45, R104, R108, R111). -/
def State.pollAnswered (i : SectionId) (a : Addr) (st : StatusFields) (s : State) : State :=
  (((((s.clearFlight i).statusReport i a st).impliedAlert i a st).pollEnded i a
    (fun x => { x with answered := x.answered + 1 })).enterIdle i)

/-- The one record of a reply burst judged against the step of the transaction in flight (R43, R45, R46, R58). -/
def State.judgeReply (i : SectionId) (t : Txn) (g : GoodRec) (s : State) : State :=
  if g.addr = t.addr then
    match t.kind with
    | .poll =>
      match g.kind, g.status with
      | .status, some st => s.pollAnswered i t.addr st
      | _, _ => s.attemptFailed i
    | .text chars =>
      match g.kind with
      | .ack => s.textAcked i t chars
      | .nack => s.failFlight i t .lengthShort
      | _ => s.attemptFailed i
    | .ring | .ringStop | .connect | .clear | .parked | .lamp _ =>
      match g.kind with
      | .ack => s.succeed i
      | _ => s.attemptFailed i
  else s.attemptFailed i

/-! ## Aborts -/

/-- A running or pending MEASURE is aborted (R125, R126). -/
def State.abortMeasure (i : SectionId) (s : State) : State :=
  match (s.ltuOf i).running with
  | some r =>
    ((s.setLtu i ⟨none, some (abortedResult i s.seconds r.trigger r.samples)⟩).modSec i
      (fun x => { x with slot := none })).post (.measureAborted i r.trigger r.samples.length true)
  | none =>
    match (s.sec i).slot with
    | some t => (s.modSec i (fun x => { x with slot := none })).post (.measureAborted i t 0 false)
    | none => s

/-- The transactions an abort takes out, the one in flight first (R80). -/
def SectionCtl.held (x : SectionCtl) : List Txn := x.inFlight.toList ++ x.queue

/-- The first step of an abort of the queue (R80, R59): what goes on on the line stops at once, queue and line are left with no
transaction, and the MEASURE is aborted. The line state is set by the request's own later step (R81 step 5, R96 step 2; log 20). -/
def State.abortQueue (i : SectionId) (s : State) : State :=
  (s.modLine i (fun x => { x with exch := .quiet, inFlight := none, queue := [] })).abortMeasure i

/-- The last step of an abort of the queue: every held transaction is reported ABORTED, in order (R80). -/
def State.reportAborted (i : SectionId) : List Txn → State → State
  | [], s => s
  | t :: ts, s => State.reportAborted i ts (s.reportFailed i t .aborted)

end Sys2Proof.Machine
end

