-- ==== Sys2Proof/Machine/HostLink.lean ====
section
/-! DEFINITION. The host link's shared operations: taking a request and framing its reply, the request buffer, the receiver, and
the device reset. -/

namespace Sys2Proof.Machine

/-! ## Taking a request (R189) -/

/-- The reply to a RESET that was taken (R198). -/
def Reply.isReset (r : Reply) : Bool :=
  match r.body with
  | .resetAt _ => true
  | _ => false

/-- The entry at the head of the buffer is this request: its kind, tag and body length, and every byte of a field that it holds. A
body of the length its fields take is their bytes; of another length, it begins with them, or ends within them. -/
def State.headIs (s : State) (k : ReqKind) (h : Hdr) (body : List Byte) : Bool :=
  match s.buffer with
  | .request kind tag got :: _ =>
    kind.toNat == k.code && tag == h.tag && got.length == h.len && got.take body.length == body.take got.length
  | .notice _ _ :: _ => false
  | [] => false

/-- The HLI can take this request now: it is not held silent (R199), no reply is being sent, since it takes the entries "one after
the other" (R189), and the request is the untaken head of the buffer, or comes to an empty buffer (log 4). -/
def State.takes (s : State) (k : ReqKind) (h : Hdr) (body : List Byte) : Bool :=
  !s.silent && s.reply.isNone && (s.buffer.isEmpty || (!s.headTaken && s.headIs k h body))

/-- A body of the length that the frame has: the fields' bytes, cut or filled with zeros where the length is not theirs (log 4). -/
def frameBody (len : Nat) (body : List Byte) : List Byte := (body ++ List.replicate len 0).take len

/-- The request is taken: it is the head of the buffer, which it joins first where the buffer is empty, and it stays there until
its reply's last byte is sent (R188, log 4). -/
def State.take (k : ReqKind) (h : Hdr) (body : List Byte) (s : State) : State :=
  { s with buffer := if s.buffer.isEmpty then [.request (BitVec.ofNat 8 k.code) h.tag (frameBody h.len body)] else s.buffer,
           headTaken := true }

/-- The reply is framed: the request's kind plus 0x80, its tag, the status and the fields (R189). -/
def State.answered (k : ReqKind) (h : Hdr) (st : Status) (b : ReplyBody) (s : State) : State :=
  { s with reply := some ⟨k.code + 0x80, h.tag, st, b⟩ }

/-- A request's outcome at its owning block: the part as it leaves it, the status, and the reply's fields. -/
abbrev Answered := State × Status × ReplyBody

/-- A refusal changes nothing (R189, R190). -/
def State.refuse (s : State) (st : Status) : Answered := (s, st, .nothing)

/-- A request handled in the order of R189: body length, device mode, then its owning block; passed over where the HLI cannot
take it now (log 4). -/
def State.request (k : ReqKind) (h : Hdr) (body : List Byte) (want : Nat) (act : State → Answered) (s : State) : State :=
  if s.takes k h body then
    let s := s.take k h body
    if h.len ≠ want then s.answered k h .frameBad .nothing
    else if k.allowedIn s.mode then (act s).1.answered k h (act s).2.1 (act s).2.2
    else s.answered k h .wrongMode .nothing
  else s

/-! ## What a request names -/

/-- A request that names a section: above 7 BAD_FIELD, undefined NO_SUCH_SECTION. -/
def State.onSection (s : State) (n : Nat) (act : SectionId → Answered) : Answered :=
  match sectionOf n with
  | some i => if (s.sec i).defn.isSome then act i else s.refuse .noSuchSection
  | none => s.refuse .badField

/-- A request that names a section in service: also OFF is refused SECTION_OFF. -/
def State.onSectionInService (s : State) (n : Nat) (act : SectionId → Answered) : Answered :=
  s.onSection n (fun i => if (s.sec i).power = .off then s.refuse .sectionOff else act i)

/-- A request that names a post (R4): out of range BAD_FIELD, a miss NO_SUCH_POST. -/
def State.onPost (s : State) (p : Nat) (act : Fin 2 → PostEntry → Answered) : Answered :=
  if isPostNumber p then
    match s.lookup p with
    | some (c, e) => act c e
    | none => s.refuse .noSuchPost
  else s.refuse .badField

/-- A request that names a call (R165): 0 BAD_FIELD, no live call NO_SUCH_CALL. -/
def State.onCall (s : State) (ref : Nat) (act : Call → Answered) : Answered :=
  if isRef ref then
    match s.findCall ref with
    | some c => act c
    | none => s.refuse .noSuchCall
  else s.refuse .badField

/-- A refusal whose reply "carries the call's state as found" (R165). -/
def State.refuseCall (s : State) (st : Status) (c : Call) : Answered := (s, st, .callFound c.state)

/-- A refusal for another field of a request that names a call, "when the call exists" with its state (R165). -/
def State.refuseNamed (s : State) (st : Status) (ref : Nat) : Answered :=
  if isRef ref then
    match s.findCall ref with
    | some c => s.refuseCall st c
    | none => s.refuse st
  else s.refuse st

/-- The channel a request gets: the named one if FREE, else CHANNEL_BUSY; the lowest-numbered FREE one where none is named, else
NO_CHANNEL (R167, R169, R171). -/
def State.chooseChannel (s : State) (named : Option ChanId) : Except Status ChanId :=
  match named with
  | some ch => if (s.chan ch).state = .free then .ok ch else .error .channelBusy
  | none =>
    match s.freeChannel with
    | some ch => .ok ch
    | none => .error .noChannel

/-! ## The request buffer and the receiver (R187, R188) -/

/-- An entry joins the buffer at the tail where it holds fewer than two, else it leaves no trace (R188). -/
def State.joinBuffer (e : BufEntry) (s : State) : State :=
  if s.buffer.length < Config.bufferDepth then { s with buffer := s.buffer ++ [e] } else s

/-- The tag byte of a frame, when it was received: the third byte after the start byte (R187). -/
def frameTag (got : List Byte) : Option Byte := got[2]?

/-- A frame whose bytes after the start byte are all here, judged by its CRC-16 and its kind (R187). -/
def frameEntry (got : List Byte) : BufEntry :=
  let data := got.take (got.length - 2)
  match data with
  | _ :: kind :: tag :: body =>
    if crc16High data :: crc16Low data :: [] = got.drop (got.length - 2) then
      if isRequestCode kind then .request kind tag body else .notice .unknownKind (some tag)
    else .notice .frameBad (some tag)
  | _ => .notice .frameBad (frameTag got)

/-- One more byte of a frame (R187): a length above 250 ends it at once, its last CRC byte completes it, and any other byte
starts the 100 ms gap afresh. -/
def State.frameByte (got : List Byte) (s : State) : State :=
  match got with
  | len :: _ =>
    if Config.bodyMax < len.toNat then { s with rx := .hunting }.joinBuffer (.notice .frameBad none)
    else if got.length = len.toNat + 5 then { s with rx := .hunting }.joinBuffer (frameEntry got)
    else { s with rx := .inFrame got (s.startTimer Config.byteGapMs) }
  | [] => s

/-- A byte on serial RX (R187); a part held silent receives no frame (R199). -/
def State.receiveByte (b : Byte) (s : State) : State :=
  if s.silent then s
  else match s.rx with
    | .hunting => if b = Config.startByte then { s with rx := .inFrame [] (s.startTimer Config.byteGapMs) } else s
    | .inFrame got _ => s.frameByte (got ++ [b])

/-- Bytes received one after the other. -/
def State.receiveBytes : List Byte → State → State
  | [], s => s
  | b :: bs, s => State.receiveBytes bs (s.receiveByte b)

/-! ## Device reset (R199) -/

/-- A section controller after a device reset that finds these levels on its pair. -/
def SectionCtl.deviceReset (x : SectionCtl) : SectionCtl := { SectionCtl.reset with carrier := x.carrier, space := x.space }

/-- The device reset (R199): every block at its starting state, each channel FREE or DOWN by its ready input (R155). What is
outside the part is kept: the RESET input and the power, the levels on the other inputs (log 7), and the commands that wait. -/
def State.deviceReset (s : State) : State :=
  { State.reset with
    resetHeld := s.resetHeld, poweringUp := s.poweringUp,
    secs := #v[(s.sec 0).deviceReset, (s.sec 1).deviceReset, (s.sec 2).deviceReset, (s.sec 3).deviceReset,
               (s.sec 4).deviceReset, (s.sec 5).deviceReset, (s.sec 6).deviceReset, (s.sec 7).deviceReset],
    channels := #v[.resetWith (s.chan 0).ready, .resetWith (s.chan 1).ready, .resetWith (s.chan 2).ready,
                   .resetWith (s.chan 3).ready],
    pending := s.pending }

/-- A burst being sent is cut off (R199: the part "sends nothing" while the RESET input is held; log 8). -/
def SectionCtl.cutBurst (x : SectionCtl) : SectionCtl :=
  match x.exch with
  | .lead _ _ | .sending _ _ | .collided _ => { x with exch := .retryWait }
  | .answering b latched => { x with exch := .answerDue b.recs latched }
  | .shutdown _ | .announce _ => { x with exch := .quiet }
  | .quiet | .window _ | .reply | .retryWait | .post | .discarded | .answerDue _ _ => x

/-- The bursts of these sections cut off. -/
def State.cutBursts : List SectionId → State → State
  | [], s => s
  | i :: is, s => State.cutBursts is (s.modLine i SectionCtl.cutBurst)

end Sys2Proof.Machine
end

