-- ==== Sys2Proof/Machine/CallEvents.lean ====
section
/-! DEFINITION. The call timers and the channel inputs: OFFER_TIMEOUT, RING_TIMEOUT, READY_LOST and READY_REGAINED (09, R156,
R164, R173). -/

namespace Sys2Proof.Machine

/-- The offer timer of an OFFERED call runs out (R164). -/
def State.offerExpires (ref : Nat) (s : State) : State :=
  match s.findCall ref with
  | some c =>
    match c.state, c.offerTimer with
    | .offered, some t => ((s.reach t.due).requeue c .offerTimeout).finish
    | _, _ => s
  | none => s

/-- The ring timer of a RINGING call runs out (R173). -/
def State.ringExpires (ref : Nat) (s : State) : State :=
  match s.findCall ref with
  | some c =>
    match c.state, c.ringTimer with
    | .ringing, some t => ((s.reach t.due).endCall c .noAnswer).finish
    | _, _ => s
  | none => s

/-- What a falling ready level does to the call its channel carries: requeued, or ended from RINGING (R156, R164, R173). -/
def State.loseCall (c : Call) (s : State) : State :=
  if c.state = .ringing then s.endCall c .channelLost else s.requeue c .channelLost

/-- The ready level of a channel falls (R156): CHANNEL_STATE stands after the call's own events (R157). -/
def State.readyFalls (ch : ChanId) (s : State) : State :=
  if (s.chan ch).ready then
    let low := s.setChan ch { s.chan ch with ready := false }
    let down := State.post (.channelState ch .down false .readyLost)
    match (s.chan ch).state with
    | .free => down (low.setChan ch { low.chan ch with state := .down })
    | .offering | .ringing | .connected =>
      match (s.chan ch).call.bind s.findCall with
      | some c => (down (low.loseCall c)).finish
      | none => low
    | .down | .out => low
  else s

/-- The ready level of a channel rises (R156). -/
def State.readyRises (ch : ChanId) (s : State) : State :=
  if (s.chan ch).ready then s
  else
    let high := s.setChan ch { s.chan ch with ready := true }
    match (s.chan ch).state with
    | .down =>
      ((high.setChan ch { high.chan ch with state := .free }).post (.channelState ch .free true .readyRegained)).markDispatch.finish
    | .free | .offering | .ringing | .connected | .out => high

/-- OFFER_TIMEOUT (R164). -/
def execOfferTimeout (ref : Nat) (s : State) : Host.Outcome State Fault Refusal := .next (s.offerExpires ref)

/-- RING_TIMEOUT (R173). -/
def execRingTimeout (ref : Nat) (s : State) : Host.Outcome State Fault Refusal := .next (s.ringExpires ref)

/-- READY_LOST (R156). -/
def execReadyLost (ch : ChanId) (s : State) : Host.Outcome State Fault Refusal := .next (s.readyFalls ch)

/-- READY_REGAINED (R156). -/
def execReadyRegained (ch : ChanId) (s : State) : Host.Outcome State Fault Refusal := .next (s.readyRises ch)

end Sys2Proof.Machine
end

