-- ==== Sys2Proof/Machine/CallRequests.lean ====
section
/-! DEFINITION. SET CHANNEL and the call requests: ANSWER, PICK, PARK, RETRIEVE, CLEAR, CALL POST and DISMISS (08, 09). -/

namespace Sys2Proof.Machine

/-- A SET CHANNEL whose direction is not the one it takes: "Every reply carries the state the channel was found in and the state it
was left in", where it names a channel (R158). -/
def State.refuseDirection (s : State) (n : Nat) : Answered :=
  match chanOf n with
  | some ch => (s, .badField, .channelMove (s.chan ch).state (s.chan ch).state)
  | none => s.refuse .badField

/-- SET CHANNEL OUT at its owner (R158). -/
def State.setChannelOutAct (n dir : Nat) (s : State) : Answered :=
  match chanOf n, dir with
  | some ch, 1 =>
    let x := s.chan ch
    match x.state with
    | .free | .down =>
      ((s.setChan ch { x with state := .out }).post (.channelState ch .out x.ready .setOut), .ok, .channelMove x.state .out)
    | .out => (s, .ok, .channelMove .out .out)
    | .offering | .ringing | .connected => (s, .channelBusy, .channelBusy (x.call.getD 0) x.state x.state)
  | _, _ => s.refuseDirection n

/-- SET CHANNEL IN at its owner (R158). The state "left in" is the one SET CHANNEL itself leaves, FREE, where the dispatcher then offers
a call on the channel at the end of the operation (DESIGN CHOICE, log 43). -/
def State.setChannelInAct (n dir : Nat) (s : State) : Answered :=
  match chanOf n, dir with
  | some ch, 0 =>
    let x := s.chan ch
    if x.state = .out then
      let back := (s.setChan ch x.released).post (.channelState ch x.released.state x.ready .setIn)
      (if x.ready then back.markDispatch.finish else back, .ok, .channelMove .out x.released.state)
    else (s, .ok, .channelMove x.state x.state)
  | _, _ => s.refuseDirection n

/-- ANSWER at its owner (R166). -/
def State.answerAct (ref : Nat) (s : State) : Answered :=
  s.onCall ref (fun c =>
    match c.state, c.channel with
    | .offered, some ch => ((s.connect c ch).finish, .ok, .callLeft .connected (some ch))
    | _, _ => s.refuseCall .wrongCallState c)

/-- PICK at its owner (R167). -/
def State.pickAct (ref n : Nat) (s : State) : Answered :=
  match optChanOf n with
  | some named =>
    s.onCall ref (fun c =>
      if c.state = .queued then
        if s.eligible c then
          match s.chooseChannel named with
          | .ok ch => ((s.connect c ch).finish, .ok, .callLeft .connected (some ch))
          | .error e => s.refuseCall e c
        else s.refuseCall .pathBusy c
      else s.refuseCall .wrongCallState c)
  | none => s.refuseNamed .badField ref

/-- A CONNECTED call parked (R168). -/
def State.parkCall (c : Call) (ch : ChanId) (s : State) : State :=
  ((((s.modCall c.ref (fun x => { x.closeConnected s.seconds with state := .parked, channel := none })).releaseChannel
    (some ch)).setJoin c.sec .tone).post (.callParked c.ref ch)).offerNotice c.sec c.addr .parked c.ref

/-- PARK at its owner (R168). -/
def State.parkAct (ref : Nat) (s : State) : Answered :=
  s.onCall ref (fun c =>
    match c.state, c.channel with
    | .connected, some ch => ((s.parkCall c ch).finish, .ok, .callLeft .parked none)
    | _, _ => s.refuseCall .wrongCallState c)

/-- RETRIEVE at its owner (R169). -/
def State.retrieveAct (ref n : Nat) (s : State) : Answered :=
  match optChanOf n with
  | some named =>
    s.onCall ref (fun c =>
      if c.state = .parked then
        match s.chooseChannel named with
        | .ok ch => ((s.connect c ch).finish, .ok, .callLeft .connected (some ch))
        | .error e => s.refuseCall e c
      else s.refuseCall .wrongCallState c)
  | none => s.refuseNamed .badField ref

/-- CLEAR at its owner (R170). -/
def State.clearAct (ref : Nat) (s : State) : Answered :=
  s.onCall ref (fun c =>
    if c.state = .abandoned then s.refuseCall .wrongCallState c
    else ((s.endCall c .clearedByControl).finish, .ok, .callOver (c.connectedSeconds s.seconds)))

/-- DISMISS at its owner (R148). -/
def State.dismissAct (ref : Nat) (s : State) : Answered :=
  s.onCall ref (fun c =>
    if c.state = .abandoned then ((s.endCall c .dismissed).finish, .ok, .callOver (c.connectedSeconds s.seconds))
    else s.refuseCall .wrongCallState c)

/-- A call rings on a channel (R172): channel, path, join, ring timer, and the RING notice. -/
def State.ring (c : Call) (ch : ChanId) (s : State) : State :=
  ((((s.modCall c.ref (fun x =>
      { x with direction := .outbound, state := .ringing, channel := some ch,
               ringTimer := some ⟨s.nowMs, 1000 * s.globals.ringTimeout⟩ })).setChan ch
    ⟨.ringing, (s.chan ch).ready, some c.ref⟩).setHolder c.sec (some c.ref)).setJoin c.sec .nothing).offerNotice c.sec c.addr
    .ring c.ref

/-- A new OUTBOUND record rings on a channel (R172); its reference is told. -/
def State.ringNew (i : SectionId) (a : Addr) (ch : ChanId) (s : State) : Answered :=
  let c := s.newCall .outbound .host i a .ringing
  (((s.addCall c).ring c ch).finish, .ok, .ringing c.ref true)

/-- CALL POST with checks 1 to 3 passed (R171, R172). -/
def State.callEntry (e : PostEntry) (named : Option ChanId) (s : State) : Answered :=
  match s.callAt e.sec e.addr with
  | some c =>
    if c.state = .abandoned then
      if (s.holder e.sec).isSome then s.refuse .pathBusy
      else match s.chooseChannel named with
        | .ok ch => ((s.ring c ch).finish, .ok, .ringing c.ref false)
        | .error er => s.refuse er
    else (s, .postHasCall, .callRef c.ref)
  | none =>
    if (s.holder e.sec).isSome then s.refuse .pathBusy
    else match s.chooseChannel named with
      | .ok ch =>
        if s.calls.length < Config.callDepth then s.ringNew e.sec e.addr ch
        else match s.oldestAbandoned with
          | some v => (s.endCall v .dismissedAuto).ringNew e.sec e.addr ch
          | none => s.refuse .tableFull
      | .error er => s.refuse er

/-- CALL POST at its owner (R171, R172). -/
def State.callPostAct (p n : Nat) (s : State) : Answered :=
  match optChanOf n with
  | some named =>
    s.onPost p (fun _ e => if (s.sec e.sec).power = .off then s.refuse .sectionOff else s.callEntry e named)
  | none => s.refuse .badField

/-- SET CHANNEL with direction OUT (R158). -/
def execSetChannelOut (h : Hdr) (chan dir : Nat) (s : State) : Host.Outcome State Fault Refusal :=
  .next (s.request .setChannel h (byte1 chan ++ byte1 dir) (ReqKind.bodyLen .setChannel) (State.setChannelOutAct chan dir))

/-- SET CHANNEL with direction IN (R158). -/
def execSetChannelIn (h : Hdr) (chan dir : Nat) (s : State) : Host.Outcome State Fault Refusal :=
  .next (s.request .setChannel h (byte1 chan ++ byte1 dir) (ReqKind.bodyLen .setChannel) (State.setChannelInAct chan dir))

/-- ANSWER (R166). -/
def execAnswer (h : Hdr) (ref : Nat) (s : State) : Host.Outcome State Fault Refusal :=
  .next (s.request .answer h (byte2 ref) (ReqKind.bodyLen .answer) (State.answerAct ref))

/-- PICK (R167). -/
def execPick (h : Hdr) (ref chan : Nat) (s : State) : Host.Outcome State Fault Refusal :=
  .next (s.request .pick h (byte2 ref ++ byte1 chan) (ReqKind.bodyLen .pick) (State.pickAct ref chan))

/-- PARK (R168). -/
def execPark (h : Hdr) (ref : Nat) (s : State) : Host.Outcome State Fault Refusal :=
  .next (s.request .park h (byte2 ref) (ReqKind.bodyLen .park) (State.parkAct ref))

/-- RETRIEVE (R169). -/
def execRetrieve (h : Hdr) (ref chan : Nat) (s : State) : Host.Outcome State Fault Refusal :=
  .next (s.request .retrieve h (byte2 ref ++ byte1 chan) (ReqKind.bodyLen .retrieve) (State.retrieveAct ref chan))

/-- CLEAR (R170). -/
def execClear (h : Hdr) (ref : Nat) (s : State) : Host.Outcome State Fault Refusal :=
  .next (s.request .clear h (byte2 ref) (ReqKind.bodyLen .clear) (State.clearAct ref))

/-- CALL POST (R171, R172). -/
def execCallPost (h : Hdr) (post chan : Nat) (s : State) : Host.Outcome State Fault Refusal :=
  .next (s.request .callPost h (byte2 post ++ byte1 chan) (ReqKind.bodyLen .callPost) (State.callPostAct post chan))

/-- DISMISS (R148). -/
def execDismiss (h : Hdr) (ref : Nat) (s : State) : Host.Outcome State Fault Refusal :=
  .next (s.request .dismiss h (byte2 ref) (ReqKind.bodyLen .dismiss) (State.dismissAct ref))

end Sys2Proof.Machine
end

