-- ==== Sys2Proof/Machine/DeviceRequests.lean ====
section
/-! DEFINITION. The device requests: IDENTIFY, RESET, START and SET GLOBALS (11, R192 to R194, R198). -/

namespace Sys2Proof.Machine

/-- The defined sections in number order (R192, R193). -/
def State.definedSections (s : State) : List SectionId := allSections.filter (fun i => (s.sec i).defn.isSome)

/-- The service of several sections begins (R97). -/
def State.beginServices : List SectionId → State → State
  | [], s => s
  | i :: is, s => State.beginServices is (s.beginService i)

/-- IDENTIFY at its owner (R193). -/
def State.identifyAct (s : State) : Answered :=
  (s, .ok, .identity Config.partCode Config.revision s.mode s.seconds s.definedSections s.events.length)

/-- RESET at its owner: the reply now, the device reset once it is sent (R198). -/
def State.resetAct (s : State) : Answered := (s, .ok, .resetAt s.seconds)

/-- START at its owner (R192, R97). -/
def State.startAct (s : State) : Answered :=
  if s.definedSections = [] then s.refuse .noSuchSection
  else ({ s with mode := .service }.beginServices s.definedSections, .ok, .started s.definedSections)

/-- SET GLOBALS at its owner (R194). -/
def State.setGlobalsAct (g : RawGlobals) (s : State) : Answered :=
  match g.stored with
  | some n => ({ s with globals := n }.markDispatch.finish, okStatus (g.sameAs n), .globals n)
  | none => s.refuse .badField

/-- IDENTIFY (R193). -/
def execIdentify (h : Hdr) (s : State) : Host.Outcome State Fault Refusal :=
  .next (s.request .identify h [] (ReqKind.bodyLen .identify) State.identifyAct)

/-- RESET (R198). -/
def execReset (h : Hdr) (s : State) : Host.Outcome State Fault Refusal :=
  .next (s.request .reset h [] (ReqKind.bodyLen .reset) State.resetAct)

/-- START (R192). -/
def execStart (h : Hdr) (s : State) : Host.Outcome State Fault Refusal :=
  .next (s.request .start h [] (ReqKind.bodyLen .start) State.startAct)

/-- SET GLOBALS (R194). -/
def execSetGlobals (h : Hdr) (g : RawGlobals) (s : State) : Host.Outcome State Fault Refusal :=
  .next (s.request .setGlobals h g.body (ReqKind.bodyLen .setGlobals) (State.setGlobalsAct g))

end Sys2Proof.Machine
end

