-- ==== Sys2Proof/Machine/LineEvents.lean ====
section
/-! DEFINITION. What happens on a section's pair: the bursts of both sides, carrier, space, quiet and the end mark, and the samples
of a measurement (03, 04, 07). -/

namespace Sys2Proof.Machine

/-- A section's exchange changed, its line timers following. -/
def State.setExch (i : SectionId) (e : Exchange) (s : State) : State := s.modLine i (fun x => { x with exch := e })

/-! ## Bursts of the section controller -/

/-- The filler ends "when 20 ms have passed since the start of the preamble", and the transaction record follows it (R37). -/
def State.leadEnds (i : SectionId) (s : State) : State :=
  match (s.sec i).exch with
  | .lead b t => (s.reach t.due).setExch i (.sending b t)
  | _ => s

/-- The reply window starts (R44). -/
def State.openWindow (i : SectionId) (s : State) : State := s.setExch i (.window ⟨s.nowMs, (s.sec i).timingD.replyWindow⟩)

/-- The end mark of a transaction burst is sent: the reply window starts (R44), or, after a collision, the retry or failure
follows once the pair is free (R51). "no transaction record leaves the SC within the lead window" (R37), so no end mark does: the
command is passed over before 20 ms have passed (log 3). -/
def State.burstSent (i : SectionId) (s : State) : State :=
  match (s.sec i).exch with
  | .lead _ t => if t.due ≤ s.nowMs then s.openWindow i else s
  | .sending _ _ => s.openWindow i
  | .collided _ =>
    let free := s.setExch i .retryWait
    if (free.sec i).pairFree then free.resumeFlight i else free
  | _ => s

/-- The reply window runs out with no burst started: the attempt has failed (R44, R46). -/
def State.windowEnds (i : SectionId) (s : State) : State :=
  match (s.sec i).exch with
  | .window t => (s.reach t.due).attemptFailed i
  | _ => s

/-- The end mark of an answer burst is sent (R54). -/
def State.answerSent (i : SectionId) (s : State) : State :=
  match (s.sec i).exch with
  | .answering _ _ => s.endForeign i
  | _ => s

/-! ## Bursts of the posts -/

/-- The line goes to FOREIGN and the post's burst is received (R49, R52, R68). -/
def State.receivePost (i : SectionId) (s : State) : State := s.modLine i (fun x => { x with line := .foreign, exch := .post })

/-- A transaction with its attempt lost to a collision: one more attempt used, staying in R43's 0 to 4 (R46, R51; log 50). -/
def Txn.collidedOnce (t : Txn) : Txn := { t with attempts := min Config.attemptMax (t.attempts + 1) }

/-- A collision: the attempt has failed, and the controller sends the rest of its burst (R51, R46). -/
def State.collide (i : SectionId) (b : Burst) (s : State) : State :=
  s.modLine i (fun x => { x with exch := .collided b, inFlight := x.inFlight.map Txn.collidedOnce })

/-- A post burst starts while a failed attempt waits for the pair (R46, R51). A transaction whose budget the collision has spent fails
NO_REPLY (R47), at this moment (DESIGN CHOICE, log 52), and the line it leaves in IDLE receives the burst (R52); one that still has
an attempt is held as after a yield (log 13). -/
def State.burstInWait (i : SectionId) (s : State) : State :=
  match (s.sec i).inFlight with
  | some t =>
    if (s.sec i).spent t then
      let failed := s.failFlight i t .noReply
      if (failed.sec i).line = .idle then failed.receivePost i else failed
    else s.receivePost i
  | none => s.receivePost i

/-- A post burst starts while the line is OWNED: a yield within the lead window, "exactly at the 20 ms mark" included (R49), a
collision after it (R51), the reply burst in the reply window (R44), or, while a failed attempt waits for the pair, a
post-started burst (R46, R47). A second burst during a reply burst or a collision is passed over (log 38); a carrier already
disowned makes no difference (log 47). -/
def State.burstOnOwned (i : SectionId) (s : State) : State :=
  match (s.sec i).exch with
  | .lead b t | .sending b t => if s.nowMs ≤ t.due then s.receivePost i else s.collide i b
  | .retryWait => s.burstInWait i
  | .window _ => s.setExch i .reply
  | _ => s

/-- A burst with this sync word starts (R38, R68, R86): any other sync word than the section's is crosstalk. In FOREIGN a second
burst is passed over: under the answer burst R54 says so, and before it, where the spec says nothing, the model does so (log
38). A burst that starts under a carrier already disowned is received as any other (DESIGN CHOICE, log 47). -/
def State.postBurstStarts (i : SectionId) (sync : SyncWord) (s : State) : State :=
  match (s.sec i).defn with
  | some d =>
    if sync = d.sync then
      match (s.sec i).power with
      | .settling _ => ((s.toActive i).receivePost i).finish
      | .active =>
        match (s.sec i).line with
        | .idle => s.receivePost i
        | .owned => s.burstOnOwned i
        | .down | .unknown | .foreign | .brk | .testing => s
      | .off | .waking _ | .hibernate => s
    else s
  | none => s

/-- The end mark of a reply burst is received (R45, R46). -/
def State.replyEnds (i : SectionId) (recs : List LineRec) (s : State) : State :=
  match (s.sec i).exch, (s.sec i).inFlight with
  | .reply, some t =>
    match readBurst recs with
    | some [g] => (s.burstEnded i).judgeReply i t g
    | _ => (s.burstEnded i).attemptFailed i
  | _, _ => s

/-- A post-started burst is discarded (R53): the line returns to IDLE when the carrier drops. A transaction held after a yield is
returned (R50) at that same moment, and stays in flight until then (DESIGN CHOICE, log 44). -/
def State.discardPost (i : SectionId) (s : State) : State := if (s.sec i).pairFree then s.endForeign i else s.setExch i .discarded

/-- The end mark of a post-started burst is received (R52 to R54). -/
def State.postEnds (i : SectionId) (recs : List LineRec) (s : State) : State :=
  match (s.sec i).exch with
  | .post =>
    match readBurst recs with
    | some gs =>
      let o := (s.burstEnded i).handRecords i gs false
      if o.2.isEmpty then o.1.endForeign i else o.1.sendAnswer i o.2 (latches recs)
    | none => (s.burstEnded i).discardPost i
  | _ => s

/-! ## Carrier -/

/-- Carrier appears on the pair (R66, R70). -/
def State.carrierUp (i : SectionId) (s : State) : State :=
  if (s.sec i).carrier then s else s.modLine i (fun x => { x with carrier := true, disowned := false })

/-- What a carrier that is no longer there lets go on (R39, R47, R53, R54, R68). -/
def State.carrierGone (i : SectionId) (s : State) : State :=
  match (s.sec i).exch with
  | .quiet => s.workArrived i
  | .retryWait => s.resumeFlight i
  | .reply => (s.burstEnded i).attemptFailed i
  | .post => (s.burstEnded i).endForeign i
  | .discarded => s.endForeign i
  | .answerDue recs latched => s.sendAnswer i recs latched
  | .lead _ _ | .sending _ _ | .collided _ | .window _ | .answering _ _ | .shutdown _ | .announce _ => s

/-- Carrier drops from the pair (R70). -/
def State.carrierDown (i : SectionId) (s : State) : State :=
  if (s.sec i).carrier then (s.modLine i (fun x => { x with carrier := false, disowned := false })).carrierGone i else s

/-- What follows when the stuck limit is reached, by what was going on (R70). -/
def State.stuckOutcome (i : SectionId) (s : State) : State :=
  match (s.sec i).exch with
  | .quiet => s.workArrived i
  | .retryWait => s.resumeFlight i
  | .window _ => s.attemptFailed i
  | .reply => (s.burstEnded i).attemptFailed i
  | .post => (s.burstEnded i).endForeign i
  | .discarded | .answerDue _ _ => s.endForeign i
  | .lead _ _ | .sending _ _ | .collided _ | .answering _ _ | .shutdown _ | .announce _ => s

/-- The stuck limit is reached: the carrier is disowned and LINE_STUCK posted (R70). -/
def State.stuckLimit (i : SectionId) (s : State) : State :=
  match (s.sec i).stuckTimer with
  | some t => (((s.reach t.due).modLine i (fun x => { x with disowned := true })).post (.lineStuck i)).stuckOutcome i
  | none => s

/-! ## Space -/

/-- Space appears on the pair (R71). -/
def State.spaceUp (i : SectionId) (s : State) : State :=
  if (s.sec i).space then s else s.modLine i (fun x => { x with space := true })

/-- What the controller was doing on the pair is abandoned for a break: the transaction in flight is returned, with a loss where
it was held after a yield (R71, R50, R78). After a collision that was the last attempt of four it returns with attempts used 4,
"as they were" (R71), though the queue table gives 0 to 3 (DESIGN CHOICE, log 50). -/
def State.abandonForBreak (i : SectionId) (s : State) : State :=
  if (s.sec i).line = .foreign then s.returnYielded i
  else match (s.sec i).inFlight with
    | some t => (s.clearFlight i).returnTxn i t
    | none => s.clearFlight i

/-- The automatic trigger of a new break episode (R71, R117), and the arbiter's act on it in BREAK (R73). -/
def State.autoTrigger (i : SectionId) (s : State) : State :=
  if (s.sec i).defnD.autoMeasure then (s.modSec i (fun x => { x with slot := some .auto })).arbiter i else s

/-- The line enters BREAK; a new episode is told and may trigger a MEASURE (R71). -/
def State.enterBreak (i : SectionId) (s : State) : State :=
  if (s.sec i).episode then s.modLine i (fun x => { x with line := .brk, exch := .quiet })
  else
    ((s.modLine i (fun x => { x with line := .brk, exch := .quiet, episode := true })).post (.lineBreakStart i)).autoTrigger i

/-- The break time is reached (R71). -/
def State.breakTime (i : SectionId) (s : State) : State :=
  match (s.sec i).breakTimer with
  | some t => ((s.reach t.due).abandonForBreak i).enterBreak i
  | none => s

/-- A break episode that is open closes with LINE_BREAK_END (R72). -/
def State.closeEpisode (i : SectionId) (s : State) : State :=
  if (s.sec i).episode then (s.post (.lineBreakEnd i)).modSec i (fun x => { x with episode := false }) else s

/-- Space ends (R71, R72). -/
def State.spaceDown (i : SectionId) (s : State) : State :=
  if (s.sec i).space then
    (s.closeEpisode i).modLine i (fun x =>
      { x with space := false, line := if x.line = .brk then .unknown else x.line })
  else s

/-! ## UNKNOWN -/

/-- The settle quiet reaches 500 ms (R66). -/
def State.settleQuiet (i : SectionId) (s : State) : State :=
  match (s.sec i).quietTimer with
  | some t => (s.reach t.due).enterIdle i
  | none => s

/-- An end mark is observed in UNKNOWN (R66). -/
def State.endMark (i : SectionId) (s : State) : State := if (s.sec i).line = .unknown then s.enterIdle i else s

/-! ## Samples -/

/-- A measurement completes (R122). -/
def State.completeMeasure (i : SectionId) (r : Running) (samples : List Nat) (s : State) : State :=
  let res := (s.sec i).defnD.result i (s.postsOn i) s.seconds r.trigger samples
  ((s.setLtu i ⟨none, some res⟩).post res.event).modLine i (fun x => { x with line := .unknown, exch := .quiet })

/-- A sample is taken, at 250 ms from the one before (R120). -/
def State.takeSample (i : SectionId) (reading : Nat) (s : State) : State :=
  match (s.ltuOf i).running, (s.sec i).line with
  | some r, .testing =>
    let now := s.reach (r.startMs + Config.sampleMs * (r.samples.length + 1))
    let samples := r.samples ++ [storedSample reading]
    if Config.samplesWanted ≤ samples.length then now.completeMeasure i r samples
    else now.setLtu i { now.ltuOf i with running := some { r with samples := samples } }
  | _, _ => s

/-! ## The commands -/

/-- LEAD_WINDOW_END (R37). -/
def execLeadWindowEnd (i : SectionId) (s : State) : Host.Outcome State Fault Refusal := .next (s.leadEnds i)

/-- TRANSACTION_BURST_SENT (R44, R51). -/
def execTransactionBurstSent (i : SectionId) (s : State) : Host.Outcome State Fault Refusal := .next (s.burstSent i)

/-- REPLY_WINDOW_EXPIRY (R44, R46). -/
def execReplyWindowExpiry (i : SectionId) (s : State) : Host.Outcome State Fault Refusal := .next (s.windowEnds i)

/-- POST_BURST_START (R68, R49, R51, R44, R86). -/
def execPostBurstStart (i : SectionId) (sync : SyncWord) (s : State) : Host.Outcome State Fault Refusal :=
  .next (s.postBurstStarts i sync)

/-- REPLY_BURST_END (R45, R46). -/
def execReplyBurstEnd (i : SectionId) (recs : List LineRec) (s : State) : Host.Outcome State Fault Refusal :=
  .next (s.replyEnds i recs)

/-- POST_BURST_END (R52 to R54). -/
def execPostBurstEnd (i : SectionId) (recs : List LineRec) (s : State) : Host.Outcome State Fault Refusal :=
  .next (s.postEnds i recs)

/-- ANSWER_BURST_SENT (R54, R50). -/
def execAnswerBurstSent (i : SectionId) (s : State) : Host.Outcome State Fault Refusal := .next (s.answerSent i)

/-- CARRIER_APPEARS (R70, R66). -/
def execCarrierAppears (i : SectionId) (s : State) : Host.Outcome State Fault Refusal := .next (s.carrierUp i)

/-- CARRIER_DROPS (R70, R39). -/
def execCarrierDrops (i : SectionId) (s : State) : Host.Outcome State Fault Refusal := .next (s.carrierDown i)

/-- STUCK_LIMIT (R70). -/
def execStuckLimit (i : SectionId) (s : State) : Host.Outcome State Fault Refusal := .next (s.stuckLimit i)

/-- SPACE_APPEARS (R71). -/
def execSpaceAppears (i : SectionId) (s : State) : Host.Outcome State Fault Refusal := .next (s.spaceUp i)

/-- BREAK_TIME (R71). -/
def execBreakTime (i : SectionId) (s : State) : Host.Outcome State Fault Refusal := .next (s.breakTime i)

/-- SPACE_ENDS (R72). -/
def execSpaceEnds (i : SectionId) (s : State) : Host.Outcome State Fault Refusal := .next (s.spaceDown i)

/-- SETTLE_QUIET (R66). -/
def execSettleQuiet (i : SectionId) (s : State) : Host.Outcome State Fault Refusal := .next (s.settleQuiet i)

/-- END_MARK_OBSERVED (R66). -/
def execEndMarkObserved (i : SectionId) (s : State) : Host.Outcome State Fault Refusal := .next (s.endMark i)

/-- SAMPLE_TAKEN (R120, R122). -/
def execSampleTaken (i : SectionId) (reading : Nat) (s : State) : Host.Outcome State Fault Refusal :=
  .next (s.takeSample i reading)

end Sys2Proof.Machine
end

