-- ==== Sys2Proof/Machine/LinkEvents.lean ====
section
/-! DEFINITION. What happens on the serial link, and the resets: FRAME_RECEIVED, FRAME_BYTE_GAP, BYTE_RECEIVED,
DISCARD_NOTICE_REPLY, REPLY_SENT, POWER_STEADY and the RESET input (11, R187 to R189, R198, R199). -/

namespace Sys2Proof.Machine

/-- 100 ms pass without the next byte of a frame (R187). -/
def State.byteGap (s : State) : State :=
  match s.rx with
  | .inFrame got gap => ({ s with rx := .hunting }.reach gap.due).joinBuffer (.notice .frameBad (frameTag got))
  | .hunting => s

/-- A discard notice at the head of the buffer is answered with an error reply, once no reply is being sent (R189). -/
def State.noticeReply (s : State) : State :=
  match s.buffer with
  | .notice st tag :: _ =>
    if s.headTaken || s.silent || s.reply.isSome then s
    else { s with reply := some ⟨Config.errorKind, tag.getD 0, st, .errorReply tag.isSome⟩, headTaken := true }
  | .request _ _ _ :: _ => s
  | [] => s

/-- The last byte of a reply is sent (R188); the reply to a RESET is followed by the device reset (R198). -/
def State.replySent (s : State) : State :=
  match s.reply with
  | some r =>
    if r.isReset then s.deviceReset
    else { s with reply := none, headTaken := false, buffer := if s.headTaken then s.buffer.tail else s.buffer }
  | none => s

/-- The RESET input is asserted (R199): event queue and request buffer emptied, READY low, a reply or burst being sent cut off. An
input that is held already cannot be asserted (log 3). -/
def State.assertReset (s : State) : State :=
  if s.resetHeld then s
  else { s with rx := .hunting, buffer := [], reply := none, headTaken := false, resetHeld := true,
                events := [] }.cutBursts allSections

/-- The RESET input is released and the device reset takes effect (R199). An input that is not held cannot be released, and the
model passes the command over (log 3). -/
def State.releaseReset (s : State) : State := if s.resetHeld then { s with resetHeld := false }.deviceReset else s

/-- Power comes up and becomes steady, and the device reset takes effect (R199); a RESET input that is held stays held, and the part
silent, until it is released (log 39). -/
def State.powerSteady (s : State) : State := { s with poweringUp := false }.deviceReset

/-- FRAME_RECEIVED (R187, R188): the bytes of a frame, or the end of one, received one after the other (log 22). -/
def execFrameReceived (bytes : List Byte) (s : State) : Host.Outcome State Fault Refusal := .next (s.receiveBytes bytes)

/-- FRAME_BYTE_GAP (R187). -/
def execFrameByteGap (s : State) : Host.Outcome State Fault Refusal := .next s.byteGap

/-- DISCARD_NOTICE_REPLY (R189). -/
def execDiscardNoticeReply (s : State) : Host.Outcome State Fault Refusal := .next s.noticeReply

/-- REPLY_SENT (R188, R198). -/
def execReplySent (s : State) : Host.Outcome State Fault Refusal := .next s.replySent

/-- POWER_STEADY (R199). -/
def execPowerSteady (s : State) : Host.Outcome State Fault Refusal := .next s.powerSteady

/-- RESET_INPUT_ASSERTED (R199). -/
def execResetInputAsserted (s : State) : Host.Outcome State Fault Refusal := .next s.assertReset

/-- RESET_INPUT_RELEASED (R199). -/
def execResetInputReleased (s : State) : Host.Outcome State Fault Refusal := .next s.releaseReset

/-- BYTE_RECEIVED (R187). -/
def execByteReceived (b : Byte) (s : State) : Host.Outcome State Fault Refusal := .next (s.receiveByte b)

end Sys2Proof.Machine
end

