-- ==== Sys2Proof/Machine/PostRequests.lean ====
section
/-! DEFINITION. The post requests: DEFINE POST, REMOVE POST, SUSPEND POST, RESUME POST, LAMP and MESSAGE (01, 11). -/

namespace Sys2Proof.Machine

/-- The largest offset check 1 of R7 lets through: the named section's length, or 20,000 where it is not defined. -/
def State.offsetLimit (s : State) (i : SectionId) : Nat :=
  match (s.sec i).defn with
  | some d => d.length
  | none => 20000

/-- The slot holds a post number other than the request's (R7, check 4). -/
def State.addressTaken (s : State) (i : SectionId) (a : Addr) (p : Nat) : Bool :=
  match s.slotAt i a with
  | some q => q != p
  | none => false

/-- The column a new post takes: column 0 if that entry is invalid, else column 1, none where both are valid (R7, R8). -/
def State.openColumn (s : State) (p : Nat) : Option (Fin 2) :=
  if (s.entry (rowOf p) 0).isNone then some 0 else if (s.entry (rowOf p) 1).isNone then some 1 else none

/-- A new post's entry (R8). -/
def newEntry (p : Nat) (i : SectionId) (a : Addr) (o : Nat) (cls : PostClass) (cw : Carriageway) : PostEntry :=
  { post := p, sec := i, addr := a, offset := o, cls := cls, cway := cw, service := .inService, lastStatus := none,
    lastReply := none, missed := 0, reachable := true, lowBattery := false }

/-- A new post placed (R8). -/
def State.placePost (e : PostEntry) (c : Fin 2) (s : State) : State :=
  (s.setEntry (rowOf e.post) c (some e)).setSlot e.sec e.addr (some e.post)

/-- A post redefined in place (R9): the old slot emptied, the definition written, the new slot filled, the service state kept. -/
def State.redefinePost (old : PostEntry) (c : Fin 2) (e : PostEntry) (s : State) : State :=
  ((s.setSlot old.sec old.addr none).setEntry (rowOf e.post) c (some { e with service := old.service })).setSlot e.sec e.addr
    (some e.post)

/-- DEFINE POST with its fields in range: checks 2 to 5 (R7), then R8 or R9. -/
def State.defineChecked (e : PostEntry) (s : State) : Answered :=
  if (s.sec e.sec).defn.isNone then s.refuse .noSuchSection
  else match s.lookup e.post with
    | some (c, old) =>
      if (s.callAt old.sec old.addr).isSome then s.refuse .postBusy
      else if s.addressTaken e.sec e.addr e.post then s.refuse .addressTaken
      else (s.redefinePost old c e, .ok, .placed (rowOf e.post) c)
    | none =>
      if s.addressTaken e.sec e.addr e.post then s.refuse .addressTaken
      else match s.openColumn e.post with
        | some c => (s.placePost e c, .ok, .placed (rowOf e.post) c)
        | none => s.refuse .dirRowFull

/-- DEFINE POST at its owner: check 1 (R7), then the others. -/
def State.definePostAct (p : RawPost) (s : State) : Answered :=
  match sectionOf p.sec, addrOf p.addr, PostClass.ofCode p.cls, Carriageway.ofCode p.cway with
  | some i, some a, some cls, some cw =>
    if isPostNumber p.post && decide (p.offset ≤ s.offsetLimit i) then s.defineChecked (newEntry p.post i a p.offset cls cw)
    else s.refuse .badField
  | _, _, _, _ => s.refuse .badField

/-- REMOVE POST at its owner (R11). -/
def State.removePostAct (p : Nat) (s : State) : Answered :=
  s.onPost p (fun c e =>
    if (s.callAt e.sec e.addr).isSome then s.refuse .postBusy
    else ((s.setSlot e.sec e.addr none).setEntry (rowOf p) c none, .ok, .nothing))

/-- SUSPEND POST and RESUME POST at their owner (R12). -/
def State.setServiceAct (p : Nat) (st : ServiceState) (s : State) : Answered :=
  s.onPost p (fun c e => (s.setEntry (rowOf p) c (some { e with service := st }), .ok, .nothing))

/-- A host entry joins a section's queue (R76): a wake cause with reason HOST (R89), work for the arbiter (R73), and an occasion
for the dispatcher where it returned the section from SETTLING (R161). -/
def State.hostEntry (i : SectionId) (f : List Txn → List Txn) (s : State) : State :=
  (((s.arrive i .host).modQueue i f).workArrived i).finish

/-- The queue holds a LAMP for the address (R76). -/
def SectionCtl.lampQueued (x : SectionCtl) (a : Addr) : Bool := x.queue.any (fun u => u.kind.isLamp && u.addr == a)

/-- LAMP at its owner (R195, R76). -/
def State.lampAct (p pattern : Nat) (s : State) : Answered :=
  match LampPattern.ofCode pattern with
  | some pat =>
    s.onPost p (fun _ e =>
      if (s.sec e.sec).power = .off then s.refuse .sectionOff
      else if !(s.sec e.sec).lampQueued e.addr && decide (Config.hostDepth ≤ (s.sec e.sec).hostCount) then s.refuse .queueFull
      else (s.hostEntry e.sec (joinLamp (.fresh (.lamp pat) e.addr .host)), .ok,
            .lampTaken e.sec e.addr ((s.sec e.sec).lampQueued e.addr)))
  | none => s.refuse .badField

/-- MESSAGE at its owner (R196, R76). -/
def State.messageAct (p : Nat) (text : List Byte) (s : State) : Answered :=
  s.onPost p (fun _ e =>
    if (s.sec e.sec).power = .off then s.refuse .sectionOff
    else if Config.hostDepth ≤ (s.sec e.sec).hostCount then s.refuse .queueFull
    else (s.hostEntry e.sec (fun q => q ++ [.fresh (.text (preparedText text)) e.addr .host]),
          okStatus (preparedText text == text),
          .textTaken e.sec e.addr (preparedText text) (recordCount (preparedText text))))

/-- DEFINE POST (R7 to R9). -/
def execDefinePost (h : Hdr) (p : RawPost) (s : State) : Host.Outcome State Fault Refusal :=
  .next (s.request .definePost h p.body (ReqKind.bodyLen .definePost) (State.definePostAct p))

/-- REMOVE POST (R11). -/
def execRemovePost (h : Hdr) (post : Nat) (s : State) : Host.Outcome State Fault Refusal :=
  .next (s.request .removePost h (byte2 post) (ReqKind.bodyLen .removePost) (State.removePostAct post))

/-- SUSPEND POST (R12). -/
def execSuspendPost (h : Hdr) (post : Nat) (s : State) : Host.Outcome State Fault Refusal :=
  .next (s.request .suspendPost h (byte2 post) (ReqKind.bodyLen .suspendPost) (State.setServiceAct post .suspended))

/-- RESUME POST (R12). -/
def execResumePost (h : Hdr) (post : Nat) (s : State) : Host.Outcome State Fault Refusal :=
  .next (s.request .resumePost h (byte2 post) (ReqKind.bodyLen .resumePost) (State.setServiceAct post .inService))

/-- LAMP (R195). -/
def execLamp (h : Hdr) (post pattern : Nat) (s : State) : Host.Outcome State Fault Refusal :=
  .next (s.request .lamp h (byte2 post ++ byte1 pattern) (ReqKind.bodyLen .lamp) (State.lampAct post pattern))

/-- MESSAGE (R196): "The body must be 3 + n bytes". -/
def execMessage (h : Hdr) (post n : Nat) (text : List Byte) (s : State) : Host.Outcome State Fault Refusal :=
  .next (s.request .message h (byte2 post ++ byte1 n ++ text) (ReqKind.bodyLen .message + n) (State.messageAct post text))

end Sys2Proof.Machine
end

