-- ==== Sys2Proof/Machine/PowerEvents.lean ====
section
/-! DEFINITION. The power states of a section: ENTER_SETTLING, SHUTDOWN_SENT, SETTLE_TIMER_EXPIRY, OFF_HOOK_DETECTED,
POWER_UP_END and ANNOUNCE_END (05, R84 to R91). -/

namespace Sys2Proof.Machine

/-- A burst is sent, or not by a part that may send nothing (R199, log 8). -/
def sending (silent : Bool) (e : Exchange) : Exchange := if silent then .quiet else e

/-- At least the applied idle hold has passed since the idle-since time (R84). -/
def SectionCtl.idleHeld (x : SectionCtl) (now : Nat) : Bool :=
  match x.idleSince with
  | some t => decide (t + 1000 * x.timingD.idleHold ≤ now)
  | none => false

/-- All the conditions of R84 hold. -/
def State.maySettle (s : State) (i : SectionId) : Bool :=
  let x := s.sec i
  x.power == .active && x.defnD.hibernate && x.line == .idle && x.pairFree && !x.space && !x.episode && x.queue.isEmpty &&
  x.slot.isNone && x.round.isNone && !x.roundDue && (s.holder i).isNone &&
  (s.callsOn i).all (fun c => c.state == .abandoned) && x.idleHeld s.nowMs

/-- The SHUTDOWN burst: one SHUTDOWN record to address 0, no filler (R37, R85). -/
def SectionCtl.shutdownBurst (x : SectionCtl) : Burst := ⟨x.syncWord, .absent, [⟨0, .shutdown⟩]⟩

/-- A section enters SETTLING (R84, R85). -/
def State.enterSettling (i : SectionId) (s : State) : State :=
  if s.maySettle i then
    s.modLine i (fun x =>
      { x with power := .settling .shutdown, line := .down, exch := sending s.silent (.shutdown x.shutdownBurst),
               idleSince := none })
  else s

/-- The end mark of the SHUTDOWN burst is sent (R85). -/
def State.shutdownDone (i : SectionId) (s : State) : State :=
  match (s.sec i).power, (s.sec i).exch with
  | .settling .shutdown, .shutdown _ =>
    s.modLine i (fun x =>
      { x with power := .settling .settle, exch := .quiet, settleTimer := some ⟨s.nowMs, Config.settleMs⟩ })
  | _, _ => s

/-- The settle timer runs out (R85); off-hook current present at this moment wakes the section at once (R88). -/
def State.settleEnds (i : SectionId) (offHook : Bool) (s : State) : State :=
  match (s.sec i).power, (s.sec i).settleTimer with
  | .settling .settle, some t =>
    let asleep := ((s.reach t.due).modLine i (fun x => { x with power := .hibernate, settleTimer := none })).post
      (.sectionState i .hibernate .empty)
    if offHook then asleep.arrive i .post else asleep
  | _, _ => s

/-- Off-hook current is present: it acts in HIBERNATE only (R88). -/
def State.offHook (i : SectionId) (s : State) : State := if (s.sec i).power = .hibernate then s.arrive i .post else s

/-- The announce burst: "FILLER records addressed to 0 for the rest of the phase", and no other record (R91). -/
def SectionCtl.announceBurst (x : SectionCtl) : Burst := ⟨x.syncWord, .addressed 0, []⟩

/-- POWER-UP ends and ANNOUNCE begins (R90, R91). -/
def State.powerUpEnds (i : SectionId) (s : State) : State :=
  match (s.sec i).power, (s.sec i).wakeTimer with
  | .waking .powerUp, some t =>
    let now := s.reach t.due
    now.modLine i (fun x =>
      { x with power := .waking .announce, wakeTimer := some ⟨now.nowMs, Config.announceMs⟩,
               exch := sending s.silent (.announce x.announceBurst) })
  | _, _ => s

/-- The round that the mark stands for opens (R91 step 4). -/
def State.openDue (i : SectionId) (s : State) : State :=
  if (s.sec i).roundDue then (s.modSec i (fun x => { x with roundDue := false })).openRound i else s

/-- SECTION_STATE ACTIVE with the reasons, which are then emptied (R91 step 3). -/
def State.tellActive (i : SectionId) (s : State) : State :=
  (s.post (.sectionState i .active (s.sec i).reasons)).modSec i (fun x => { x with reasons := .empty })

/-- ANNOUNCE ends and the section becomes ACTIVE, in the order of R91. -/
def State.announceEnds (i : SectionId) (s : State) : State :=
  match (s.sec i).power, (s.sec i).wakeTimer with
  | .waking .announce, some t =>
    let up := ((s.reach t.due).modLine i (fun x => { x with power := .active, wakeTimer := none })).settleIdle i
    (((up.tellActive i).openDue i).arbiter i).markDispatch.finish
  | _, _ => s

/-- ENTER_SETTLING (R84, R85). -/
def execEnterSettling (i : SectionId) (s : State) : Host.Outcome State Fault Refusal := .next (s.enterSettling i)

/-- SHUTDOWN_SENT (R85). -/
def execShutdownSent (i : SectionId) (s : State) : Host.Outcome State Fault Refusal := .next (s.shutdownDone i)

/-- SETTLE_TIMER_EXPIRY (R85, R88). -/
def execSettleTimerExpiry (i : SectionId) (offHook : Bool) (s : State) : Host.Outcome State Fault Refusal :=
  .next (s.settleEnds i offHook)

/-- OFF_HOOK_DETECTED (R88). -/
def execOffHookDetected (i : SectionId) (s : State) : Host.Outcome State Fault Refusal := .next (s.offHook i)

/-- POWER_UP_END (R90, R91). -/
def execPowerUpEnd (i : SectionId) (s : State) : Host.Outcome State Fault Refusal := .next (s.powerUpEnds i)

/-- ANNOUNCE_END (R91). -/
def execAnnounceEnd (i : SectionId) (s : State) : Host.Outcome State Fault Refusal := .next (s.announceEnds i)

end Sys2Proof.Machine
end

