-- ==== Sys2Proof/Machine/ReadRequests.lean ====
section
/-! DEFINITION. GET EVENT and the reading requests (10, R182; 08, R151 to R153; 01, R19, R20; 11, R197; 09, R176; 07, R127). -/

namespace Sys2Proof.Machine

/-- GET EVENT at its owner (R182). -/
def State.getEventAct (s : State) : Answered :=
  match s.events with
  | e :: es => ({ s with events := es }, .ok, .event (some e) es.length s.seconds)
  | [] => (s, .ok, .event none 0 s.seconds)

/-- A call in brief: the fields of R152. -/
def Call.brief (c : Call) : CallBrief := ⟨c.ref, c.state, c.sec, c.addr, c.post, c.channel⟩

/-- LIST CALLS at its owner: the count and the entries (R152), and, beside the entries and in their order, the location records that
are carried "in LIST CALLS" (R131) and that an entry has no place for (DESIGN CHOICE, log 41). -/
def State.listCallsAct (s : State) : Answered :=
  let l := sortBy Call.before s.calls
  (s, .ok, .callList s.calls.length (l.map Call.brief) (l.map Call.location))

/-- The code of a call state, the states "coded from 0 in the order the manual lists their values" (kind codes, last paragraph; 08,
call states). -/
def CallState.code : CallState → Nat
  | .queued => 0
  | .offered => 1
  | .connected => 2
  | .parked => 3
  | .ringing => 4
  | .abandoned => 5

/-- An entry of LIST CALLS "packed in 6 bytes": "reference 2, post number 2, section and address 1, state and channel 1" (R189). The
first named of a shared byte stands in its upper four places, and 15 stands for no channel (DESIGN CHOICE, log 49). -/
def CallBrief.bytes (b : CallBrief) : List Byte :=
  byte2 b.ref ++ byte2 b.post ++ byte1 (16 * b.sec.val + b.addr.val) ++
  byte1 (16 * b.state.code + (b.channel.map Fin.val).getD 15)

/-- The body of a LIST CALLS reply on the link: "the status and the count", and the packed entries (R189). The location records have
no bytes in it (log 41). -/
def callListBody (n : Nat) (calls : List CallBrief) : List Byte :=
  byte1 Status.ok.code ++ byte1 n ++ calls.flatMap CallBrief.bytes

/-- READ CALL at its owner (R153). -/
def State.readCallAct (ref : Nat) (s : State) : Answered :=
  s.onCall ref (fun c =>
    (s, .ok, .call c (if c.state = .queued then some (s.score c) else none)
      (if c.state = .queued then some (s.eligible c) else none)
      (if c.state = .connected then some (c.connectedSeconds s.seconds) else none)))

/-- READ POST at its owner (R20). -/
def State.readPostAct (p : Nat) (s : State) : Answered :=
  s.onPost p (fun c e => (s, .ok, .post e (rowOf p) c ((s.callAt e.sec e.addr).map Call.ref)))

/-- A queue entry as reported (R197). -/
def Txn.queueView (t : Txn) : QueueView := ⟨t.kind.name, t.addr, t.origin, t.losses⟩

/-- The transaction in flight as reported (R197). -/
def Txn.flightView (t : Txn) : FlightView := ⟨t.kind.name, t.addr, t.origin, t.attempts, t.losses, t.progress⟩

/-- The open round as reported (R197, R98). -/
def SectionCtl.roundView (x : SectionCtl) : Option RoundView :=
  x.round.map (fun r => ⟨r.cursor, x.pollInFlight.map KeptPoll.addr, r.answered, r.missed, r.skipped⟩)

/-- A section as READ SECTION reports it (R197). -/
def State.sectionView (s : State) (i : SectionId) : SectionView :=
  let x := s.sec i
  { defn := x.defnD, timing := x.timingD, pendingTiming := x.pendingTiming, power := x.power, reasons := x.reasons,
    roundDue := x.roundDue, line := x.line, episode := x.episode, inFlight := x.inFlight.map Txn.flightView,
    hostCount := x.hostCount, queueLength := x.queue.length, queue := x.queue.map Txn.queueView, slot := x.slot,
    measuring := (s.ltuOf i).running.isSome, anchor := x.anchor, due := x.due, round := x.roundView, overrun := x.overrun,
    bracket := x.bracket }

/-- READ SECTION at its owner (R197). -/
def State.readSectionAct (n : Nat) (s : State) : Answered := s.onSection n (fun i => (s, .ok, .sectionView (s.sectionView i)))

/-- READ CHANNELS at its owner (R176). -/
def State.readChannelsAct (s : State) : Answered :=
  (s, .ok, .channels s.channels.toList s.holders.toList s.joins.toList s.globals.autoOffer)

/-- READ UNRESOLVED at its owner: the record is emptied (R19). -/
def State.readUnresolvedAct (s : State) : Answered := ({ s with unresolved := none }, .ok, .unresolved s.unresolved)

/-- READ HISTORY at its owner (R151). -/
def State.readHistoryAct (index : Nat) (s : State) : Answered :=
  if index < Config.historyDepth then (s, .ok, .history s.history[index]? s.history.length) else s.refuse .badField

/-- The MEASURE in progress (R127). -/
def State.measureProgress (s : State) (i : SectionId) : MeasureProgress :=
  match (s.ltuOf i).running, (s.sec i).slot with
  | some r, _ => .running r.trigger r.samples
  | none, some t => .pending t (t == .host && (s.holder i).isSome)
  | none, none => .idle

/-- READ MEASUREMENT at its owner (R127). -/
def State.readMeasurementAct (n : Nat) (s : State) : Answered :=
  s.onSection n (fun i => (s, .ok, .measurement (s.ltuOf i).last (s.measureProgress i)))

/-- GET EVENT (R182). -/
def execGetEvent (h : Hdr) (s : State) : Host.Outcome State Fault Refusal :=
  .next (s.request .getEvent h [] (ReqKind.bodyLen .getEvent) State.getEventAct)

/-- LIST CALLS (R152). -/
def execListCalls (h : Hdr) (s : State) : Host.Outcome State Fault Refusal :=
  .next (s.request .listCalls h [] (ReqKind.bodyLen .listCalls) State.listCallsAct)

/-- READ CALL (R153). -/
def execReadCall (h : Hdr) (ref : Nat) (s : State) : Host.Outcome State Fault Refusal :=
  .next (s.request .readCall h (byte2 ref) (ReqKind.bodyLen .readCall) (State.readCallAct ref))

/-- READ POST (R20). -/
def execReadPost (h : Hdr) (post : Nat) (s : State) : Host.Outcome State Fault Refusal :=
  .next (s.request .readPost h (byte2 post) (ReqKind.bodyLen .readPost) (State.readPostAct post))

/-- READ SECTION (R197). -/
def execReadSection (h : Hdr) (sec : Nat) (s : State) : Host.Outcome State Fault Refusal :=
  .next (s.request .readSection h (byte1 sec) (ReqKind.bodyLen .readSection) (State.readSectionAct sec))

/-- READ CHANNELS (R176). -/
def execReadChannels (h : Hdr) (s : State) : Host.Outcome State Fault Refusal :=
  .next (s.request .readChannels h [] (ReqKind.bodyLen .readChannels) State.readChannelsAct)

/-- READ UNRESOLVED (R19). -/
def execReadUnresolved (h : Hdr) (s : State) : Host.Outcome State Fault Refusal :=
  .next (s.request .readUnresolved h [] (ReqKind.bodyLen .readUnresolved) State.readUnresolvedAct)

/-- READ HISTORY (R151). -/
def execReadHistory (h : Hdr) (index : Nat) (s : State) : Host.Outcome State Fault Refusal :=
  .next (s.request .readHistory h (byte1 index) (ReqKind.bodyLen .readHistory) (State.readHistoryAct index))

/-- READ MEASUREMENT (R127). -/
def execReadMeasurement (h : Hdr) (sec : Nat) (s : State) : Host.Outcome State Fault Refusal :=
  .next (s.request .readMeasurement h (byte1 sec) (ReqKind.bodyLen .readMeasurement) (State.readMeasurementAct sec))

end Sys2Proof.Machine
end

