-- ==== Sys2Proof/Machine/SectionRequests.lean ====
section
/-! DEFINITION. The section requests: DEFINE SECTION, SET SECTION TIMING, SECTION SERVICE, SECTION RESET, FORCE IDLE, POLL NOW and
MEASURE (04, 05, 06, 07). -/

namespace Sys2Proof.Machine

/-- The first definition of a section sets its applied timing to the defaults; a redefinition keeps it (R61). -/
def SectionCtl.define (d : SectionDef) (x : SectionCtl) : SectionCtl :=
  { x with defn := some d, timing := some x.timingD }

/-- DEFINE SECTION at its owner (R61, R13). -/
def State.defineSectionAct (n : Nat) (d : RawSection) (s : State) : Answered :=
  match sectionOf n, d.stored with
  | some i, some v =>
    if s.mode = .service ∧ (s.sec i).power ≠ .off then s.refuse .sectionActive
    else if v.length < s.largestOffset i then s.refuse .badField
    else (s.modSec i (SectionCtl.define v), okStatus (d.sameAs v), .definition v)
  | _, _ => s.refuse .badField

/-- A timing record written: pending where the section is ACTIVE with its line not IDLE, else applied at once (R63). -/
def State.setTimingAct (n : Nat) (t : RawTiming) (s : State) : Answered :=
  s.onSection n (fun i =>
    if (s.sec i).power = .active ∧ (s.sec i).line ≠ .idle then
      (s.modSec i (fun x => { x with pendingTiming := some t.stored }), okStatus (t.sameAs t.stored), .timing t.stored false)
    else (s.applyTiming i t.stored, okStatus (t.sameAs t.stored), .timing t.stored true))

/-- SECTION SERVICE IN at its owner (R94). -/
def State.serviceInAct (n dir force : Nat) (s : State) : Answered :=
  if dir = 0 ∧ (flagOf force).isSome then
    s.onSection n (fun i =>
      (if (s.sec i).power = .off then s.beginService i else s, .ok, .powerFound (s.sec i).power))
  else s.refuse .badField

/-- The section goes OFF (R96 step 2, R98): everything but the definition, the applied timing, the bracket and the levels on its
pair is cleared. -/
def SectionCtl.goOff (x : SectionCtl) : SectionCtl :=
  { x with power := .off, line := .down, exch := .quiet, wakeTimer := none, settleTimer := none, reasons := .empty,
           roundDue := false, round := none, overrun := false, episode := false, idleSince := none }

/-- A section taken out of service (R96), as one operation. -/
def State.takeOut (i : SectionId) (s : State) : State :=
  let held := (s.sec i).held
  let calls := s.callsInOrder i
  let off := (((s.abortQueue i).modLine i SectionCtl.goOff).post (.sectionState i .off .empty)).applyPending i
  ((off.endCalls .sectionOff calls).reportAborted i held).finish

/-- SECTION SERVICE OUT at its owner (R95). Whether the reply of a section found OFF, which carries "the power state OFF", has a
number of calls ended too is left open: the model's has it, 0 (DESIGN CHOICE, log 42). -/
def State.serviceOutAct (n dir force : Nat) (s : State) : Answered :=
  match dir, flagOf force with
  | 1, some f =>
    s.onSection n (fun i =>
      if (s.sec i).power = .off then (s, .ok, .serviceOut .off 0)
      else if (s.callsOn i).isEmpty || f then
        (s.takeOut i, .ok, .serviceOut (s.sec i).power (s.callsOn i).length)
      else (s, .callsPresent, .callCount (s.callsOn i).length))
  | _, _ => s.refuse .badField

/-- The reason set of the wake sequence that a section reset starts: those gathered so far are kept in WAKING (R92). -/
def SectionCtl.resetReasons (x : SectionCtl) : ReasonSet :=
  match x.power with
  | .waking _ => x.reasons.add .reset
  | .off | .active | .settling _ | .hibernate => ReasonSet.empty.add .reset

/-- The line of an ACTIVE section goes to UNKNOWN; a section in HIBERNATE, SETTLING or WAKING goes to WAKING (R81 step 5). -/
def State.resetLine (i : SectionId) (s : State) : State :=
  if (s.sec i).power = .active then s.modLine i (fun x => { x with line := .unknown, exch := .quiet })
  else s.startWake i (s.sec i).resetReasons

/-- A section reset (R81), as one operation: the queue aborted, the calls ended, the round closed, the pending timing applied, the line
or the power state set, the aborted transactions reported. -/
def State.resetSection (i : SectionId) (s : State) : State :=
  let held := (s.sec i).held
  let calls := s.callsInOrder i
  let cleared := ((s.abortQueue i).endCallsQuietly .sectionReset calls).modSec i (fun x => { x with round := none })
  (((cleared.applyPending i).resetLine i).reportAborted i held).finish

/-- SECTION RESET at its owner (R81). -/
def State.sectionResetAct (n : Nat) (s : State) : Answered :=
  s.onSectionInService n (fun i => (s.resetSection i, .ok, .nothing))

/-- FORCE IDLE at its owner (R67). -/
def State.forceIdleAct (n : Nat) (s : State) : Answered :=
  s.onSectionInService n (fun i =>
    (if (s.sec i).power = .active ∧ (s.sec i).line = .unknown then s.enterIdle i else s, .ok,
     .idleFound (s.sec i).power (s.sec i).line))

/-- A round is opened on an ACTIVE section, and the arbiter acts on it where the line is IDLE (R73, R102). -/
def State.openAndAct (i : SectionId) (s : State) : State := (s.openRound i).workArrived i

/-- POLL NOW at its owner (R107). -/
def State.pollNowAct (n : Nat) (s : State) : Answered :=
  s.onSectionInService n (fun i =>
    match (s.sec i).power with
    | .active =>
      if (s.sec i).round.isSome then (s, .ok, .pollNow .alreadyOpen) else (s.openAndAct i, .ok, .pollNow .opened)
    | .settling _ => (((s.arrive i .host).openAndAct i).finish, .ok, .pollNow .opened)
    | .hibernate => ((s.modSec i (fun x => { x with roundDue := true })).arrive i .host, .ok, .pollNow .markedDue)
    | .waking _ =>
      ((s.modSec i (fun x => { x with roundDue := true })).arrive i .host, .ok,
       .pollNow (if (s.sec i).roundDue then .alreadyDue else .markedDue))
    | .off => s.refuse .sectionOff)

/-- What MEASURE's reply says (R116; a busy line counts as at once, and on a section that is not ACTIVE the wait for ACTIVE is told
before a wait for the path, log 18). -/
def State.measureNote (s : State) (i : SectionId) : MeasureNote :=
  match (s.sec i).power with
  | .active | .settling _ => if (s.holder i).isSome then .waitsForPath else .startsAtOnce
  | .off | .waking _ | .hibernate => .waitsForActive

/-- MEASURE at its owner (R116). -/
def State.measureAct (n : Nat) (s : State) : Answered :=
  s.onSectionInService n (fun i =>
    if (s.sec i).slot.isSome || (s.ltuOf i).running.isSome then s.refuse .measurePending
    else ((((s.arrive i .host).modSec i (fun x => { x with slot := some .host })).arbiter i).finish, .ok,
          .measure (s.measureNote i)))

/-- DEFINE SECTION (R61). -/
def execDefineSection (h : Hdr) (sec : Nat) (d : RawSection) (s : State) : Host.Outcome State Fault Refusal :=
  .next (s.request .defineSection h (byte1 sec ++ d.body) (ReqKind.bodyLen .defineSection) (State.defineSectionAct sec d))

/-- SET SECTION TIMING (R62). -/
def execSetSectionTiming (h : Hdr) (sec : Nat) (t : RawTiming) (s : State) : Host.Outcome State Fault Refusal :=
  .next (s.request .setSectionTiming h (byte1 sec ++ t.body) (ReqKind.bodyLen .setSectionTiming) (State.setTimingAct sec t))

/-- SECTION SERVICE with direction IN (R94). -/
def execSectionServiceIn (h : Hdr) (sec dir force : Nat) (s : State) : Host.Outcome State Fault Refusal :=
  .next (s.request .sectionService h (byte1 sec ++ byte1 dir ++ byte1 force) (ReqKind.bodyLen .sectionService)
    (State.serviceInAct sec dir force))

/-- SECTION SERVICE with direction OUT (R95). -/
def execSectionServiceOut (h : Hdr) (sec dir force : Nat) (s : State) : Host.Outcome State Fault Refusal :=
  .next (s.request .sectionService h (byte1 sec ++ byte1 dir ++ byte1 force) (ReqKind.bodyLen .sectionService)
    (State.serviceOutAct sec dir force))

/-- SECTION RESET (R81). -/
def execSectionReset (h : Hdr) (sec : Nat) (s : State) : Host.Outcome State Fault Refusal :=
  .next (s.request .sectionReset h (byte1 sec) (ReqKind.bodyLen .sectionReset) (State.sectionResetAct sec))

/-- FORCE IDLE (R67). -/
def execForceIdle (h : Hdr) (sec : Nat) (s : State) : Host.Outcome State Fault Refusal :=
  .next (s.request .forceIdle h (byte1 sec) (ReqKind.bodyLen .forceIdle) (State.forceIdleAct sec))

/-- POLL NOW (R107). -/
def execPollNow (h : Hdr) (sec : Nat) (s : State) : Host.Outcome State Fault Refusal :=
  .next (s.request .pollNow h (byte1 sec) (ReqKind.bodyLen .pollNow) (State.pollNowAct sec))

/-- MEASURE (R116). -/
def execMeasure (h : Hdr) (sec : Nat) (s : State) : Host.Outcome State Fault Refusal :=
  .next (s.request .measure h (byte1 sec) (ReqKind.bodyLen .measure) (State.measureAct sec))

end Sys2Proof.Machine
end

