-- ==== Sys2Proof/Machine/TimeEvents.lean ====
section
/-! DEFINITION. The timebase: SECONDS_TICK, AGEING_STEP and POLL_COUNTDOWN_EXPIRY (10, R178; 02, R35; 06, R99, R100). -/

namespace Sys2Proof.Machine

/-- The seconds count stands at an ageing step of the call: one of arrival + I to arrival + 7 × I (R35). -/
def State.atAgeingStep (s : State) (c : Call) : Bool :=
  let w := s.seconds - c.arrival
  c.state == .queued && w % s.globals.ageing == 0 && decide (1 ≤ w / s.globals.ageing) && decide (w / s.globals.ageing ≤ 7)

/-- An ageing step of a QUEUED call is an occasion for the dispatcher (R35, R161; log 27). -/
def State.ageingStep (ref : Nat) (s : State) : State :=
  match s.findCall ref with
  | some c => if s.atAgeingStep c then s.markDispatch.finish else s
  | none => s

/-- The countdown of a section runs out (R100), the next due time being set already. -/
def State.roundFallsDue (i : SectionId) (s : State) : State :=
  match (s.sec i).power with
  | .active =>
    if (s.sec i).round.isSome then s.modSec i (fun x => { x with overrun := true }) else s.openAndAct i
  | .settling _ => ((s.arrive i .schedule).openAndAct i).finish
  | .hibernate | .waking _ =>
    (s.modSec i (fun x => { x with overrun := x.overrun || x.roundDue, roundDue := true })).arrive i .schedule
  | .off => s

/-- The poll countdown runs out when the seconds count stands at or above the due time of a section in service (R99, R100). -/
def State.countdown (i : SectionId) (s : State) : State :=
  match (s.sec i).due with
  | some d =>
    if d ≤ s.seconds ∧ (s.sec i).power ≠ .off then
      (s.modSec i (fun x => { x with due := some (d + x.timingD.period) })).roundFallsDue i
    else s
  | none => s

/-- SECONDS_TICK (R178). -/
def execSecondsTick (s : State) : Host.Outcome State Fault Refusal := .next s.tickSecond

/-- AGEING_STEP (R35, R161). -/
def execAgeingStep (ref : Nat) (s : State) : Host.Outcome State Fault Refusal := .next (s.ageingStep ref)

/-- POLL_COUNTDOWN_EXPIRY (R100). -/
def execPollCountdownExpiry (i : SectionId) (s : State) : Host.Outcome State Fault Refusal := .next (s.countdown i)

end Sys2Proof.Machine
end

