-- ==== Sys2Proof/Machine/Dispatch.lean ====
section
/-! DEFINITION. One arm per command of the table, in the table's order, each a direct call of its meaning. -/

namespace Sys2Proof.Machine

/-- The effect of a command on everything but the queue. -/
def exec (i : Instr) (s : State) : Host.Outcome State Fault Refusal :=
  match i with
  | .identify h => Sys2Proof.Machine.execIdentify h s
  | .reset h => Sys2Proof.Machine.execReset h s
  | .start h => Sys2Proof.Machine.execStart h s
  | .setGlobals h g => Sys2Proof.Machine.execSetGlobals h g s
  | .defineSection h sec d => Sys2Proof.Machine.execDefineSection h sec d s
  | .setSectionTiming h sec t => Sys2Proof.Machine.execSetSectionTiming h sec t s
  | .sectionServiceIn h sec dir force => Sys2Proof.Machine.execSectionServiceIn h sec dir force s
  | .sectionServiceOut h sec dir force => Sys2Proof.Machine.execSectionServiceOut h sec dir force s
  | .sectionReset h sec => Sys2Proof.Machine.execSectionReset h sec s
  | .forceIdle h sec => Sys2Proof.Machine.execForceIdle h sec s
  | .definePost h p => Sys2Proof.Machine.execDefinePost h p s
  | .removePost h post => Sys2Proof.Machine.execRemovePost h post s
  | .suspendPost h post => Sys2Proof.Machine.execSuspendPost h post s
  | .resumePost h post => Sys2Proof.Machine.execResumePost h post s
  | .lamp h post pattern => Sys2Proof.Machine.execLamp h post pattern s
  | .message h post n text => Sys2Proof.Machine.execMessage h post n text s
  | .pollNow h sec => Sys2Proof.Machine.execPollNow h sec s
  | .measure h sec => Sys2Proof.Machine.execMeasure h sec s
  | .setChannelOut h chan dir => Sys2Proof.Machine.execSetChannelOut h chan dir s
  | .setChannelIn h chan dir => Sys2Proof.Machine.execSetChannelIn h chan dir s
  | .answer h ref => Sys2Proof.Machine.execAnswer h ref s
  | .pick h ref chan => Sys2Proof.Machine.execPick h ref chan s
  | .park h ref => Sys2Proof.Machine.execPark h ref s
  | .retrieve h ref chan => Sys2Proof.Machine.execRetrieve h ref chan s
  | .clear h ref => Sys2Proof.Machine.execClear h ref s
  | .callPost h post chan => Sys2Proof.Machine.execCallPost h post chan s
  | .dismiss h ref => Sys2Proof.Machine.execDismiss h ref s
  | .getEvent h => Sys2Proof.Machine.execGetEvent h s
  | .listCalls h => Sys2Proof.Machine.execListCalls h s
  | .readCall h ref => Sys2Proof.Machine.execReadCall h ref s
  | .readPost h post => Sys2Proof.Machine.execReadPost h post s
  | .readSection h sec => Sys2Proof.Machine.execReadSection h sec s
  | .readChannels h => Sys2Proof.Machine.execReadChannels h s
  | .readUnresolved h => Sys2Proof.Machine.execReadUnresolved h s
  | .readHistory h index => Sys2Proof.Machine.execReadHistory h index s
  | .readMeasurement h sec => Sys2Proof.Machine.execReadMeasurement h sec s
  | .frameReceived bytes => Sys2Proof.Machine.execFrameReceived bytes s
  | .frameByteGap => Sys2Proof.Machine.execFrameByteGap s
  | .discardNoticeReply => Sys2Proof.Machine.execDiscardNoticeReply s
  | .replySent => Sys2Proof.Machine.execReplySent s
  | .powerSteady => Sys2Proof.Machine.execPowerSteady s
  | .resetInputAsserted => Sys2Proof.Machine.execResetInputAsserted s
  | .resetInputReleased => Sys2Proof.Machine.execResetInputReleased s
  | .secondsTick => Sys2Proof.Machine.execSecondsTick s
  | .ageingStep ref => Sys2Proof.Machine.execAgeingStep ref s
  | .pollCountdownExpiry sec => Sys2Proof.Machine.execPollCountdownExpiry sec s
  | .enterSettling sec => Sys2Proof.Machine.execEnterSettling sec s
  | .shutdownSent sec => Sys2Proof.Machine.execShutdownSent sec s
  | .settleTimerExpiry sec offHook => Sys2Proof.Machine.execSettleTimerExpiry sec offHook s
  | .offHookDetected sec => Sys2Proof.Machine.execOffHookDetected sec s
  | .powerUpEnd sec => Sys2Proof.Machine.execPowerUpEnd sec s
  | .announceEnd sec => Sys2Proof.Machine.execAnnounceEnd sec s
  | .leadWindowEnd sec => Sys2Proof.Machine.execLeadWindowEnd sec s
  | .transactionBurstSent sec => Sys2Proof.Machine.execTransactionBurstSent sec s
  | .replyWindowExpiry sec => Sys2Proof.Machine.execReplyWindowExpiry sec s
  | .postBurstStart sec sync => Sys2Proof.Machine.execPostBurstStart sec sync s
  | .replyBurstEnd sec recs => Sys2Proof.Machine.execReplyBurstEnd sec recs s
  | .postBurstEnd sec recs => Sys2Proof.Machine.execPostBurstEnd sec recs s
  | .answerBurstSent sec => Sys2Proof.Machine.execAnswerBurstSent sec s
  | .carrierAppears sec => Sys2Proof.Machine.execCarrierAppears sec s
  | .carrierDrops sec => Sys2Proof.Machine.execCarrierDrops sec s
  | .stuckLimit sec => Sys2Proof.Machine.execStuckLimit sec s
  | .spaceAppears sec => Sys2Proof.Machine.execSpaceAppears sec s
  | .breakTime sec => Sys2Proof.Machine.execBreakTime sec s
  | .spaceEnds sec => Sys2Proof.Machine.execSpaceEnds sec s
  | .settleQuiet sec => Sys2Proof.Machine.execSettleQuiet sec s
  | .endMarkObserved sec => Sys2Proof.Machine.execEndMarkObserved sec s
  | .sampleTaken sec reading => Sys2Proof.Machine.execSampleTaken sec reading s
  | .offerTimeout ref => Sys2Proof.Machine.execOfferTimeout ref s
  | .ringTimeout ref => Sys2Proof.Machine.execRingTimeout ref s
  | .readyLost c => Sys2Proof.Machine.execReadyLost c s
  | .readyRegained c => Sys2Proof.Machine.execReadyRegained c s
  | .byteReceived b => Sys2Proof.Machine.execByteReceived b s

end Sys2Proof.Machine
end

