-- ==== Sys2Proof/Safety.lean ====
section
/-! DEFINITION. The laws of the device that the spec states, as predicates of a state: the event queue, the tables, the power and
line states, the channels, the paths and joins, the transaction queues, and the directory. -/

namespace Sys2Proof.Machine

/-- "the event queue never holds more than 32 events" (R179) and "an event's lost-after count never exceeds 255" (R180). -/
def State.EventLaw (s : State) : Prop :=
  s.events.length ≤ Config.eventDepth ∧ ∀ e ∈ s.events, e.lostAfter ≤ Config.lostMax

/-- "the call table never holds more than 32 records, and the history never more than 16" (R129). -/
def State.TableLaw (s : State) : Prop :=
  s.calls.length ≤ Config.callDepth ∧ s.history.length ≤ Config.historyDepth

/-- "no two live call records name the same section and address" (R129). -/
def State.PlaceLaw (s : State) : Prop := s.calls.Pairwise (fun c d => ¬(c.sec = d.sec ∧ c.addr = d.addr))

/-- The request buffer holds up to two entries (R188). -/
def State.BufferLaw (s : State) : Prop := s.buffer.length ≤ Config.bufferDepth

/-- What a section may be sending or receiving while it is not ACTIVE: nothing, the SHUTDOWN burst or the announce burst (R59,
R65). -/
def Exchange.idleKind : Exchange → Bool
  | .quiet | .shutdown _ | .announce _ => true
  | .lead _ _ | .sending _ _ | .collided _ | .window _ | .reply | .retryWait | .post | .discarded | .answerDue _ _
  | .answering _ _ => false

/-- "a section whose power state is not ACTIVE has line state DOWN, no transaction in flight and no open poll round" (R82); in
every power state a transaction is in flight in OWNED or FOREIGN only (R43, R50), and each line timer runs exactly while its rule
says that it does (R65, R66, R70, R71). -/
def SectionCtl.PowerLaw (x : SectionCtl) : Prop :=
  (x.power ≠ .active → x.line = .down ∧ x.inFlight = none ∧ x.round = none ∧ x.exch.idleKind = true) ∧
  (x.inFlight.isSome = true → x.line = .owned ∨ x.line = .foreign) ∧
  x.stuckTimer.isSome = x.stuckRuns ∧ x.breakTimer.isSome = x.breakRuns ∧ x.quietTimer.isSome = x.quietRuns

/-- The power law of every section (R82, R65). -/
def State.PowerLaw (s : State) : Prop := ∀ i : SectionId, (s.sec i).PowerLaw

/-- "In SETUP every section is OFF" (R191). -/
def State.SetupLaw (s : State) : Prop := s.mode = .setup → ∀ i : SectionId, (s.sec i).power = .off

/-- "in HIBERNATE or SETTLING it has no live call other than ABANDONED; in OFF it has no live call at all" (R82). -/
def State.SleepLaw (s : State) : Prop :=
  ∀ c ∈ s.calls, match (s.sec c.sec).power with
    | .off => False
    | .hibernate | .settling _ => c.state = .abandoned
    | .waking _ | .active => True

/-- The channel state that matches a call's state: OFFERED, RINGING and CONNECTED have one (R155). -/
def CallState.channelState : CallState → Option ChannelState
  | .offered => some .offering
  | .ringing => some .ringing
  | .connected => some .connected
  | .queued | .parked | .abandoned => none

/-- The channel is in OFFERING, RINGING or CONNECTED (R155). -/
def ChannelState.busy : ChannelState → Bool
  | .offering | .ringing | .connected => true
  | .free | .down | .out => false

/-- A call of this reference is live. -/
def State.live (s : State) (r : Nat) : Bool := (s.findCall r).isSome

/-- The channel law of R155: a busy channel names a live call that names it in the matching state; another names none; a call in
OFFERED, RINGING or CONNECTED names a channel, which names it in the matching state; a call in another state names none. -/
def State.ChannelLaw (s : State) : Prop :=
  (∀ ch : ChanId, match (s.chan ch).call with
    | some r => ∃ c ∈ s.calls, c.ref = r ∧ c.channel = some ch ∧ c.state.channelState = some (s.chan ch).state
    | none => (s.chan ch).state.busy = false) ∧
  (∀ c ∈ s.calls, match c.channel with
    | some ch => (s.chan ch).call = some c.ref ∧ c.state.channelState = some (s.chan ch).state
    | none => c.state.channelState = none)

/-- "each section's path is held by at most one call, and a call that holds it is live, on that section, and in state QUEUED,
OFFERED, CONNECTED, PARKED or RINGING" (R159). -/
def State.PathLaw (s : State) : Prop :=
  ∀ i : SectionId, match s.holder i with
    | some r => ∃ c ∈ s.calls, c.ref = r ∧ c.sec = i ∧ c.state ≠ .abandoned
    | none => True

/-- The join that a holding call's state gives its path (R160). -/
def Call.joinOf (c : Call) : Join :=
  match c.state, c.channel with
  | .connected, some ch => .channel ch
  | .parked, _ | .queued, _ => .tone
  | _, _ => .nothing

/-- The join of every path follows its holder (R160). -/
def State.JoinLaw (s : State) : Prop :=
  ∀ i : SectionId, match s.holder i with
    | some r => ∀ c ∈ s.calls, c.ref = r → s.join i = c.joinOf
    | none => s.join i = .nothing

/-- A call that its state's table says holds the path holds it (R132). -/
def State.HoldLaw (s : State) : Prop :=
  ∀ c ∈ s.calls, c.state = .offered ∨ c.state = .connected ∨ c.state = .parked ∨ c.state = .ringing →
    s.holder c.sec = some c.ref

/-- No two live calls have one reference (R149). -/
def State.RefLaw (s : State) : Prop :=
  s.calls.Pairwise (fun c d => c.ref ≠ d.ref) ∧ 1 ≤ s.nextRef ∧ s.nextRef ≤ Config.refMax ∧
  ∀ c ∈ s.calls, 1 ≤ c.ref ∧ c.ref ≤ Config.refMax

/-- A transaction has the origin its kind has: a poll the round's, a call notice a call's, a LAMP or TEXT the host's (R74). -/
def Txn.OriginLaw (t : Txn) : Prop :=
  match t.kind with
  | .poll => t.origin = .round
  | .ring | .ringStop | .connect | .clear | .parked => ∃ r, t.origin = .call r
  | .lamp _ | .text _ => t.origin = .host

/-- "at most one call notice per address, at most six host-originated transactions" (R74); polls are never queued. -/
def SectionCtl.QueueLaw (x : SectionCtl) : Prop :=
  x.queue.Pairwise (fun t u => ¬(t.kind.isNotice = true ∧ u.kind.isNotice = true ∧ t.addr = u.addr)) ∧
  x.hostCount ≤ Config.hostDepth ∧ (∀ t ∈ x.queue, t.kind ≠ .poll ∧ t.OriginLaw) ∧ ∀ t ∈ x.inFlight, t.OriginLaw

/-- The queue law of every section (R74). -/
def State.QueueLaw (s : State) : Prop := ∀ i : SectionId, (s.sec i).QueueLaw

/-- Every valid entry lies in its post number's row, and no two valid entries carry one post number (R2). -/
def State.RowLaw (s : State) : Prop :=
  (∀ r : Fin 64, ∀ c : Fin 2, match s.entry r c with
    | some e => rowOf e.post = r
    | none => True) ∧
  (∀ r : Fin 64, match s.entry r 0, s.entry r 1 with
    | some e, some f => e.post ≠ f.post
    | _, _ => True)

/-- "a roster slot (section s, address a) names post P exactly when the directory holds a valid entry for P with section s and
address a" (R3). -/
def State.RosterLaw (s : State) : Prop :=
  ∀ i : SectionId, ∀ a : Addr,
    (match s.slotAt i a with
      | some p => ∃ e, s.lookup p = some e ∧ e.2.sec = i ∧ e.2.addr = a
      | none => True) ∧
    (∀ r : Fin 64, ∀ c : Fin 2, match s.entry r c with
      | some e => e.sec = i ∧ e.addr = a → s.slotAt i a = some e.post
      | none => True)

/-- "a post's missed-poll count never exceeds 15, and the post is marked unreachable exactly when its count is at or above its
section's applied unreachable threshold" (R15). -/
def State.MissedLaw (s : State) : Prop :=
  ∀ r : Fin 64, ∀ c : Fin 2, match s.entry r c with
    | some e => e.missed ≤ Config.missedMax ∧ (e.reachable = false ↔ (s.sec e.sec).timingD.unreachable ≤ e.missed)
    | none => True

/-- Every applied and every pending unreachable threshold lies in 1 to 8 (R62). -/
def State.ThresholdLaw (s : State) : Prop :=
  ∀ i : SectionId, 1 ≤ (s.sec i).timingD.unreachable ∧ (s.sec i).timingD.unreachable ≤ 8 ∧
    ∀ t ∈ (s.sec i).pendingTiming, 1 ≤ t.unreachable ∧ t.unreachable ≤ 8

/-- "A post's offset must stay within its section's length", and its section is defined (R7, R13). -/
def State.OffsetLaw (s : State) : Prop :=
  ∀ r : Fin 64, ∀ c : Fin 2, match s.entry r c with
    | some e => ∃ d, (s.sec e.sec).defn = some d ∧ e.offset ≤ d.length
    | none => True

/-- The directory's laws together (R2, R3, R13, R15). -/
def State.DirectoryLaw (s : State) : Prop :=
  s.RowLaw ∧ s.RosterLaw ∧ s.ThresholdLaw ∧ s.MissedLaw ∧ s.OffsetLaw

/-- Every call in OFFERED has its offer timer and every call in RINGING its ring timer; no other call has one (R163, R172). -/
def State.CallTimerLaw (s : State) : Prop :=
  ∀ c ∈ s.calls, (c.offerTimer.isSome = true ↔ c.state = .offered) ∧ (c.ringTimer.isSome = true ↔ c.state = .ringing)

/-- The laws of calls, channels, paths and joins together, with the power law that they lean on (R82, R129, R132, R149, R155,
R159, R160). -/
def State.CallLaw (s : State) : Prop :=
  s.PowerLaw ∧ s.TableLaw ∧ s.PlaceLaw ∧ s.RefLaw ∧ s.ChannelLaw ∧ s.PathLaw ∧ s.HoldLaw ∧ s.JoinLaw ∧ s.SleepLaw ∧
  s.CallTimerLaw

/-! ## What the statements name -/

/-- A request row as the host link sees it: its kind, its frame's tag and length, its body, and the body length its kind
requires. -/
structure RequestForm where
  kind : ReqKind
  hdr : Hdr
  body : List Byte
  want : Nat
deriving DecidableEq, Repr

/-- The request that a command is, if it is one. -/
def requestOf : Instr → Option RequestForm
  | .identify h => some ⟨.identify, h, [], 0⟩
  | .reset h => some ⟨.reset, h, [], 0⟩
  | .start h => some ⟨.start, h, [], 0⟩
  | .setGlobals h g => some ⟨.setGlobals, h, g.body, 9⟩
  | .defineSection h n d => some ⟨.defineSection, h, byte1 n ++ d.body, 15⟩
  | .setSectionTiming h n t => some ⟨.setSectionTiming, h, byte1 n ++ t.body, 13⟩
  | .sectionServiceIn h n d f => some ⟨.sectionService, h, byte1 n ++ byte1 d ++ byte1 f, 3⟩
  | .sectionServiceOut h n d f => some ⟨.sectionService, h, byte1 n ++ byte1 d ++ byte1 f, 3⟩
  | .sectionReset h n => some ⟨.sectionReset, h, byte1 n, 1⟩
  | .forceIdle h n => some ⟨.forceIdle, h, byte1 n, 1⟩
  | .definePost h p => some ⟨.definePost, h, p.body, 8⟩
  | .removePost h p => some ⟨.removePost, h, byte2 p, 2⟩
  | .suspendPost h p => some ⟨.suspendPost, h, byte2 p, 2⟩
  | .resumePost h p => some ⟨.resumePost, h, byte2 p, 2⟩
  | .lamp h p pat => some ⟨.lamp, h, byte2 p ++ byte1 pat, 3⟩
  | .message h p n text => some ⟨.message, h, byte2 p ++ byte1 n ++ text, 3 + n⟩
  | .pollNow h n => some ⟨.pollNow, h, byte1 n, 1⟩
  | .measure h n => some ⟨.measure, h, byte1 n, 1⟩
  | .setChannelOut h c d => some ⟨.setChannel, h, byte1 c ++ byte1 d, 2⟩
  | .setChannelIn h c d => some ⟨.setChannel, h, byte1 c ++ byte1 d, 2⟩
  | .answer h r => some ⟨.answer, h, byte2 r, 2⟩
  | .pick h r c => some ⟨.pick, h, byte2 r ++ byte1 c, 3⟩
  | .park h r => some ⟨.park, h, byte2 r, 2⟩
  | .retrieve h r c => some ⟨.retrieve, h, byte2 r ++ byte1 c, 3⟩
  | .clear h r => some ⟨.clear, h, byte2 r, 2⟩
  | .callPost h p c => some ⟨.callPost, h, byte2 p ++ byte1 c, 3⟩
  | .dismiss h r => some ⟨.dismiss, h, byte2 r, 2⟩
  | .getEvent h => some ⟨.getEvent, h, [], 0⟩
  | .listCalls h => some ⟨.listCalls, h, [], 0⟩
  | .readCall h r => some ⟨.readCall, h, byte2 r, 2⟩
  | .readPost h p => some ⟨.readPost, h, byte2 p, 2⟩
  | .readSection h n => some ⟨.readSection, h, byte1 n, 1⟩
  | .readChannels h => some ⟨.readChannels, h, [], 0⟩
  | .readUnresolved h => some ⟨.readUnresolved, h, [], 0⟩
  | .readHistory h n => some ⟨.readHistory, h, byte1 n, 1⟩
  | .readMeasurement h n => some ⟨.readMeasurement, h, byte1 n, 1⟩
  | .frameReceived _ | .frameByteGap | .discardNoticeReply | .replySent | .powerSteady | .resetInputAsserted
  | .resetInputReleased | .secondsTick | .ageingStep _ | .pollCountdownExpiry _ | .enterSettling _ | .shutdownSent _
  | .settleTimerExpiry _ _ | .offHookDetected _ | .powerUpEnd _ | .announceEnd _ | .leadWindowEnd _ | .transactionBurstSent _
  | .replyWindowExpiry _ | .postBurstStart _ _ | .replyBurstEnd _ _ | .postBurstEnd _ _ | .answerBurstSent _
  | .carrierAppears _ | .carrierDrops _ | .stuckLimit _ | .spaceAppears _ | .breakTime _ | .spaceEnds _ | .settleQuiet _
  | .endMarkObserved _ | .sampleTaken _ _ | .offerTimeout _ | .ringTimeout _ | .readyLost _ | .readyRegained _
  | .byteReceived _ => none

/-- The HLI takes this request now, its body length is the one its kind requires, and the device mode allows it (R189). -/
def State.Accepts (s : State) (f : RequestForm) : Prop :=
  s.takes f.kind f.hdr f.body = true ∧ f.hdr.len = f.want ∧ f.kind.allowedIn s.mode = true

/-- The HLI takes a request: it is the head of the buffer, which holds it until its reply's last byte is sent (R188, R189; that it
joins an empty buffer at this moment is log 4). -/
def State.taking (s : State) (f : RequestForm) : State := s.take f.kind f.hdr f.body

/-- The reply of a request framed: its kind plus 0x80, its tag, the status and the fields (R189). -/
def State.replied (s : State) (f : RequestForm) (st : Status) (b : ReplyBody) : State :=
  { s with reply := some ⟨f.kind.code + 0x80, f.hdr.tag, st, b⟩ }

/-- A request is taken and answered, and nothing else happens. -/
def State.answers (s : State) (f : RequestForm) (st : Status) (b : ReplyBody) : State := (s.taking f).replied f st b

/-- The channel byte `n` gets the channel `ch`: the named one, which is FREE, or with 0xFF the lowest-numbered FREE one (R167,
R169, R171). -/
def State.ChannelFor (s : State) (n : Nat) (ch : ChanId) : Prop :=
  (s.chan ch).state = .free ∧ (n = ch.val ∨ (n = Config.noChannel ∧ ∀ d : ChanId, d < ch → (s.chan d).state ≠ .free))

/-- A section whose service begins (R94, R97, R99): WAKING in POWER-UP with reason HOST, its schedule anchored, its first due time
set, and a round marked due where the poll offset is 0. -/
def SectionCtl.serviceBegun (x : SectionCtl) (seconds now : Nat) : SectionCtl :=
  { x with power := .waking .powerUp, line := .down, exch := .quiet, settleTimer := none,
           wakeTimer := some ⟨now, Config.powerUpMs⟩, reasons := ⟨false, true, false, false, false⟩, idleSince := none,
           stuckTimer := none, breakTimer := none, quietTimer := none, anchor := some seconds,
           due := some (seconds + (if x.timingD.offset = 0 then x.timingD.period else x.timingD.offset)),
           roundDue := decide (x.timingD.offset = 0) }

/-- A section that a wake cause with these reasons takes to WAKING, in POWER-UP (R89, R90). -/
def SectionCtl.woken (x : SectionCtl) (now : Nat) (r : ReasonSet) : SectionCtl :=
  { x with power := .waking .powerUp, line := .down, exch := .quiet, settleTimer := none,
           wakeTimer := some ⟨now, Config.powerUpMs⟩, reasons := r, idleSince := none, stuckTimer := none, breakTimer := none,
           quietTimer := none }

/-- The events of `t` are those of `s` with these posted after them, and no other (R179, R180). -/
def State.Tells (s t : State) (bs : List EventBody) : Prop := t.events = (State.postAll bs s).events

/-- The events of `t` are those of `s` with these posted after them, and then perhaps more (R179, R180). -/
def State.TellsFirst (s t : State) (bs : List EventBody) : Prop := ∃ more, s.Tells t (bs ++ more)

/-- The receiver, the request buffer, the RESET input and the power are unchanged. -/
def State.SameLink (s t : State) : Prop :=
  t.rx = s.rx ∧ t.buffer = s.buffer ∧ t.resetHeld = s.resetHeld ∧ t.poweringUp = s.poweringUp

/-- The reply being sent and the mark of the taken head are unchanged. -/
def State.SameReply (s t : State) : Prop := t.reply = s.reply ∧ t.headTaken = s.headTaken

/-- The device mode, the global settings and both clocks are unchanged. -/
def State.SameSettings (s t : State) : Prop :=
  t.mode = s.mode ∧ t.globals = s.globals ∧ t.seconds = s.seconds ∧ t.nowMs = s.nowMs

/-- The post directory is unchanged: entries, rosters and the unresolved-post record. -/
def State.SameDirectory (s t : State) : Prop := t.dir = s.dir ∧ t.rosters = s.rosters ∧ t.unresolved = s.unresolved

/-- The call manager and the speech switch are unchanged: calls, history, counter, episode flag, channels, paths and joins. -/
def State.SameCalls (s t : State) : Prop :=
  t.calls = s.calls ∧ t.history = s.history ∧ t.nextRef = s.nextRef ∧ t.fullEpisode = s.fullEpisode ∧
  t.channels = s.channels ∧ t.holders = s.holders ∧ t.joins = s.joins

/-- Every other section's controller and line test record is unchanged. -/
def State.SameOtherSections (i : SectionId) (s t : State) : Prop := ∀ j, j ≠ i → t.sec j = s.sec j ∧ t.ltuOf j = s.ltuOf j

/-- Everything outside the section controllers, the line test unit and the event queue is unchanged: the frame of what a line
does without a call, a report or a host request. -/
def State.OnlyLine (i : SectionId) (s t : State) : Prop :=
  s.SameLink t ∧ s.SameReply t ∧ s.SameSettings t ∧ s.SameDirectory t ∧ s.SameCalls t ∧ s.SameOtherSections i t ∧
  t.dispatchDue = s.dispatchDue ∧ t.pending = s.pending

/-- Whatever the device reset clears stands at its starting value; what it keeps is the RESET input and the power, and the levels on
the other inputs of the part; READY is low while it is silent (R199, R21, R60, R82, R98, R115, R154, R155, R159, R160, R178, R185). -/
def State.Starting (s t : State) : Prop :=
  (t.mode = .setup ∧ t.rx = .hunting ∧ t.buffer = [] ∧ t.reply = none ∧ t.globals = Globals.default) ∧
  (t.resetHeld = s.resetHeld ∧ t.poweringUp = s.poweringUp ∧ t.ready = !s.silent) ∧
  (t.events = [] ∧ t.attn = false) ∧
  t.seconds = 0 ∧
  ((∀ r c, t.entry r c = none) ∧ (∀ i a, t.slotAt i a = none) ∧ t.unresolved = none) ∧
  (∀ i, t.sec i = { SectionCtl.reset with carrier := (s.sec i).carrier, space := (s.sec i).space }) ∧
  (∀ i, t.ltuOf i = ⟨none, none⟩) ∧
  (t.calls = [] ∧ t.history = [] ∧ t.nextRef = 1 ∧ t.fullEpisode = false) ∧
  (∀ c, t.chan c = ⟨if (s.chan c).ready then .free else .down, (s.chan c).ready, none⟩) ∧
  (∀ i, t.holder i = none ∧ t.join i = .nothing) ∧
  t.pending = s.pending

/-! ## Notices, failures, alerts and round closes, as the statements say them -/

/-- How a call notice `q` that is given to a section in service reaches it: `x` is its controller before, `y` after (R75, R73, R87,
R89). It wakes a HIBERNATE section and adds its reason in WAKING; it joins the queue of an ACTIVE section; an IDLE line that is
free of carrier with nothing before it, that of a SETTLING section too, sends it at once. -/
def SectionCtl.GivenNotice (x y : SectionCtl) (q : Txn) (silent : Bool) (now : Nat) : Prop :=
  (x.power = .hibernate → y = { x.woken now ⟨false, false, true, false, false⟩ with queue := joinNotice q x.queue }) ∧
  (∀ ph, x.power = .waking ph → x.line = .down →
    y = { x with reasons := { x.reasons with call := true }, queue := joinNotice q x.queue }) ∧
  (x.power = .active → x.line ≠ .idle ∨ x.pairFree = false → y = { x with queue := joinNotice q x.queue }) ∧
  (∀ part, x.power = .settling part → y.power = .active ∧ y.settleTimer = none) ∧
  (((x.power = .active ∧ x.line = .idle) ∨ ∃ part, x.power = .settling part) → x.pairFree = true → x.slot = none →
    x.queue = [] → silent = false →
    y.power = .active ∧ y.line = .owned ∧ y.inFlight = some q ∧ y.queue = [] ∧
    y.exch = .lead ⟨x.syncWord, .lead, [q.stepRecord]⟩ ⟨now, 20⟩)

/-- The failure of the transaction `q` in flight on section `i` (R47, R79, R68): TRANSACTION_FAILED is told first, and `q` has left
the line, which has entered IDLE: it stays there under a carrier, and with nothing to do; else it sends the queue's head. -/
def State.FlightFails (s t : State) (i : SectionId) (q : Txn) (r : FailReason) (delivered : Option Nat) : Prop :=
  s.TellsFirst t [.transactionFailed i q.addr ((s.slotAt i q.addr).getD 0) q.kind.name r q.origin.ref delivered] ∧
  (t.sec i).idleSince = some t.nowMs ∧
  ((s.sec i).pairFree = false → (t.sec i).line = .idle ∧ (t.sec i).exch = .quiet ∧ (t.sec i).inFlight = none) ∧
  ((s.sec i).slot = none → (q.kind = .ring → q.origin.ref = none) →
    ((s.sec i).queue = [] → (s.sec i).round = none →
      (t.sec i).line = .idle ∧ (t.sec i).exch = .quiet ∧ (t.sec i).inFlight = none ∧ (t.sec i).queue = []) ∧
    (∀ n ns, (s.sec i).queue = n :: ns → (s.sec i).pairFree = true → s.silent = false →
      (t.sec i).line = .owned ∧ (t.sec i).inFlight = some n ∧ (t.sec i).queue = ns ∧
      (t.sec i).exch = .lead ⟨(s.sec i).syncWord, .lead, [n.stepRecord]⟩ ⟨t.nowMs, 20⟩))

/-- What a status report tells of its post (R14, R108): POST_REACHABLE where it was unreachable, then POST_STATUS where hook, door,
impact or self-test has changed or the battery has crossed the threshold. -/
def PostEntry.told (e : PostEntry) (st : StatusFields) (threshold : Nat) : List EventBody :=
  let old : StatusFields := e.lastStatus.getD ⟨false, false, false, false, 0, .off⟩
  let changes : ChangeSet := ⟨old.hookOff != st.hookOff, old.doorOpen != st.doorOpen, old.impact != st.impact,
    old.selfTestFail != st.selfTestFail⟩
  (if e.reachable then [] else [.postReachable e.post e.sec e.addr 0]) ++
  (if changes ≠ ⟨false, false, false, false⟩ ∨ e.lowBattery ≠ decide (st.battery < threshold) then
    [.postStatus e.post e.sec e.addr changes
      (if e.lowBattery = decide (st.battery < threshold) then none
        else if st.battery < threshold then some .downward else some .upward) st]
   else [])

/-- The posts of a section that `keep` keeps, by offset and then by address (R32, R113). -/
def State.PostsInOrder (s : State) (i : SectionId) (keep : PostEntry → Prop) (l : List PostEntry) : Prop :=
  (∀ e, e ∈ l ↔ e.sec = i ∧ keep e ∧ ∃ r c, s.entry r c = some e) ∧
  l.Pairwise (fun a b => a.offset < b.offset ∨ (a.offset = b.offset ∧ a.addr ≤ b.addr))

/-- The candidate bracket of R113's table, with the offsets of its two ends (R33), from the in-service posts in order: none where no
post is unreachable or an unreachable post stands before a reachable one. -/
def OpenCandidate (l : List PostEntry) : Option (OpenBracket × Nat × Nat) → Prop
  | none => (∀ e ∈ l, e.reachable = true) ∨
      ∃ p a q b r, l = p ++ a :: (q ++ b :: r) ∧ a.reachable = false ∧ b.reachable = true
  | some (c, oa, ob) =>
      ∃ ups u downs, l = ups ++ u :: downs ∧ (∀ e ∈ ups, e.reachable = true) ∧ (∀ e ∈ u :: downs, e.reachable = false) ∧
        c.upper = u.post ∧ ob = u.offset ∧
        (ups = [] → c.lower = .cabinet ∧ oa = 0) ∧
        ∀ e, ups.getLast? = some e → c.lower = .post e.post ∧ oa = e.offset

/-- What the comparison of the stored bracket with the candidate tells (R114, R33): OPEN_SUSPECTED with the chainage of the rounded
midpoint where another bracket is stored, OPEN_CLEARED where one is taken away. -/
def bracketTold (i : SectionId) (d : SectionDef) (stored : Option OpenBracket) (c : Option (OpenBracket × Nat × Nat)) :
    List EventBody :=
  match stored, c with
  | none, none => []
  | some b, none => [.openCleared i b]
  | _, some (b, oa, ob) =>
    if stored = some b then []
    else [.openSuspected i b (d.chainage (roundDiv (oa + ob) 2)).1 (d.chainage (roundDiv (oa + ob) 2)).2]

/-- The round of section `i` closes with these counts (R105): it is closed, `before` is told, then ROUND_DONE with the overrun flag,
which is cleared, and then what the open-fault bracket's change tells; the stored bracket is the candidate of the posts as they
stand (R113, R114). -/
def State.RoundCloses (s t : State) (i : SectionId) (d : SectionDef) (before : List EventBody) (answered missed skipped : Nat) :
    Prop :=
  (t.sec i).round = none ∧ (t.sec i).overrun = false ∧
  ∃ (l : List PostEntry) (c : Option (OpenBracket × Nat × Nat)),
    t.PostsInOrder i (fun e => e.service = .inService) l ∧ OpenCandidate l c ∧ (t.sec i).bracket = c.map Prod.fst ∧
    s.Tells t (before ++ .roundDone i (s.sec i).overrun answered missed skipped :: bracketTold i d (s.sec i).bracket c)

/-- The post number, class and location of a call are those of its slot (R5, R25, R26, R131): the entry's, with the chainage of its
offset, or of an unknown post at the middle of its section. -/
def Call.PlacedBy (c : Call) (s : State) (i : SectionId) (a : Addr) : Prop :=
  ∀ d, (s.sec i).defn = some d →
    (∀ e, s.entryAt i a = some e → c.post = e.post ∧ c.cls = e.cls ∧
      c.location = ⟨(d.chainage e.offset).1, e.cway, if e.service = .suspended then .suspended else .directory,
        (d.chainage e.offset).2⟩) ∧
    (s.entryAt i a = none → c.post = 0 ∧ c.cls = .service ∧
      c.location = ⟨(d.chainage (roundDiv d.length 2)).1, .both, .sectionOnly, (d.chainage (roundDiv d.length 2)).2⟩)

/-- The call `c` that an alert from section `i` and address `a` has made (R130, R135); the dispatcher may have offered it. -/
def State.MakesCall (s t : State) (o : CallOrigin) (i : SectionId) (a : Addr) (c : Call) : Prop :=
  t.findCall c.ref = some c ∧ c.direction = .inbound ∧ c.origin = o ∧ c.sec = i ∧ c.addr = a ∧
  (c.state = .queued ∨ c.state = .offered) ∧ c.arrival = s.seconds ∧ c.boost = 0 ∧ c.connectedTotal = 0 ∧ c.PlacedBy s i a

/-- The ABANDONED call that a full table gives up: the earliest arrival, then the lower reference (R139). -/
def State.OldestAbandoned (s : State) (v : Call) : Prop :=
  v ∈ s.calls ∧ v.state = .abandoned ∧
  ∀ d ∈ s.calls, d.state = .abandoned → d.ref ≠ v.ref → v.arrival < d.arrival ∨ (v.arrival = d.arrival ∧ v.ref < d.ref)

/-- The call `v` has been evicted (R139, R145, R150): it has left the table, its history record comes first, the full episode has
ended, and its CLEAR notice has been given to its section, where that is not section `i`. -/
def State.Evicts (s t : State) (i : SectionId) (v : Call) : Prop :=
  (∀ d, t.findCall v.ref = some d → ¬(d.sec = v.sec ∧ d.addr = v.addr)) ∧ t.calls.length = s.calls.length ∧
  t.history = (⟨v.ref, v.post, v.sec, v.addr, v.direction, v.arrival, s.seconds, .dismissedAuto, v.connectedSeconds s.seconds⟩ ::
    s.history).take 16 ∧
  t.fullEpisode = false ∧
  (v.sec ≠ i → (s.sec v.sec).GivenNotice (t.sec v.sec) ⟨.clear, v.addr, .call v.ref, 0, 0, 0, false⟩ s.silent s.nowMs)

/-- CALL_ENDED of an evicted call (R139, R146). -/
def State.evictTold (s : State) (v : Call) : EventBody :=
  .callEnded v.ref v.post v.sec v.addr v.direction .dismissedAuto (v.connectedSeconds s.seconds)

/-- CALL_NEW of a call (R135, R172). -/
def Call.newTold (c : Call) : EventBody :=
  .callNew c.ref c.direction c.origin c.post c.sec c.addr c.cls c.location

/-- What an alert from section `i` and address `a` (1 to 15) does, by what stands there and in the table, told after `told`; `ref` is
the reference it is registered under, none where it is deferred (R134 to R140). -/
def State.AlertOutcome (s t : State) (o : CallOrigin) (i : SectionId) (a : Addr) (told : List EventBody) (ref : Option Nat) :
    Prop :=
  (∀ c, s.callAt i a = some c → ref = some c.ref ∧
    (∀ ch, c.state = .ringing → c.channel = some ch →
      t.findCall c.ref = some { c with state := .connected, connectedSince := some s.seconds, offerTimer := none,
                                       ringTimer := none } ∧
      t.chan ch = ⟨.connected, (s.chan ch).ready, some c.ref⟩ ∧ t.join i = .channel ch ∧
      s.TellsFirst t (told ++ [.callConnected c.ref ch])) ∧
    (c.state = .abandoned →
      (∃ d, t.findCall c.ref = some d ∧ (d.state = .queued ∨ d.state = .offered) ∧ d.direction = c.direction ∧
        d.post = c.post ∧ d.arrival = c.arrival ∧ d.boost = c.boost ∧ d.location = c.location ∧
        d.connectedTotal = c.connectedTotal) ∧
      s.TellsFirst t (told ++ [.callRequeued c.ref .revived c.boost none])) ∧
    ((c.state = .queued ∨ c.state = .offered ∨ c.state = .connected ∨ c.state = .parked) →
      s.SameCalls t ∧ s.TellsFirst t told)) ∧
  (s.callAt i a = none →
    (s.calls.length < 32 →
      ∃ c, ref = some c.ref ∧ (∀ d ∈ s.calls, d.ref ≠ c.ref) ∧ s.MakesCall t o i a c ∧ t.history = s.history ∧
        s.TellsFirst t (told ++ [c.newTold])) ∧
    (32 ≤ s.calls.length →
      (∀ v, s.OldestAbandoned v → s.CallLaw →
        ∃ c, ref = some c.ref ∧ (∀ d ∈ s.calls, d.ref ≠ v.ref → d.ref ≠ c.ref) ∧ s.MakesCall t o i a c ∧ s.Evicts t i v ∧
          s.TellsFirst t (told ++ [s.evictTold v, c.newTold])) ∧
      ((∀ d ∈ s.calls, d.state ≠ .abandoned) →
        ref = none ∧ t.fullEpisode = true ∧ t.calls = s.calls ∧ t.nextRef = s.nextRef ∧ t.history = s.history ∧
        s.TellsFirst t (told ++ (if s.fullEpisode then []
          else [.callTableFull i a (match s.entryAt i a with | some e => e.post | none => 0) o])))))

/-- What a record of kind `k` from address `a` tells where its slot is empty and no unresolved-post record is held (R18). -/
def State.unresolvedTold (s : State) (i : SectionId) (a : Addr) (k : PostKind) : List EventBody :=
  if (s.slotAt i a).isSome ∨ s.unresolved.isSome then [] else [.unresolvedPost i a k]

/-- The unresolved-post record after a burst whose first record from an empty slot is this one: filled, or its more count raised by
one up to 255; unchanged where the slot is not empty (R18). -/
def State.unresolvedAfter (s : State) (i : SectionId) (a : Addr) (k : PostKind) : Option Unresolved :=
  if (s.slotAt i a).isSome then s.unresolved
  else match s.unresolved with
    | some u => some { u with more := min 255 (u.more + 1) }
    | none => some ⟨i, a, k, s.seconds, 0⟩

/-- The post is answered with these records (R54): on a pair free of carrier the answer burst starts, else it waits for the post's
carrier to drop; the latched statuses of the burst's records, all good, last until it ends (R40, log 34). The line stays FOREIGN
and a yielded transaction stays held (R50). -/
def State.AnswersPost (s t : State) (i : SectionId) (outs : List OutRec) : Prop :=
  (t.sec i).line = .foreign ∧ (t.sec i).inFlight = (s.sec i).inFlight ∧ (t.sec i).idleSince = some s.nowMs ∧
  ((s.sec i).pairFree = true →
    (t.sec i).exch = .answering ⟨(s.sec i).syncWord, .absent, outs⟩ (List.replicate outs.length .good)) ∧
  ((s.sec i).pairFree = false → (t.sec i).exch = .answerDue outs (List.replicate outs.length .good))

/-- CALL_ENDED of a call (R145). -/
def Call.endTold (c : Call) (cause : EndCause) (now : Nat) : EventBody :=
  .callEnded c.ref c.post c.sec c.addr c.direction cause (c.connectedSeconds now)

/-- TRANSACTION_FAILED of a transaction of section `i` that is aborted (R79, R80). -/
def State.abortTold (s : State) (i : SectionId) (q : Txn) : EventBody :=
  .transactionFailed i q.addr ((s.slotAt i q.addr).getD 0) q.kind.name .aborted q.origin.ref none

/-- MEASURE_ABORTED of what section `i` has running or pending (R125, R126). -/
def State.measureAbortTold (s : State) (i : SectionId) : List EventBody :=
  match (s.ltuOf i).running, (s.sec i).slot with
  | some r, _ => [.measureAborted i r.trigger r.samples.length true]
  | none, some g => [.measureAborted i g 0 false]
  | none, none => []

/-- What a pending timing record tells as it is applied: a flip for each post of the section, `l`, that its threshold makes
reachable or unreachable, in address order (R64, R112). -/
def flipsTold (v : Option Timing) (l : List PostEntry) : List EventBody :=
  match v with
  | none => []
  | some v => l.filterMap (fun e =>
      if e.reachable = true ∧ v.unreachable ≤ e.missed then some (.postUnreachable e.post e.sec e.addr e.missed)
      else if e.reachable = false ∧ e.missed < v.unreachable then some (.postReachable e.post e.sec e.addr e.missed)
      else none)

/-- The posts of a section in address order (R64). -/
def State.PostsByAddress (s : State) (i : SectionId) (l : List PostEntry) : Prop :=
  (∀ e, e ∈ l ↔ e.sec = i ∧ ∃ r c, s.entry r c = some e) ∧ l.Pairwise (fun a b => a.addr ≤ b.addr)

/-- No RING of section `i` names the call of another section (R74, R130). -/
def State.RingsAtHome (s : State) (i : SectionId) : Prop :=
  ∀ q ∈ (s.sec i).inFlight.toList ++ (s.sec i).queue, q.kind = .ring → ∀ r c, q.origin = .call r → s.findCall r = some c → c.sec = i

/-- Every live call of section `i` has ended, `l` being these calls in order of arrival and reference (R145, R150): a history record
of each, the latest first, and the full episode over; with auto-offer off their channels are free. -/
def State.EndsCalls (s t : State) (i : SectionId) (cause : EndCause) (l : List Call) : Prop :=
  l.Perm (s.callsOn i) ∧ l.Pairwise (fun a b => a.arrival < b.arrival ∨ (a.arrival = b.arrival ∧ a.ref ≤ b.ref)) ∧
  (l = [] → t.history = s.history ∧ t.fullEpisode = s.fullEpisode) ∧
  (l ≠ [] → t.fullEpisode = false ∧
    t.history = ((l.map (fun c => (⟨c.ref, c.post, c.sec, c.addr, c.direction, c.arrival, s.seconds, cause,
      c.connectedSeconds s.seconds⟩ : HistRec))).reverse ++ s.history).take 16) ∧
  t.nextRef = s.nextRef ∧
  (s.globals.autoOffer = false → ∀ c ∈ l, ∀ ch, c.channel = some ch →
    t.chan ch = ⟨if (s.chan ch).ready then .free else .down, (s.chan ch).ready, none⟩)

/-- Nothing of the host link and no setting changes, and the rosters stay as they are. -/
def State.SameOutside (s t : State) : Prop := s.SameLink t ∧ s.SameReply t ∧ s.SameSettings t ∧ t.rosters = s.rosters

end Sys2Proof.Machine
end

