-- ==== Sys2Proof/Certificates/Slice0/Obligations.lean ====
section
/-! DEFINITION. The statements for the provers. Each `def` states one thing; its docstring says which rules of spec/ it rests on
and, where it rests on a choice of the model's, names the log entry. -/

open Sys2Proof Sys2Proof.Machine

/-! ## The step -/

/-- Taking one step with a command at the front of the queue is taking that command's effect on the state with the queue's
rest (spec/95: "each row is one whole, indivisible step"). -/
def Obligations.StepTakesTheFrontCommand : Prop :=
  ∀ (c : Instr) (q : List Instr) (s : State), step { s with pending := c :: q } = exec c { s with pending := q }

/-- Every command answers a next state in every state, and leaves the commands that wait as they are. -/
def Obligations.EveryCommandIsTakenAndKeepsTheQueue : Prop :=
  ∀ (c : Instr) (s : State), ∃ t : State, exec c s = .next t ∧ t.pending = s.pending

/-! ## The host link: requests and replies -/

/-- A request the HLI cannot take now is passed over (log 4); one it takes is checked for its body length, FRAME_BAD, and then
for the device mode, WRONG_MODE, and so far nothing but the reply changes (R189, R191). -/
def Obligations.RequestsAreCheckedForLengthThenMode : Prop :=
  ∀ (c : Instr) (f : RequestForm) (s : State), requestOf c = some f →
    (s.takes f.kind f.hdr f.body = false → exec c s = .next s) ∧
    (s.takes f.kind f.hdr f.body = true →
      (f.hdr.len ≠ f.want → exec c s = .next (s.answers f .frameBad .nothing)) ∧
      (f.hdr.len = f.want → f.kind.allowedIn s.mode = false → exec c s = .next (s.answers f .wrongMode .nothing)))

/-- Every request the HLI takes is answered with its kind plus 0x80 and its tag (R189), and one answered with another status
than OK or OK_CLAMPED has changed nothing (R189, R190). -/
def Obligations.RefusedRequestChangesNothing : Prop :=
  ∀ (c : Instr) (f : RequestForm) (s : State), requestOf c = some f → s.takes f.kind f.hdr f.body = true →
    ∃ (t : State) (st : Status) (b : ReplyBody), exec c s = .next (t.replied f st b) ∧
      (st ≠ .ok → st ≠ .okClamped → t = s.taking f)

/-- IDENTIFY, LIST CALLS, READ CHANNELS and READ HISTORY are answered OK from the part as it stands, and change nothing but
the reply; a history index above 15 is refused BAD_FIELD (R193, R152, R131, R176, R151). An entry of LIST CALLS packs into 6
bytes, and a body with all of up to 32 calls into 194 bytes at most (R189); which half of a shared byte a field has, and the
code for no channel, is the model's choice (log 49). That the location records, which R131 says LIST CALLS carries, stand
beside the entries is log 41. -/
def Obligations.TableReadsAnswerAndChangeNothing : Prop :=
  ∀ (h : Hdr) (s : State),
    (s.Accepts ⟨.identify, h, [], 0⟩ →
      ∃ l : List SectionId, (∀ i, i ∈ l ↔ (s.sec i).defn.isSome = true) ∧ l.Pairwise (· < ·) ∧
        exec (.identify h) s =
          .next (s.answers ⟨.identify, h, [], 0⟩ .ok (.identity 0x0816 1 s.mode s.seconds l s.events.length))) ∧
    (s.Accepts ⟨.listCalls, h, [], 0⟩ →
      ∃ l : List Call, l.Perm s.calls ∧
        l.Pairwise (fun a b => a.arrival < b.arrival ∨ (a.arrival = b.arrival ∧ a.ref ≤ b.ref)) ∧
        exec (.listCalls h) s = .next (s.answers ⟨.listCalls, h, [], 0⟩ .ok
          (.callList s.calls.length (l.map (fun c => ⟨c.ref, c.state, c.sec, c.addr, c.post, c.channel⟩))
            (l.map Call.location)))) ∧
    (∀ b : CallBrief, b.bytes =
      [BitVec.ofNat 8 (b.ref / 256), BitVec.ofNat 8 (b.ref % 256), BitVec.ofNat 8 (b.post / 256), BitVec.ofNat 8 (b.post % 256),
       BitVec.ofNat 8 (16 * b.sec.val + b.addr.val),
       BitVec.ofNat 8 (16 * (match b.state with
         | .queued => 0 | .offered => 1 | .connected => 2 | .parked => 3 | .ringing => 4 | .abandoned => 5) +
         (match b.channel with | some c => c.val | none => 15))]) ∧
    (∀ (n : Nat) (l : List CallBrief), n = l.length → n ≤ 32 →
      (callListBody n l).length = 2 + 6 * n ∧ (callListBody n l).length ≤ 194 ∧
      (callListBody n l).take 2 = [0x00#8, BitVec.ofNat 8 n] ∧ (callListBody n l).drop 2 = l.flatMap CallBrief.bytes) ∧
    (s.Accepts ⟨.readChannels, h, [], 0⟩ →
      ∃ (t : List Channel) (ho : List (Option Nat)) (jo : List Join),
        (t.length = 4 ∧ ∀ c : ChanId, t[c.val]? = some (s.chan c)) ∧
        (ho.length = 8 ∧ ∀ i : SectionId, ho[i.val]? = some (s.holder i)) ∧
        (jo.length = 8 ∧ ∀ i : SectionId, jo[i.val]? = some (s.join i)) ∧
        exec (.readChannels h) s =
          .next (s.answers ⟨.readChannels, h, [], 0⟩ .ok (.channels t ho jo s.globals.autoOffer))) ∧
    (∀ n, s.Accepts ⟨.readHistory, h, byte1 n, 1⟩ →
      (n < 16 → exec (.readHistory h n) s =
        .next (s.answers ⟨.readHistory, h, byte1 n, 1⟩ .ok (.history s.history[n]? s.history.length))) ∧
      (16 ≤ n → exec (.readHistory h n) s =
        .next (s.answers ⟨.readHistory, h, byte1 n, 1⟩ .badField .nothing)))

/-- READ CALL, READ POST, READ SECTION and READ MEASUREMENT answer what the named record holds, refuse a name out of range
BAD_FIELD and a record that is not there by its own status, and change nothing but the reply (R153, R20, R197, R127, R165). -/
def Obligations.RecordReadsAnswerAndChangeNothing : Prop :=
  ∀ (h : Hdr) (n : Nat) (s : State),
    (s.Accepts ⟨.readCall, h, byte2 n, 2⟩ →
      (n = 0 → exec (.readCall h n) s = .next (s.answers ⟨.readCall, h, byte2 n, 2⟩ .badField .nothing)) ∧
      (n ≠ 0 → s.findCall n = none →
        exec (.readCall h n) s = .next (s.answers ⟨.readCall, h, byte2 n, 2⟩ .noSuchCall .nothing)) ∧
      (n ≠ 0 → ∀ c, s.findCall n = some c →
        exec (.readCall h n) s = .next (s.answers ⟨.readCall, h, byte2 n, 2⟩ .ok (.call c
          (if c.state = .queued then some (s.score c) else none)
          (if c.state = .queued then
            some (decide ((s.holder c.sec = none ∨ s.holder c.sec = some c.ref) ∧ (s.sec c.sec).power = .active)) else none)
          (if c.state = .connected then some (c.connectedSeconds s.seconds) else none))))) ∧
    (s.Accepts ⟨.readPost, h, byte2 n, 2⟩ →
      (n = 0 ∨ 59999 < n → exec (.readPost h n) s = .next (s.answers ⟨.readPost, h, byte2 n, 2⟩ .badField .nothing)) ∧
      (1 ≤ n → n ≤ 59999 → s.lookup n = none →
        exec (.readPost h n) s = .next (s.answers ⟨.readPost, h, byte2 n, 2⟩ .noSuchPost .nothing)) ∧
      (1 ≤ n → n ≤ 59999 → ∀ c e, s.lookup n = some (c, e) →
        exec (.readPost h n) s = .next (s.answers ⟨.readPost, h, byte2 n, 2⟩ .ok
          (.post e (rowOf n) c ((s.callAt e.sec e.addr).map Call.ref))))) ∧
    (s.Accepts ⟨.readSection, h, byte1 n, 1⟩ →
      (8 ≤ n → exec (.readSection h n) s = .next (s.answers ⟨.readSection, h, byte1 n, 1⟩ .badField .nothing)) ∧
      (∀ i : SectionId, n = i.val →
        ((s.sec i).defn = none →
          exec (.readSection h n) s = .next (s.answers ⟨.readSection, h, byte1 n, 1⟩ .noSuchSection .nothing)) ∧
        (∀ d, (s.sec i).defn = some d →
          exec (.readSection h n) s = .next (s.answers ⟨.readSection, h, byte1 n, 1⟩ .ok (.sectionView
            { defn := d, timing := (s.sec i).timing.getD Timing.default, pendingTiming := (s.sec i).pendingTiming,
              power := (s.sec i).power, reasons := (s.sec i).reasons, roundDue := (s.sec i).roundDue,
              line := (s.sec i).line, episode := (s.sec i).episode,
              inFlight := (s.sec i).inFlight.map (fun q => ⟨q.kind.name, q.addr, q.origin, q.attempts, q.losses, q.progress⟩),
              hostCount := (s.sec i).hostCount, queueLength := (s.sec i).queue.length,
              queue := (s.sec i).queue.map (fun q => ⟨q.kind.name, q.addr, q.origin, q.losses⟩), slot := (s.sec i).slot,
              measuring := (s.ltuOf i).running.isSome, anchor := (s.sec i).anchor, due := (s.sec i).due,
              round := (s.sec i).round.map (fun r => ⟨r.cursor,
                match (s.sec i).inFlight with
                | some q => if q.kind = .poll then some q.addr else r.kept.map KeptPoll.addr
                | none => r.kept.map KeptPoll.addr,
                r.answered, r.missed, r.skipped⟩),
              overrun := (s.sec i).overrun, bracket := (s.sec i).bracket }))))) ∧
    (s.Accepts ⟨.readMeasurement, h, byte1 n, 1⟩ →
      (8 ≤ n →
        exec (.readMeasurement h n) s = .next (s.answers ⟨.readMeasurement, h, byte1 n, 1⟩ .badField .nothing)) ∧
      (∀ i : SectionId, n = i.val →
        ((s.sec i).defn = none →
          exec (.readMeasurement h n) s =
            .next (s.answers ⟨.readMeasurement, h, byte1 n, 1⟩ .noSuchSection .nothing)) ∧
        ((s.sec i).defn ≠ none →
          ∃ p : MeasureProgress,
            (p = .idle ↔ (s.ltuOf i).running = none ∧ (s.sec i).slot = none) ∧
            (∀ r, (s.ltuOf i).running = some r → p = .running r.trigger r.samples) ∧
            (∀ g, (s.ltuOf i).running = none → (s.sec i).slot = some g →
              p = .pending g (decide (g = .host ∧ s.holder i ≠ none))) ∧
            exec (.readMeasurement h n) s =
              .next (s.answers ⟨.readMeasurement, h, byte1 n, 1⟩ .ok (.measurement (s.ltuOf i).last p)))))

/-- R182: GET EVENT removes the record at the head and returns it with the number left, 0 to 31 in a queue of at most 32, and
the seconds count; the last one removed lets ATTN fall; an empty queue is answered with no event, 0 and the seconds count, and
nothing changes. Both device modes allow it. -/
def Obligations.GetEventReturnsTheOldestRecord : Prop :=
  ∀ (h : Hdr) (s : State), s.takes .getEvent h [] = true → h.len = 0 →
    (∀ e es, s.events = e :: es →
      exec (.getEvent h) s = .next ({ s.taking ⟨.getEvent, h, [], 0⟩ with events := es }.replied ⟨.getEvent, h, [], 0⟩ .ok
        (.event (some e) es.length s.seconds)) ∧
      (s.events.length ≤ 32 → es.length ≤ 31) ∧
      ∀ t, exec (.getEvent h) s = .next t → (t.attn = false ↔ es = [])) ∧
    (s.events = [] →
      exec (.getEvent h) s = .next (s.answers ⟨.getEvent, h, [], 0⟩ .ok (.event none 0 s.seconds)))

/-- R183: a GET EVENT and a posting that meet, by what the queue holds and which is taken first. While the RESET input is not
held, a posting stores its record behind the tail or, in a full queue, raises the tail's lost-after count (R180). -/
def Obligations.GetEventAndPostingMeet : Prop :=
  ∀ (h : Hdr) (b : EventBody) (s : State), s.takes .getEvent h [] = true → h.len = 0 →
    (s.events = [] →
      (∃ t : State, exec (.getEvent h) s = .next t ∧ t.reply = some ⟨0xD0, h.tag, .ok, .event none 0 s.seconds⟩ ∧ t.attn = false ∧
        (t.post b).events = [⟨b, s.seconds, 0⟩] ∧ (t.post b).attn = true) ∧
      ((s.post b).attn = true ∧
        ∃ t : State, exec (.getEvent h) (s.post b) = .next t ∧
          t.reply = some ⟨0xD0, h.tag, .ok, .event (some ⟨b, s.seconds, 0⟩) 0 s.seconds⟩ ∧ t.events = [] ∧
          t.attn = false)) ∧
    (∀ e es, s.events = e :: es → es.length < 31 →
      (∃ t : State, exec (.getEvent h) s = .next t ∧ t.reply = some ⟨0xD0, h.tag, .ok, .event (some e) es.length s.seconds⟩ ∧
        (t.post b).events = es ++ [⟨b, s.seconds, 0⟩]) ∧
      (∃ t : State, exec (.getEvent h) (s.post b) = .next t ∧
        t.reply = some ⟨0xD0, h.tag, .ok, .event (some e) (es.length + 1) s.seconds⟩ ∧
        t.events = es ++ [⟨b, s.seconds, 0⟩])) ∧
    (∀ e es l, s.events = e :: es ++ [l] → es.length = 30 →
      (∃ t : State, exec (.getEvent h) s = .next t ∧ t.reply = some ⟨0xD0, h.tag, .ok, .event (some e) 31 s.seconds⟩ ∧
        (t.post b).events = es ++ [l, ⟨b, s.seconds, 0⟩]) ∧
      (∃ t : State, exec (.getEvent h) (s.post b) = .next t ∧
        t.reply = some ⟨0xD0, h.tag, .ok, .event (some e) 31 s.seconds⟩ ∧
        t.events = es ++ [{ l with lostAfter := min 255 (l.lostAfter + 1) }])) ∧
    (∀ e h', s.events = [e] → h'.len = 0 → s.headTaken = false → s.reply = none →
      s.buffer = [.request 0x50#8 h.tag [], .request 0x50#8 h'.tag []] →
      ∃ t u v, exec (.getEvent h) s = .next t ∧ exec .replySent t = .next u ∧ exec (.getEvent h') u = .next v ∧
        t.reply = some ⟨0xD0, h.tag, .ok, .event (some e) 0 s.seconds⟩ ∧
        v.reply = some ⟨0xD0, h'.tag, .ok, .event none 0 s.seconds⟩)

/-- READ UNRESOLVED returns the record or says that none is held, and leaves the record empty; nothing else changes but the
reply (R19). -/
def Obligations.ReadUnresolvedEmptiesTheRecord : Prop :=
  ∀ (h : Hdr) (s : State), s.Accepts ⟨.readUnresolved, h, [], 0⟩ →
    exec (.readUnresolved h) s =
      .next ({ s.taking ⟨.readUnresolved, h, [], 0⟩ with unresolved := none }.replied ⟨.readUnresolved, h, [], 0⟩ .ok (.unresolved s.unresolved))

/-! ## The receiver, the request buffer and the replies -/

/-- A frame of start byte, length, kind, tag, body and the CRC-16 of these bytes, whose kind is a request code, joins a buffer
with room; in a full buffer it leaves no trace; the receiver is HUNTING again and nothing else changes (R187, R188). A frame
with a wrong CRC-16 becomes a FRAME_BAD notice with its tag, one with a good CRC-16 and a kind that is no request code an
UNKNOWN_KIND notice with its tag, and a length byte above 250 a FRAME_BAD notice without a tag at once; the receiver is
HUNTING again, and nothing of the frame is acted on (R187, R188). -/
def Obligations.FramesBecomeRequestsOrNotices : Prop :=
  (∀ (len kind tag : Byte) (body : List Byte) (s : State), s.silent = false → s.rx = .hunting → len.toNat = body.length →
    body.length ≤ 250 → (∃ k : ReqKind, k.code = kind.toNat) →
    exec (.frameReceived (0x5A#8 :: len :: kind :: tag ::
        (body ++ [crc16High (len :: kind :: tag :: body), crc16Low (len :: kind :: tag :: body)]))) s =
      .next { s with buffer := if s.buffer.length < 2 then s.buffer ++ [.request kind tag body] else s.buffer }) ∧
  (∀ (len kind tag : Byte) (s : State), s.silent = false → s.rx = .hunting →
    (∀ (body : List Byte) (hi lo : Byte), len.toNat = body.length → body.length ≤ 250 →
      ((hi, lo) ≠ (crc16High (len :: kind :: tag :: body), crc16Low (len :: kind :: tag :: body)) →
        exec (.frameReceived (0x5A#8 :: len :: kind :: tag :: (body ++ [hi, lo]))) s =
          .next { s with buffer := if s.buffer.length < 2 then s.buffer ++ [.notice .frameBad (some tag)] else s.buffer }) ∧
      ((hi, lo) = (crc16High (len :: kind :: tag :: body), crc16Low (len :: kind :: tag :: body)) →
        (¬∃ k : ReqKind, k.code = kind.toNat) →
        exec (.frameReceived (0x5A#8 :: len :: kind :: tag :: (body ++ [hi, lo]))) s =
          .next { s with
            buffer := if s.buffer.length < 2 then s.buffer ++ [.notice .unknownKind (some tag)] else s.buffer })) ∧
    (250 < len.toNat →
      exec (.frameReceived [0x5A#8, len]) s =
        .next { s with buffer := if s.buffer.length < 2 then s.buffer ++ [.notice .frameBad none] else s.buffer }))

/-- A byte received: HUNTING passes over every byte but 0x5A, which starts a frame; a byte of a frame that neither ends it nor
shows a length above 250 is kept and starts the 100 ms gap afresh; the gap's end abandons the frame with a FRAME_BAD notice
and the tag if it was received; while the RESET input is held, and while power comes up, no byte is received (R187, R199).
That a gap's end in HUNTING changes nothing is log 3, and that the millisecond time reaches the gap's end with it is log 1. -/
def Obligations.BytesMoveTheReceiver : Prop :=
  ∀ (b : Byte) (s : State),
    (s.silent = true → exec (.byteReceived b) s = .next s) ∧
    (s.silent = false → s.rx = .hunting → b ≠ 0x5A#8 → exec (.byteReceived b) s = .next s) ∧
    (s.silent = false → s.rx = .hunting → b = 0x5A#8 →
      exec (.byteReceived b) s = .next { s with rx := .inFrame [] ⟨s.nowMs, 100⟩ }) ∧
    (∀ got gap, s.silent = false → s.rx = .inFrame got gap →
      (∀ len, (got ++ [b]).head? = some len → len.toNat ≤ 250 → (got ++ [b]).length < len.toNat + 5 →
        exec (.byteReceived b) s = .next { s with rx := .inFrame (got ++ [b]) ⟨s.nowMs, 100⟩ }) ∧
      (∀ len, (got ++ [b]).head? = some len → 250 < len.toNat →
        exec (.byteReceived b) s = .next { s with
          rx := .hunting,
          buffer := if s.buffer.length < 2 then s.buffer ++ [.notice .frameBad none] else s.buffer })) ∧
    (s.rx = .hunting → exec .frameByteGap s = .next s) ∧
    (∀ got gap, s.rx = .inFrame got gap →
      exec .frameByteGap s = .next { s with
        rx := .hunting, nowMs := max s.nowMs (gap.start + gap.dur),
        buffer := if s.buffer.length < 2 then s.buffer ++ [.notice .frameBad got[2]?] else s.buffer })

/-- A discard notice at the head of the buffer is answered with an error reply, kind 0xFF, the frame's tag or 0x00, and
whether the tag was read, once no other reply is being sent; the entry leaves the buffer with the last byte of its reply, as
every entry does (R188, R189). That a notice whose reply cannot start now and a REPLY_SENT with no reply change nothing is the
model's choice (log 3), and so is what REPLY_SENT does where the head was not taken (logs 4 and 31; log 31 has the mark of the
taken head). -/
def Obligations.RepliesEmptyTheBuffer : Prop :=
  ∀ s : State,
    (∀ st tag rest, s.buffer = .notice st tag :: rest → s.headTaken = false → s.silent = false → s.reply = none →
      exec .discardNoticeReply s = .next { s with
        headTaken := true, reply := some ⟨0xFF, tag.getD 0x00#8, st, .errorReply tag.isSome⟩ }) ∧
    (s.reply ≠ none → exec .discardNoticeReply s = .next s) ∧
    (s.reply = none → exec .replySent s = .next s) ∧
    (∀ r, s.reply = some r → r.isReset = false →
      (∀ e rest, s.buffer = e :: rest → s.headTaken = true →
        exec .replySent s = .next { s with headTaken := false, reply := none, buffer := rest }) ∧
      (s.headTaken = false → exec .replySent s = .next { s with reply := none }))

/-! ## Resets, mode and settings -/

/-- Power steady and the RESET input released: the device reset, which leaves every block as its table says (R199; log 39 for
power that becomes steady while the input is held). The RESET input asserted: receiver, buffer, reply and event queue are
emptied, READY and ATTN are low, and no burst is being sent; while it is held, and while power comes up, no event is stored,
no byte is received and no request is taken (R199, R185). An input that has the level already changes nothing (log 3). -/
def Obligations.ResetsStopAndRestartThePart : Prop :=
  (∀ s : State,
    (∃ t : State, exec .powerSteady s = .next t ∧ { s with poweringUp := false }.Starting t) ∧
    (s.resetHeld = true → ∃ t : State, exec .resetInputReleased s = .next t ∧ { s with resetHeld := false }.Starting t) ∧
    (s.resetHeld = false → exec .resetInputReleased s = .next s) ∧
    (s.resetHeld = true → exec .resetInputAsserted s = .next s)) ∧
  (∀ s : State,
    (s.resetHeld = false →
      ∃ t : State, exec .resetInputAsserted s = .next t ∧ t.rx = .hunting ∧ t.buffer = [] ∧ t.reply = none ∧ t.events = [] ∧
        t.ready = false ∧ t.attn = false ∧ t.resetHeld = true ∧ t.poweringUp = s.poweringUp ∧
        (∀ i, (t.sec i).isSending = false) ∧ s.SameSettings t ∧ s.SameDirectory t ∧ s.SameCalls t ∧ t.ltu = s.ltu ∧
        t.pending = s.pending) ∧
    (s.resetHeld = true ∨ s.poweringUp = true →
      (∀ b, s.post b = s) ∧ (∀ bytes, exec (.frameReceived bytes) s = .next s) ∧ s.ready = false ∧
      ∀ k h body, s.takes k h body = false))

/-- R198: RESET is allowed in both modes and always taken; its reply is OK with the seconds count, and the device reset
follows when its last byte is sent, whatever the buffer and the receiver hold. -/
def Obligations.ResetRequestResetsTheDevice : Prop :=
  ∀ (h : Hdr) (s : State), s.takes .reset h [] = true → h.len = 0 →
    exec (.reset h) s = .next (s.answers ⟨.reset, h, [], 0⟩ .ok (.resetAt s.seconds)) ∧
    ∀ t : State, t.reply = some ⟨0x82, h.tag, .ok, .resetAt s.seconds⟩ →
      ∃ u, exec .replySent t = .next u ∧ t.Starting u ∧ u.buffer = [] ∧ u.rx = .hunting ∧ u.reply = none

/-- The state after reset is the starting state of the spec's table, with no command waiting (R199, R21, R60, R82, R98, R115,
R154, R155, R159, R160, R178). That the far-end-ready inputs and the pairs' levels are low there is the model's choice (logs 6
and 7), and nothing is stated of it. The state after reset obeys every law below. -/
def Obligations.ResetStateIsTheStartingStateAndLawful : Prop :=
  (State.reset.Starting State.reset ∧ State.reset.pending = [] ∧ State.reset.resetHeld = false ∧ State.reset.poweringUp = false) ∧
  (State.reset.EventLaw ∧ State.reset.BufferLaw ∧ State.reset.QueueLaw ∧ State.reset.DirectoryLaw ∧ State.reset.CallLaw ∧
  State.reset.SetupLaw ∧ State.reset.dispatchDue = false)

/-- START takes the part to SERVICE and every defined section to WAKING with reason HOST, its service begun; undefined
sections and everything else stay; with no section defined it is refused NO_SUCH_SECTION (R192, R97, R99). -/
def Obligations.StartBeginsTheServiceOfEverySection : Prop :=
  ∀ (h : Hdr) (s : State), s.Accepts ⟨.start, h, [], 0⟩ →
    ((∀ i, (s.sec i).defn = none) →
      exec (.start h) s = .next (s.answers ⟨.start, h, [], 0⟩ .noSuchSection .nothing)) ∧
    (∀ j, (s.sec j).defn ≠ none →
      ∃ (l : List SectionId) (t : State), (∀ i, i ∈ l ↔ (s.sec i).defn ≠ none) ∧ l.Pairwise (· < ·) ∧
        exec (.start h) s = .next (t.replied ⟨.start, h, [], 0⟩ .ok (.started l)) ∧
        t = { s.taking ⟨.start, h, [], 0⟩ with mode := .service, secs := t.secs } ∧
        (∀ i, i ∈ l → t.sec i = (s.sec i).serviceBegun s.seconds s.nowMs) ∧ ∀ i, i ∉ l → t.sec i = s.sec i)

/-- SET GLOBALS clamps the eight quantities, replaces the whole record at once, echoes it, and is an occasion for the
dispatcher (R194, R190, R161); an auto-offer byte other than 0 or 1 is refused BAD_FIELD. -/
def Obligations.SetGlobalsClampsAndReplaces : Prop :=
  ∀ (h : Hdr) (g : RawGlobals) (s : State), s.Accepts ⟨.setGlobals, h, g.body, 9⟩ →
    (1 < g.autoOffer →
      exec (.setGlobals h g) s = .next (s.answers ⟨.setGlobals, h, g.body, 9⟩ .badField .nothing)) ∧
    (g.autoOffer ≤ 1 →
      ∀ n : Globals,
        n = ⟨clampTo 5 60 g.ageing, clampTo 5 120 g.offerTimeout, clampTo 10 180 g.ringTimeout, clampTo 0 12 g.baseTunnel,
             clampTo 0 12 g.baseBridge, clampTo 0 12 g.baseOpen, clampTo 0 12 g.baseService, clampTo 0 150 g.lowBattery,
             decide (g.autoOffer = 1)⟩ →
        ∃ t : State, exec (.setGlobals h g) s = .next (t.replied ⟨.setGlobals, h, g.body, 9⟩
            (if g.ageing = n.ageing ∧ g.offerTimeout = n.offerTimeout ∧ g.ringTimeout = n.ringTimeout ∧
                g.baseTunnel = n.baseTunnel ∧ g.baseBridge = n.baseBridge ∧ g.baseOpen = n.baseOpen ∧
                g.baseService = n.baseService ∧ g.lowBattery = n.lowBattery then .ok else .okClamped) (.globals n)) ∧
          t = { s.taking ⟨.setGlobals, h, g.body, 9⟩ with globals := n, dispatchDue := true }.finish ∧ t.globals = n ∧ t.mode = s.mode ∧
          (s.taking ⟨.setGlobals, h, g.body, 9⟩).SameLink t ∧ s.SameDirectory t ∧ t.secs = s.secs ∧ t.ltu = s.ltu ∧
          t.history = s.history ∧ (n.autoOffer = false → s.SameCalls t ∧ t.events = s.events))

/-! ## The laws of the device -/

/-- Every step keeps the event queue within 32 records and every lost-after count within 255 (R179, R180), the request buffer
within two entries (R188), and owes the dispatcher no act (R161; the mark is the model's own, log 31). -/
def Obligations.StepKeepsTheEventAndBufferLaws : Prop :=
  ∀ s t : State, s.EventLaw → s.BufferLaw → s.dispatchDue = false → step s = .next t →
    t.EventLaw ∧ t.BufferLaw ∧ t.dispatchDue = false

/-- Every step keeps "at most one call notice per address, at most six host-originated transactions" in every section's queue,
no poll in a queue, and every transaction's origin (R74, R75, R76, R78). -/
def Obligations.StepKeepsTheQueueLaw : Prop := ∀ s t : State, s.QueueLaw → step s = .next t → t.QueueLaw

/-- Every step keeps the laws of rows, rosters, thresholds, missed-poll counts and offsets (R2, R3, R13, R15, R62). -/
def Obligations.StepKeepsTheDirectoryLaw : Prop := ∀ s t : State, s.DirectoryLaw → step s = .next t → t.DirectoryLaw

/-- Every step keeps the power law, together with the law that in SETUP every section is OFF (R191): a section that is not
ACTIVE has its line DOWN, no transaction in flight and no open round, a transaction is in flight in OWNED or FOREIGN only, and
the stuck, break and settle quiet timers run exactly while their rules say (R65, R66, R70, R71, R82). -/
def Obligations.StepKeepsThePowerLaw : Prop :=
  ∀ s t : State, s.SetupLaw → s.PowerLaw → step s = .next t → t.SetupLaw ∧ t.PowerLaw

/-- Every step keeps the laws of calls, channels, paths, joins and call timers, in SETUP with every section OFF (R191): at
most 32 live calls, no two at one address or with one reference, channel and call naming each other, at most one live call
holding each path, every join following its holder, and no call but an ABANDONED one on a sleeping section (R82, R129, R132,
R149, R155, R159, R160). -/
def Obligations.StepKeepsTheCallLaw : Prop :=
  ∀ s t : State, s.SetupLaw → s.CallLaw → step s = .next t → t.SetupLaw ∧ t.CallLaw

/-! ## The post directory -/

/-- R2: the row hash, the laws of rows that every step keeps, and that a post keeps its column as long as it has an entry. -/
def Obligations.PostsLieInTheirHashedRows : Prop :=
  (∀ p : Nat, (rowOf p).val = (p % 64) ^^^ ((p / 64) % 64)) ∧
  (∀ s t : State, s.RowLaw → step s = .next t →
    t.RowLaw ∧ ∀ p c e c' e', s.lookup p = some (c, e) → t.lookup p = some (c', e') → c' = c) ∧
  State.reset.RowLaw

/-- R7: DEFINE POST is checked in the order of its table, and the first check that fails is reported, with nothing changed. -/
def Obligations.DefinePostChecksInOrder : Prop :=
  ∀ (h : Hdr) (p : RawPost) (s : State) (f : RequestForm), f = ⟨.definePost, h, p.body, 8⟩ → s.Accepts f →
    ((p.post = 0 ∨ 59999 < p.post ∨ 7 < p.sec ∨ p.addr = 0 ∨ 15 < p.addr ∨ 3 < p.cls ∨ 1 < p.cway) →
      exec (.definePost h p) s = .next (s.answers f .badField .nothing)) ∧
    (∀ (i : SectionId) (a : Addr), 1 ≤ p.post → p.post ≤ 59999 → p.sec = i.val → p.addr = a.val → 1 ≤ p.addr → p.cls ≤ 3 →
      p.cway ≤ 1 →
      ((match (s.sec i).defn with | some d => d.length < p.offset | none => 20000 < p.offset) →
        exec (.definePost h p) s = .next (s.answers f .badField .nothing)) ∧
      ((s.sec i).defn = none → p.offset ≤ 20000 →
        exec (.definePost h p) s = .next (s.answers f .noSuchSection .nothing)) ∧
      (∀ d, (s.sec i).defn = some d → p.offset ≤ d.length →
        (∀ c e, s.lookup p.post = some (c, e) → (s.callAt e.sec e.addr).isSome = true →
          exec (.definePost h p) s = .next (s.answers f .postBusy .nothing)) ∧
        ((∀ c e, s.lookup p.post = some (c, e) → s.callAt e.sec e.addr = none) →
          (∀ q, s.slotAt i a = some q → q ≠ p.post →
            exec (.definePost h p) s = .next (s.answers f .addressTaken .nothing)) ∧
          ((∀ q, s.slotAt i a = some q → q = p.post) → s.lookup p.post = none →
            (s.entry (rowOf p.post) 0).isSome = true → (s.entry (rowOf p.post) 1).isSome = true →
            exec (.definePost h p) s = .next (s.answers f .dirRowFull .nothing)) ∧
          ((∀ q, s.slotAt i a = some q → q = p.post) →
            (s.lookup p.post = none → s.entry (rowOf p.post) 0 = none ∨ s.entry (rowOf p.post) 1 = none) →
            ∃ (t : State) (c : Fin 2),
              exec (.definePost h p) s = .next (t.replied f .ok (.placed (rowOf p.post) c))))))

/-- DEFINE POST with its checks passed: a new post stands in column 0 of its row if that is free, else in column 1, IN SERVICE
with its supervision fields at their defined-post values (R8); a post that has an entry is redefined in place, its old slot
emptied and its service state kept (R9). In both, the slot of its section and address names it and nothing else changes. -/
def Obligations.DefinePostPlacesOrRedefines : Prop :=
  ∀ (h : Hdr) (p : RawPost) (s : State) (f : RequestForm) (i : SectionId) (a : Addr) (d : SectionDef) (cl : PostClass)
    (cw : Carriageway),
    f = ⟨.definePost, h, p.body, 8⟩ → s.Accepts f → 1 ≤ p.post → p.post ≤ 59999 → p.sec = i.val → p.addr = a.val →
    1 ≤ p.addr → PostClass.ofCode p.cls = some cl → Carriageway.ofCode p.cway = some cw → (s.sec i).defn = some d →
    p.offset ≤ d.length → (∀ q, s.slotAt i a = some q → q = p.post) →
    (s.lookup p.post = none →
      ∀ c : Fin 2, s.entry (rowOf p.post) c = none → (c = 1 → (s.entry (rowOf p.post) 0).isSome = true) →
        ∃ t : State, exec (.definePost h p) s = .next (t.replied f .ok (.placed (rowOf p.post) c)) ∧
          t = { s.taking f with dir := t.dir, rosters := t.rosters } ∧
          (∀ r k, t.entry r k = if r = rowOf p.post ∧ k = c then
            some ⟨p.post, i, a, p.offset, cl, cw, .inService, none, none, 0, true, false⟩ else s.entry r k) ∧
          ∀ j b, t.slotAt j b = if j = i ∧ b = a then some p.post else s.slotAt j b) ∧
    (∀ c e, s.lookup p.post = some (c, e) → s.callAt e.sec e.addr = none →
        ∃ t : State, exec (.definePost h p) s = .next (t.replied f .ok (.placed (rowOf p.post) c)) ∧
          t = { s.taking f with dir := t.dir, rosters := t.rosters } ∧
          (∀ r k, t.entry r k = if r = rowOf p.post ∧ k = c then
            some ⟨p.post, i, a, p.offset, cl, cw, e.service, none, none, 0, true, false⟩ else s.entry r k) ∧
          ∀ j b, t.slotAt j b = if j = i ∧ b = a then some p.post
            else if j = e.sec ∧ b = e.addr then none else s.slotAt j b)

/-- REMOVE POST with its checks passed empties the post's slot and marks its entry invalid; SUSPEND POST and RESUME POST write
its service state and keep its other fields; nothing else changes. A number out of range, a post with no entry and, for REMOVE
POST, a live call of the post refuse the request (R11, R12, R4, R6). -/
def Obligations.RemoveSuspendAndResumePost : Prop :=
  ∀ (h : Hdr) (p : Nat) (s : State) (f : RequestForm),
    (f = ⟨.removePost, h, byte2 p, 2⟩ → s.Accepts f →
      (p = 0 ∨ 59999 < p → exec (.removePost h p) s = .next (s.answers f .badField .nothing)) ∧
      (1 ≤ p → p ≤ 59999 →
        (s.lookup p = none → exec (.removePost h p) s = .next (s.answers f .noSuchPost .nothing)) ∧
        (∀ c e, s.lookup p = some (c, e) →
          ((s.callAt e.sec e.addr).isSome = true →
            exec (.removePost h p) s = .next (s.answers f .postBusy .nothing)) ∧
          (s.callAt e.sec e.addr = none →
            ∃ t : State, exec (.removePost h p) s = .next (t.replied f .ok .nothing) ∧
              t = { s.taking f with dir := t.dir, rosters := t.rosters } ∧
              (∀ r k, t.entry r k = if r = rowOf p ∧ k = c then none else s.entry r k) ∧
              ∀ j b, t.slotAt j b = if j = e.sec ∧ b = e.addr then none else s.slotAt j b)))) ∧
    (∀ st : ServiceState, ∀ cmd : Instr,
      (st = .suspended ∧ cmd = .suspendPost h p ∧ f = ⟨.suspendPost, h, byte2 p, 2⟩ ∨
        st = .inService ∧ cmd = .resumePost h p ∧ f = ⟨.resumePost, h, byte2 p, 2⟩) → s.Accepts f →
      (p = 0 ∨ 59999 < p → exec cmd s = .next (s.answers f .badField .nothing)) ∧
      (1 ≤ p → p ≤ 59999 →
        (s.lookup p = none → exec cmd s = .next (s.answers f .noSuchPost .nothing)) ∧
        (∀ c e, s.lookup p = some (c, e) →
          ∃ t : State, exec cmd s = .next (t.replied f .ok .nothing) ∧ t = { s.taking f with dir := t.dir } ∧
            ∀ r k, t.entry r k = if r = rowOf p ∧ k = c then some { e with service := st } else s.entry r k)))

/-! ## Requests about a section -/

/-- DEFINE SECTION in SETUP, or in SERVICE for a section that is OFF, stores the definition with length, k and Rc clamped,
keeps the applied timing or sets it to the defaults, and changes nothing else (R61); a stored length below the offset of one
of the section's posts is refused BAD_FIELD (R13), and a section in service SECTION_ACTIVE. -/
def Obligations.DefineSectionStoresTheDefinition : Prop :=
  ∀ (h : Hdr) (d : RawSection) (s : State) (i : SectionId) (f : RequestForm) (sg : Sign) (v : SectionDef),
    f = ⟨.defineSection, h, byte1 i.val ++ d.body, 15⟩ → s.Accepts f → d.base ≤ 999999 → Sign.ofCode d.sign = some sg →
    d.hibernate ≤ 1 → d.autoMeasure ≤ 1 →
    v = ⟨d.base, sg, clampTo 100 20000 d.length, clampTo 1000 40000 d.k, clampTo 0 1000 d.rc, d.sync,
         decide (d.hibernate = 1), decide (d.autoMeasure = 1)⟩ →
    (s.mode = .service → (s.sec i).power ≠ .off →
      exec (.defineSection h i.val d) s = .next (s.answers f .sectionActive .nothing)) ∧
    (s.mode = .setup ∨ (s.sec i).power = .off →
      ((∃ r c e, s.entry r c = some e ∧ e.sec = i ∧ v.length < e.offset) →
        exec (.defineSection h i.val d) s = .next (s.answers f .badField .nothing)) ∧
      ((∀ r c e, s.entry r c = some e → e.sec = i → e.offset ≤ v.length) →
        exec (.defineSection h i.val d) s = .next
          (((s.taking f).setSec i
            { s.sec i with defn := some v, timing := some ((s.sec i).timing.getD Timing.default) }).replied f
            (if d.length = v.length ∧ d.k = v.k ∧ d.rc = v.rc then .ok else .okClamped) (.definition v))))

/-- SET SECTION TIMING clamps its settings; on an ACTIVE section whose line is not IDLE the record is held pending, else it is
applied at once: the due time moves with a new period or offset (R101), every entry of the section is re-evaluated against the
new threshold (R17), and the flips are told in address order (R64, R112); nothing else changes (R62, R63). -/
def Obligations.SetSectionTimingAppliesOrHolds : Prop :=
  ∀ (h : Hdr) (r : RawTiming) (s : State) (i : SectionId) (f : RequestForm) (v : Timing) (st : Status),
    f = ⟨.setSectionTiming, h, byte1 i.val ++ r.body, 13⟩ → s.Accepts f → (s.sec i).defn ≠ none →
    v = ⟨clampTo 100 2000 r.replyWindow, clampTo 0 3 r.retries, clampTo 5 600 r.idleHold, clampTo 60 3600 r.period,
         clampTo 0 (clampTo 60 3600 r.period - 1) r.offset, clampTo 1 8 r.unreachable, clampTo 1 10 r.stuck,
         clampTo 1 10 r.brk⟩ →
    st = (if (⟨r.replyWindow, r.retries, r.idleHold, r.period, r.offset, r.unreachable, r.stuck, r.brk⟩ : Timing) = v then .ok
          else .okClamped) →
    ((s.sec i).power = .active → (s.sec i).line ≠ .idle →
      exec (.setSectionTiming h i.val r) s = .next
        (((s.taking f).setSec i { s.sec i with pendingTiming := some v }).replied f st (.timing v false))) ∧
    ((s.sec i).power ≠ .active ∨ (s.sec i).line = .idle →
      ∃ (t : State) (l : List PostEntry),
        exec (.setSectionTiming h i.val r) s = .next (t.replied f st (.timing v true)) ∧
        t = { s.taking f with secs := t.secs, dir := t.dir, events := t.events } ∧
        t.sec i = { s.sec i with timing := some v, pendingTiming := none, due := (t.sec i).due } ∧
        (∀ j, j ≠ i → t.sec j = s.sec j) ∧
        ((s.sec i).timingD.period = v.period ∧ (s.sec i).timingD.offset = v.offset → (t.sec i).due = (s.sec i).due) ∧
        (¬((s.sec i).timingD.period = v.period ∧ (s.sec i).timingD.offset = v.offset) →
          ∀ a, (s.sec i).anchor = some a →
            ∃ n, (t.sec i).due = some (a + v.offset + n * v.period) ∧ s.seconds < a + v.offset + n * v.period ∧
              (n ≠ 0 → a + v.offset + (n - 1) * v.period ≤ s.seconds)) ∧
        (∀ q c, t.entry q c = (s.entry q c).map (fun e =>
          if e.sec = i then { e with reachable := decide (e.missed < v.unreachable) } else e)) ∧
        (∀ e, e ∈ l ↔ e.sec = i ∧ ∃ q c, s.entry q c = some e) ∧ l.Pairwise (fun a b => a.addr ≤ b.addr) ∧
        s.Tells t (l.filterMap (fun e =>
          if e.reachable = true ∧ v.unreachable ≤ e.missed then some (.postUnreachable e.post e.sec e.addr e.missed)
          else if e.reachable = false ∧ e.missed < v.unreachable then some (.postReachable e.post e.sec e.addr e.missed)
          else none)))

/-- SECTION SERVICE IN puts an OFF section in service, WAKING with reason HOST and its schedule anchored, and changes nothing
on one in service; the reply carries the power state found (R94, R97, R99). An undefined section is refused
NO_SUCH_SECTION. -/
def Obligations.SectionServiceInBeginsService : Prop :=
  ∀ (h : Hdr) (s : State) (i : SectionId) (force : Nat) (f : RequestForm),
    f = ⟨.sectionService, h, byte1 i.val ++ byte1 0 ++ byte1 force, 3⟩ → s.Accepts f → force ≤ 1 →
    ((s.sec i).defn = none →
      exec (.sectionServiceIn h i.val 0 force) s = .next (s.answers f .noSuchSection .nothing)) ∧
    ((s.sec i).defn ≠ none → (s.sec i).power ≠ .off →
      exec (.sectionServiceIn h i.val 0 force) s = .next (s.answers f .ok (.powerFound (s.sec i).power))) ∧
    ((s.sec i).defn ≠ none → (s.sec i).power = .off →
      exec (.sectionServiceIn h i.val 0 force) s = .next
        (((s.taking f).setSec i ((s.sec i).serviceBegun s.seconds s.nowMs)).replied f .ok (.powerFound .off)))

/-- SECTION SERVICE OUT of a defined section: an OFF one stays; live calls on it without the force flag refuse it
CALLS_PRESENT with their number; else it goes OFF with its line, queue, transaction, MEASURE, round and reasons cleared, a
pending timing applied, its calls ended, its path free, and SECTION_STATE OFF told; its definition and its line's bracket
stay. MEASURE_ABORTED, SECTION_STATE, the threshold flips, a CALL_ENDED for each call and a TRANSACTION_FAILED for each
transaction taken out, the one in flight first, stand in this order, and each call has its history record (R80, R95, R96, R98,
R125, R126, R145, R150). That the reply of a section found OFF has a number of calls ended, 0, is log 42. -/
def Obligations.SectionServiceOutTakesASectionOff : Prop :=
  ∀ (h : Hdr) (s : State) (i : SectionId) (force : Nat) (f : RequestForm),
    f = ⟨.sectionService, h, byte1 i.val ++ byte1 1 ++ byte1 force, 3⟩ → s.Accepts f → force ≤ 1 →
    (s.sec i).defn ≠ none →
    ((s.sec i).power = .off →
      exec (.sectionServiceOut h i.val 1 force) s = .next (s.answers f .ok (.serviceOut .off 0))) ∧
    ((s.sec i).power ≠ .off → s.callsOn i ≠ [] → force = 0 →
      exec (.sectionServiceOut h i.val 1 force) s = .next (s.answers f .callsPresent (.callCount (s.callsOn i).length))) ∧
    ((s.sec i).power ≠ .off → (s.callsOn i = [] ∨ force = 1) → s.PathLaw →
      ∃ t : State,
        exec (.sectionServiceOut h i.val 1 force) s =
          .next (t.replied f .ok (.serviceOut (s.sec i).power (s.callsOn i).length)) ∧
        (t.sec i).power = .off ∧ (t.sec i).line = .down ∧ (t.sec i).exch = .quiet ∧ (t.sec i).queue = [] ∧
        (t.sec i).inFlight = none ∧ (t.sec i).slot = none ∧ (t.sec i).round = none ∧ (t.sec i).overrun = false ∧
        (t.sec i).reasons = ReasonSet.empty ∧ (t.sec i).roundDue = false ∧ (t.sec i).episode = false ∧
        (t.sec i).idleSince = none ∧ (t.sec i).defn = (s.sec i).defn ∧ (t.sec i).bracket = (s.sec i).bracket ∧
        (t.sec i).pendingTiming = none ∧
        (t.sec i).timing = (match (s.sec i).pendingTiming with | some v => some v | none => (s.sec i).timing) ∧
        (t.ltuOf i).running = none ∧ (∀ c ∈ t.calls, c.sec ≠ i) ∧ t.holder i = none ∧
        s.TellsFirst t (s.measureAbortTold i ++ [.sectionState i .off ReasonSet.empty]) ∧
        (s.RingsAtHome i → ∃ (l : List Call) (es : List PostEntry),
          s.PostsByAddress i es ∧ s.EndsCalls t i .sectionOff l ∧
          s.TellsFirst t (s.measureAbortTold i ++ .sectionState i .off ReasonSet.empty ::
            flipsTold (s.sec i).pendingTiming es ++ l.map (fun c => c.endTold .sectionOff s.seconds) ++
            ((s.sec i).inFlight.toList ++ (s.sec i).queue).map (s.abortTold i))) ∧
        (s.taking f).SameLink t ∧ s.SameSettings t ∧ t.rosters = s.rosters ∧ t.unresolved = s.unresolved)

/-- SECTION RESET of a section in service: an ACTIVE section's line goes to UNKNOWN, another section to WAKING with reason
RESET among its reasons; its calls are ended and its queue holds only their closing notices; transaction, MEASURE and round
are gone, an open break episode stays; OFF refuses it SECTION_OFF. MEASURE_ABORTED, a CALL_ENDED for each call, the threshold
flips and a TRANSACTION_FAILED for each transaction taken out stand in this order, each call has its history record, and its
closing notice stands in the queue. A line that was in BREAK or TESTING starts its timers with the timing applied by the reset
(R64, R70, R71, R72, R75, R80, R81, R125, R126, R145, R150). -/
def Obligations.SectionResetClearsTheSection : Prop :=
  ∀ (h : Hdr) (s : State) (i : SectionId) (f : RequestForm),
    f = ⟨.sectionReset, h, byte1 i.val, 1⟩ → s.Accepts f → (s.sec i).defn ≠ none →
    ((s.sec i).power = .off → exec (.sectionReset h i.val) s = .next (s.answers f .sectionOff .nothing)) ∧
    ((s.sec i).power ≠ .off → s.PathLaw →
      ∃ t : State, exec (.sectionReset h i.val) s = .next (t.replied f .ok .nothing) ∧
        ((s.sec i).power = .active → (t.sec i).power = .active ∧ (t.sec i).line = .unknown) ∧
        ((s.sec i).power ≠ .active →
          (t.sec i).power = .waking .powerUp ∧ (t.sec i).line = .down ∧ (t.sec i).reasons.reset = true ∧
          (t.sec i).wakeTimer = some ⟨s.nowMs, 300⟩) ∧
        (t.sec i).exch = .quiet ∧ (t.sec i).inFlight = none ∧ (t.sec i).slot = none ∧ (t.sec i).round = none ∧
        (∀ q ∈ (t.sec i).queue, q.kind = .clear ∨ q.kind = .ringStop) ∧ (t.sec i).episode = (s.sec i).episode ∧
        (t.sec i).defn = (s.sec i).defn ∧ (t.sec i).bracket = (s.sec i).bracket ∧ (t.sec i).pendingTiming = none ∧
        (t.sec i).anchor = (s.sec i).anchor ∧ (t.ltuOf i).running = none ∧ (∀ c ∈ t.calls, c.sec ≠ i) ∧
        t.holder i = none ∧
        (t.sec i).timing = (match (s.sec i).pendingTiming with | some v => some v | none => (s.sec i).timing) ∧
        ((s.sec i).power = .active → (s.sec i).line = .brk ∨ (s.sec i).line = .testing →
          (t.sec i).breakTimer =
            (if (s.sec i).space then some ⟨s.nowMs, 1000 * ((t.sec i).timing.getD Timing.default).brk⟩ else none) ∧
          (t.sec i).stuckTimer =
            (if (s.sec i).pairFree then none else some ⟨s.nowMs, 1000 * ((t.sec i).timing.getD Timing.default).stuck⟩)) ∧
        (s.RingsAtHome i → ∃ (l : List Call) (es : List PostEntry),
          s.PostsByAddress i es ∧ s.EndsCalls t i .sectionReset l ∧
          (s.PlaceLaw → (t.sec i).queue = l.map (fun c =>
            ⟨if c.state = .ringing then .ringStop else .clear, c.addr, .call c.ref, 0, 0, 0, false⟩)) ∧
          s.TellsFirst t (s.measureAbortTold i ++ l.map (fun c => c.endTold .sectionReset s.seconds) ++
            flipsTold (s.sec i).pendingTiming es ++ ((s.sec i).inFlight.toList ++ (s.sec i).queue).map (s.abortTold i))) ∧
        (s.taking f).SameLink t ∧ s.SameSettings t ∧ t.rosters = s.rosters ∧ t.unresolved = s.unresolved)

/-- FORCE IDLE takes an ACTIVE section whose line is UNKNOWN to IDLE as the settle quiet does, and changes nothing in every
other power and line state; the reply carries the power and line state found; OFF refuses it SECTION_OFF (R67). -/
def Obligations.ForceIdleEndsUnknown : Prop :=
  ∀ (h : Hdr) (s : State) (i : SectionId) (f : RequestForm),
    f = ⟨.forceIdle, h, byte1 i.val, 1⟩ → s.Accepts f → (s.sec i).defn ≠ none →
    ((s.sec i).power = .off → exec (.forceIdle h i.val) s = .next (s.answers f .sectionOff .nothing)) ∧
    ((s.sec i).power ≠ .off → ¬((s.sec i).power = .active ∧ (s.sec i).line = .unknown) →
      exec (.forceIdle h i.val) s = .next (s.answers f .ok (.idleFound (s.sec i).power (s.sec i).line))) ∧
    ((s.sec i).power = .active → (s.sec i).line = .unknown →
      exec (.forceIdle h i.val) s = .next (((s.taking f).enterIdle i).replied f .ok (.idleFound .active .unknown)) ∧
      ((s.sec i).pairFree = false → (((s.taking f).enterIdle i).sec i).line = .idle) ∧
      (((s.taking f).enterIdle i).sec i).quietTimer = none)

/-- POLL NOW: an open round is left alone; an ACTIVE section opens a round, which with its line not IDLE waits for the arbiter
and with no eligible post closes at once; a SETTLING section returns to ACTIVE; a HIBERNATE one wakes with reason HOST and a
WAKING one adds it, with the round marked due; OFF refuses it SECTION_OFF (R107, R102, R105, R87, R89). -/
def Obligations.PollNowOpensOrMarksARound : Prop :=
  ∀ (h : Hdr) (s : State) (i : SectionId) (f : RequestForm),
    f = ⟨.pollNow, h, byte1 i.val, 1⟩ → s.Accepts f → (s.sec i).defn ≠ none →
    ((s.sec i).power = .off → exec (.pollNow h i.val) s = .next (s.answers f .sectionOff .nothing)) ∧
    ((s.sec i).power = .active → (s.sec i).round ≠ none →
      exec (.pollNow h i.val) s = .next (s.answers f .ok (.pollNow .alreadyOpen))) ∧
    ((s.sec i).power = .active → (s.sec i).round = none →
      ∃ t : State, exec (.pollNow h i.val) s = .next (t.replied f .ok (.pollNow .opened)) ∧
        ((∃ a : Addr, 1 ≤ a.val ∧ s.eligibleAddr i a = true) → (s.sec i).line ≠ .idle →
          t = (s.taking f).setSec i { s.sec i with round := some ⟨1, none, 0, 0, 0⟩ }) ∧
        (∀ a : Addr, 1 ≤ a.val → s.eligibleAddr i a = true → (∀ b : Addr, 1 ≤ b.val → b < a → s.eligibleAddr i b = false) →
          (s.sec i).line = .idle → (s.sec i).pairFree = true → (s.sec i).slot = none → (s.sec i).queue = [] →
          s.silent = false →
          (t.sec i).line = .owned ∧ (t.sec i).inFlight = some ⟨.poll, a, .round, 0, 0, 0, false⟩ ∧
          (t.sec i).round = some ⟨a.val, none, 0, 0, 0⟩ ∧
          (t.sec i).exch = .lead ⟨(s.sec i).syncWord, .lead, [⟨a, .poll⟩]⟩ ⟨s.nowMs, 20⟩) ∧
        ((∀ a : Addr, 1 ≤ a.val → s.eligibleAddr i a = false) →
          s.TellsFirst t [.roundDone i (s.sec i).overrun 0 0 0] ∧ (t.sec i).round = none ∧ (t.sec i).overrun = false) ∧
        (s.taking f).SameLink t ∧ s.SameSettings t ∧ s.SameDirectory t ∧ s.SameCalls t ∧ s.SameOtherSections i t) ∧
    (∀ part, (s.sec i).power = .settling part →
      ∃ t : State, exec (.pollNow h i.val) s = .next (t.replied f .ok (.pollNow .opened)) ∧ (t.sec i).power = .active ∧
        (t.sec i).settleTimer = none ∧ (t.sec i).line ≠ .down ∧ (s.taking f).SameLink t ∧ s.SameSettings t ∧ s.SameDirectory t ∧
        s.SameOtherSections i t) ∧
    ((s.sec i).power = .hibernate →
      exec (.pollNow h i.val) s = .next
        (((s.taking f).setSec i { (s.sec i).woken s.nowMs ⟨false, true, false, false, false⟩ with roundDue := true }).replied f .ok
          (.pollNow .markedDue))) ∧
    (∀ ph, (s.sec i).power = .waking ph →
      exec (.pollNow h i.val) s = .next
        (((s.taking f).setSec i { s.sec i with roundDue := true, reasons := (s.sec i).reasons.add .host }).replied f .ok
          (.pollNow (if (s.sec i).roundDue then .alreadyDue else .markedDue))))

/-- MEASURE: a section whose MEASURE is pending or running refuses it MEASURE_PENDING; on an ACTIVE section whose path is
free, with the line IDLE and no carrier or in BREAK, it starts at once, the line in TESTING; a line that is busy takes it into
the slot; with the path held it waits for the path; a SETTLING section returns to ACTIVE, and it starts there or waits in the
same way; a section in HIBERNATE wakes and one in WAKING adds reason HOST, and it waits for ACTIVE (R116, R118, R119, R73,
R87, R89). That a busy line is told as at once, and the wait for ACTIVE where the path is held too, is log 18; that a carrier
in IDLE holds it back is log 11. -/
def Obligations.MeasureStartsOrWaits : Prop :=
  ∀ (h : Hdr) (s : State) (i : SectionId) (f : RequestForm),
    f = ⟨.measure, h, byte1 i.val, 1⟩ → s.Accepts f → (s.sec i).defn ≠ none → s.dispatchDue = false →
    ((s.sec i).power = .off → exec (.measure h i.val) s = .next (s.answers f .sectionOff .nothing)) ∧
    ((s.sec i).power ≠ .off → ((s.sec i).slot ≠ none ∨ (s.ltuOf i).running ≠ none) →
      exec (.measure h i.val) s = .next (s.answers f .measurePending .nothing)) ∧
    ((s.sec i).slot = none → (s.ltuOf i).running = none →
      ((s.sec i).power = .active → s.holder i ≠ none →
        ((s.sec i).line = .idle → (s.sec i).queue = [] ∧ (s.sec i).round = none) →
        exec (.measure h i.val) s =
          .next (((s.taking f).setSec i { s.sec i with slot := some .host }).replied f .ok (.measure .waitsForPath))) ∧
      ((s.sec i).power = .active → s.holder i = none →
        ((s.sec i).line ≠ .idle ∧ (s.sec i).line ≠ .brk) ∨ ((s.sec i).line = .idle ∧ (s.sec i).pairFree = false) →
        exec (.measure h i.val) s =
          .next (((s.taking f).setSec i { s.sec i with slot := some .host }).replied f .ok (.measure .startsAtOnce))) ∧
      (∀ part, (s.sec i).power = .settling part →
        ∃ t : State, exec (.measure h i.val) s =
            .next (t.replied f .ok (.measure (if s.holder i = none then .startsAtOnce else .waitsForPath))) ∧
          (t.sec i).power = .active ∧ (t.sec i).settleTimer = none ∧
          (s.holder i = none → (s.sec i).pairFree = true →
            (t.sec i).line = .testing ∧ (t.sec i).slot = none ∧ t.testSource i = true ∧
            t.ltuOf i = ⟨some ⟨.host, s.seconds, s.nowMs, []⟩, (s.ltuOf i).last⟩) ∧
          (s.holder i = none → (s.sec i).pairFree = false → (t.sec i).line = .idle ∧ (t.sec i).slot = some .host) ∧
          (s.holder i ≠ none → (t.sec i).slot = some .host ∧ t.ltuOf i = s.ltuOf i) ∧
          (s.taking f).SameLink t ∧ s.SameSettings t ∧ s.SameDirectory t ∧ s.SameOtherSections i t) ∧
      ((s.sec i).power = .active → s.holder i = none →
        ((s.sec i).line = .idle ∧ (s.sec i).pairFree = true) ∨ (s.sec i).line = .brk →
        ∃ t : State, exec (.measure h i.val) s = .next (t.replied f .ok (.measure .startsAtOnce)) ∧
          (t.sec i).line = .testing ∧ (t.sec i).slot = none ∧ t.testSource i = true ∧
          t.ltuOf i = ⟨some ⟨.host, s.seconds, s.nowMs, []⟩, (s.ltuOf i).last⟩ ∧ t.events = s.events ∧
          (s.taking f).OnlyLine i t) ∧
      ((s.sec i).power = .hibernate →
        exec (.measure h i.val) s = .next
          (((s.taking f).setSec i { (s.sec i).woken s.nowMs ⟨false, true, false, false, false⟩ with slot := some .host }).replied f
            .ok (.measure .waitsForActive))) ∧
      (∀ ph, (s.sec i).power = .waking ph → (s.sec i).line = .down →
        exec (.measure h i.val) s = .next
          (((s.taking f).setSec i { s.sec i with slot := some .host, reasons := (s.sec i).reasons.add .host }).replied f .ok
            (.measure .waitsForActive))))

/-- LAMP and MESSAGE put a host transaction for the post's address in its section's queue: a LAMP in the place of a queued
LAMP for the address, else at the tail; a section with six of them refuses QUEUE_FULL; a WAKING section adds reason HOST, a
HIBERNATE one wakes with it, a SETTLING one returns to ACTIVE, and an IDLE line free of carrier, with nothing before it, sends
it at once. The text is cut to 32 characters and made printable (R76, R195, R196, R73, R89, R57). -/
def Obligations.LampAndMessageJoinTheQueue : Prop :=
  ∀ (h : Hdr) (p : Nat) (s : State) (c : Fin 2) (e : PostEntry) (cmd : Instr) (f : RequestForm) (kind : TxnKind) (st : Status)
    (b : ReplyBody) (swap : Bool) (x : SectionCtl) (new : Txn) (joined : List Txn),
    ((∃ pat n, LampPattern.ofCode n = some pat ∧ cmd = .lamp h p n ∧ f = ⟨.lamp, h, byte2 p ++ byte1 n, 3⟩ ∧ kind = .lamp pat ∧
        swap = x.queue.any (fun u => u.kind.isLamp && u.addr == e.addr) ∧ st = .ok ∧ b = .lampTaken e.sec e.addr swap) ∨
      (∃ text done, cmd = .message h p text.length text ∧ f = ⟨.message, h, byte2 p ++ byte1 text.length ++ text, 3 + text.length⟩ ∧
        done = (text.take 32).map (fun ch : Byte => if 32 ≤ ch.toNat ∧ ch.toNat ≤ 126 then ch else 0x3F#8) ∧
        kind = .text done ∧ swap = false ∧ st = (if done = text then .ok else .okClamped) ∧
        b = .textTaken e.sec e.addr done (if done = [] then 1 else (done.length + 7) / 8))) →
    s.Accepts f → 1 ≤ p → p ≤ 59999 → s.lookup p = some (c, e) → x = s.sec e.sec → new = ⟨kind, e.addr, .host, 0, 0, 0, false⟩ →
    joined = (if swap then x.queue.map (fun u => if u.kind.isLamp = true ∧ u.addr = e.addr then new else u)
      else x.queue ++ [new]) →
    s.dispatchDue = false →
    (x.power = .off → exec cmd s = .next (s.answers f .sectionOff .nothing)) ∧
    (x.power ≠ .off → swap = false → 6 ≤ x.hostCount → exec cmd s = .next (s.answers f .queueFull .nothing)) ∧
    (swap = true ∨ x.hostCount < 6 →
      (x.power = .active → x.line ≠ .idle →
        exec cmd s = .next (((s.taking f).setSec e.sec { x with queue := joined }).replied f st b)) ∧
      (∀ ph, x.power = .waking ph → x.line = .down →
        exec cmd s = .next
          (((s.taking f).setSec e.sec { x with reasons := x.reasons.add .host, queue := joined }).replied f st b)) ∧
      (x.power = .hibernate →
        exec cmd s = .next (((s.taking f).setSec e.sec
          { x.woken s.nowMs ⟨false, true, false, false, false⟩ with queue := joined }).replied f st b)) ∧
      (∀ part, x.power = .settling part →
        ∃ t : State, exec cmd s = .next (t.replied f st b) ∧ (t.sec e.sec).power = .active ∧
          (t.sec e.sec).settleTimer = none ∧ (s.taking f).SameLink t ∧ s.SameSettings t ∧ s.SameDirectory t ∧
          s.SameOtherSections e.sec t) ∧
      (x.power = .active → x.line = .idle → x.pairFree = true → x.slot = none → x.queue = [] → s.silent = false →
        ∃ t : State, exec cmd s = .next (t.replied f st b) ∧ (t.sec e.sec).line = .owned ∧ (t.sec e.sec).inFlight = some new ∧
          (t.sec e.sec).exch = .lead ⟨x.syncWord, .lead, [new.stepRecord]⟩ ⟨s.nowMs, 20⟩ ∧ (t.sec e.sec).queue = [] ∧
          t.events = s.events ∧ (s.taking f).OnlyLine e.sec t))

/-! ## Channels and calls -/

/-- SET CHANNEL OUT takes a FREE or DOWN channel OUT and tells it, leaves an OUT one, and is refused CHANNEL_BUSY with the
call's reference by a busy one; SET CHANNEL IN brings an OUT channel back FREE or DOWN by its ready level and tells it, FREE
being an occasion for the dispatcher, and leaves any other; every reply carries the state found and the state left (R158,
R161). That the state left is FREE where the dispatcher then offers a call on the channel is log 43. -/
def Obligations.SetChannelTakesAChannelOutAndIn : Prop :=
  ∀ (h : Hdr) (s : State) (c : ChanId) (x : Channel) (f : RequestForm), x = s.chan c →
    (f = ⟨.setChannel, h, byte1 c.val ++ byte1 1, 2⟩ → s.Accepts f →
      (x.state = .free ∨ x.state = .down →
        exec (.setChannelOut h c.val 1) s = .next
          ((((s.taking f).setChan c ⟨.out, x.ready, x.call⟩).post (.channelState c .out x.ready .setOut)).replied f .ok
            (.channelMove x.state .out))) ∧
      (x.state = .out → exec (.setChannelOut h c.val 1) s = .next (s.answers f .ok (.channelMove .out .out))) ∧
      (x.state.busy = true → ∀ r, x.call = some r →
        exec (.setChannelOut h c.val 1) s = .next (s.answers f .channelBusy (.channelBusy r x.state x.state)))) ∧
    (f = ⟨.setChannel, h, byte1 c.val ++ byte1 0, 2⟩ → s.Accepts f →
      (x.state ≠ .out → exec (.setChannelIn h c.val 0) s = .next (s.answers f .ok (.channelMove x.state x.state))) ∧
      (x.state = .out → x.ready = false →
        exec (.setChannelIn h c.val 0) s = .next
          ((((s.taking f).setChan c ⟨.down, false, none⟩).post (.channelState c .down false .setIn)).replied f .ok
            (.channelMove .out .down))) ∧
      (x.state = .out → x.ready = true →
        exec (.setChannelIn h c.val 0) s = .next
          (({ ((s.taking f).setChan c ⟨.free, true, none⟩).post (.channelState c .free true .setIn) with
              dispatchDue := true }.finish).replied f .ok (.channelMove .out .free))))

/-- ANSWER connects an OFFERED call on its own channel, PICK an eligible QUEUED call and RETRIEVE a PARKED one on the channel
they get: channel, path, join, CALL_CONNECTED, and the CONNECT notice to the post, which an IDLE line free of carrier with
nothing before it sends at once. They are refused in order BAD_FIELD for reference 0 or a channel out of range, NO_SUCH_CALL
for a reference of no live call, WRONG_CALL_STATE, for PICK PATH_BUSY for a call that is not eligible, CHANNEL_BUSY for a
named channel that is not FREE, and NO_CHANNEL where none is named and none FREE, each with the state of a call that exists
(R162, R165, R166, R167, R169, R75). -/
def Obligations.AnswerPickAndRetrieveConnect : Prop :=
  (∀ (h : Hdr) (r n : Nat) (s : State) (cmd : Instr) (f : RequestForm), s.Accepts f →
    (cmd = .answer h r ∧ f = ⟨.answer, h, byte2 r, 2⟩ ∧ n = 0xFF ∨ cmd = .pick h r n ∧ f = ⟨.pick, h, byte2 r ++ byte1 n, 3⟩ ∨
      cmd = .retrieve h r n ∧ f = ⟨.retrieve, h, byte2 r ++ byte1 n, 3⟩) →
    (r = 0 → exec cmd s = .next (s.answers f .badField .nothing)) ∧
    (r ≠ 0 → s.findCall r = none →
      exec cmd s = .next (s.answers f (if n < 4 ∨ n = 0xFF then .noSuchCall else .badField) .nothing)) ∧
    (r ≠ 0 → ∀ c, s.findCall r = some c →
      (4 ≤ n → n ≠ 0xFF → exec cmd s = .next (s.answers f .badField (.callFound c.state))) ∧
      (cmd = .pick h r n → c.state = .queued → n < 4 ∨ n = 0xFF →
        ¬((s.holder c.sec = none ∨ s.holder c.sec = some c.ref) ∧ (s.sec c.sec).power = .active) →
        exec cmd s = .next (s.answers f .pathBusy (.callFound .queued))) ∧
      ((cmd = .pick h r n ∧ c.state = .queued ∧ (s.holder c.sec = none ∨ s.holder c.sec = some c.ref) ∧
          (s.sec c.sec).power = .active) ∨ (cmd = .retrieve h r n ∧ c.state = .parked) →
        (n = 0xFF → (∀ d, (s.chan d).state ≠ .free) →
          exec cmd s = .next (s.answers f .noChannel (.callFound c.state))) ∧
        (∀ d : ChanId, n = d.val → (s.chan d).state ≠ .free →
          exec cmd s = .next (s.answers f .channelBusy (.callFound c.state)))))) ∧
  ∀ (h : Hdr) (r n : Nat) (s : State) (c : Call) (ch : ChanId) (cmd : Instr) (f : RequestForm),
    s.Accepts f → r ≠ 0 → s.findCall r = some c →
    (cmd = .answer h r ∧ f = ⟨.answer, h, byte2 r, 2⟩ ∨ cmd = .pick h r n ∧ f = ⟨.pick, h, byte2 r ++ byte1 n, 3⟩ ∨
      cmd = .retrieve h r n ∧ f = ⟨.retrieve, h, byte2 r ++ byte1 n, 3⟩) → (n < 4 ∨ n = 0xFF) →
    (((cmd = .answer h r ∧ c.state ≠ .offered) ∨ (cmd = .pick h r n ∧ c.state ≠ .queued) ∨
        (cmd = .retrieve h r n ∧ c.state ≠ .parked)) →
      exec cmd s = .next (s.answers f .wrongCallState (.callFound c.state))) ∧
    (((cmd = .answer h r ∧ c.state = .offered ∧ c.channel = some ch) ∨
        (cmd = .pick h r n ∧ c.state = .queued ∧ (s.holder c.sec = none ∨ s.holder c.sec = some r) ∧ s.ChannelFor n ch) ∨
        (cmd = .retrieve h r n ∧ c.state = .parked ∧ s.ChannelFor n ch)) →
      (s.sec c.sec).power = .active → s.RefLaw → s.dispatchDue = false →
      ∃ t : State, exec cmd s = .next (t.replied f .ok (.callLeft .connected (some ch))) ∧
        t.findCall r = some { c with state := .connected, channel := some ch, connectedSince := some s.seconds,
                                     offerTimer := none, ringTimer := none } ∧
        (∀ q, q ≠ r → t.findCall q = s.findCall q) ∧
        (∀ d, t.chan d = if d = ch then ⟨.connected, (s.chan ch).ready, some r⟩ else s.chan d) ∧
        (∀ j, t.holder j = if j = c.sec then some r else s.holder j) ∧
        (∀ j, t.join j = if j = c.sec then .channel ch else s.join j) ∧
        t.history = s.history ∧ t.nextRef = s.nextRef ∧ t.fullEpisode = s.fullEpisode ∧
        s.TellsFirst t [.callConnected r ch] ∧
        ((s.sec c.sec).line ≠ .idle →
          s.Tells t [.callConnected r ch] ∧ t.secs = (s.modQueue c.sec (joinNotice ⟨.connect, c.addr, .call r, 0, 0, 0, false⟩)).secs) ∧
        ((s.sec c.sec).line = .idle → (s.sec c.sec).pairFree = true → (s.sec c.sec).slot = none →
          (s.sec c.sec).queue = [] → s.silent = false →
          (t.sec c.sec).line = .owned ∧ (t.sec c.sec).inFlight = some ⟨.connect, c.addr, .call r, 0, 0, 0, false⟩) ∧
        (s.taking f).SameLink t ∧ s.SameSettings t ∧ s.SameDirectory t ∧ s.SameOtherSections c.sec t)

/-- PARK releases the channel of a CONNECTED call, closes off its connected time, keeps its path with the join at TONE, tells
CALL_PARKED and gives the post a PARKED notice; a call in another state is refused WRONG_CALL_STATE (R168, R133, R157). -/
def Obligations.ParkKeepsThePathAndFreesTheChannel : Prop :=
  ∀ (h : Hdr) (r : Nat) (s : State) (c : Call) (f : RequestForm), f = ⟨.park, h, byte2 r, 2⟩ → s.Accepts f → r ≠ 0 →
    s.findCall r = some c →
    (c.state ≠ .connected → exec (.park h r) s = .next (s.answers f .wrongCallState (.callFound c.state))) ∧
    (∀ ch, c.state = .connected → c.channel = some ch → (s.sec c.sec).power = .active → s.RefLaw →
      s.holder c.sec = some r →
      ∃ t : State, exec (.park h r) s = .next (t.replied f .ok (.callLeft .parked none)) ∧
        t.findCall r = some { c with state := .parked, channel := none, connectedSince := none,
                                     connectedTotal := c.connectedSeconds s.seconds } ∧
        t.holder c.sec = some r ∧ t.join c.sec = .tone ∧ s.TellsFirst t [.callParked r ch] ∧
        (s.globals.autoOffer = false →
          (∀ q, q ≠ r → t.findCall q = s.findCall q) ∧
          (∀ d, t.chan d = if d = ch then ⟨if (s.chan ch).ready then .free else .down, (s.chan ch).ready, none⟩
            else s.chan d) ∧ (∀ j, j ≠ c.sec → t.holder j = s.holder j ∧ t.join j = s.join j)) ∧
        ((s.sec c.sec).line ≠ .idle →
          t.secs = (s.modQueue c.sec (joinNotice ⟨.parked, c.addr, .call r, 0, 0, 0, false⟩)).secs) ∧
        t.history = s.history ∧ t.nextRef = s.nextRef ∧ t.fullEpisode = s.fullEpisode ∧
        (s.taking f).SameLink t ∧ s.SameSettings t ∧ s.SameDirectory t ∧ s.SameOtherSections c.sec t)

/-- CLEAR ends a call in every state but ABANDONED, DISMISS an ABANDONED one: it leaves the table, its history record comes
first in a history of 16, CALL_ENDED is told first, the full episode ends, the post gets CLEAR or, from RINGING, RING STOP;
with auto-offer off what it held is free and no other call changes; the other state is refused WRONG_CALL_STATE (R170, R148,
R145, R146, R150). -/
def Obligations.ClearAndDismissEndACall : Prop :=
  ∀ (h : Hdr) (r : Nat) (s : State) (c : Call) (cmd : Instr) (f : RequestForm) (cause : EndCause),
    (cmd = .clear h r ∧ f = ⟨.clear, h, byte2 r, 2⟩ ∧ cause = .clearedByControl ∨
      cmd = .dismiss h r ∧ f = ⟨.dismiss, h, byte2 r, 2⟩ ∧ cause = .dismissed) →
    s.Accepts f → r ≠ 0 → s.findCall r = some c →
    ((cmd = .clear h r ∧ c.state = .abandoned) ∨ (cmd = .dismiss h r ∧ c.state ≠ .abandoned) →
      exec cmd s = .next (s.answers f .wrongCallState (.callFound c.state))) ∧
    ((cmd = .clear h r ∧ c.state ≠ .abandoned) ∨ (cmd = .dismiss h r ∧ c.state = .abandoned) →
      ∃ t : State, exec cmd s = .next (t.replied f .ok (.callOver (c.connectedSeconds s.seconds))) ∧
        t.findCall r = none ∧
        t.history = (⟨r, c.post, c.sec, c.addr, c.direction, c.arrival, s.seconds, cause, c.connectedSeconds s.seconds⟩ ::
          s.history).take 16 ∧
        t.fullEpisode = false ∧ t.nextRef = s.nextRef ∧
        s.TellsFirst t [.callEnded r c.post c.sec c.addr c.direction cause (c.connectedSeconds s.seconds)] ∧
        (∀ q, q ≠ r → (t.findCall q).isSome = (s.findCall q).isSome) ∧
        (s.globals.autoOffer = false →
          (∀ q, q ≠ r → t.findCall q = s.findCall q) ∧
          (s.holder c.sec = some r → t.holder c.sec = none ∧ t.join c.sec = .nothing) ∧
          (∀ ch, c.channel = some ch →
            t.chan ch = ⟨if (s.chan ch).ready then .free else .down, (s.chan ch).ready, none⟩)) ∧
        ((s.sec c.sec).power = .active → (s.sec c.sec).line ≠ .idle → (s.sec c.sec).line ≠ .brk →
          t.secs = (s.modQueue c.sec (joinNotice
            ⟨if c.state = .ringing then .ringStop else .clear, c.addr, .call r, 0, 0, 0, false⟩)).secs) ∧
        (s.taking f).SameLink t ∧ s.SameSettings t ∧ s.SameDirectory t ∧ s.SameOtherSections c.sec t)

/-- CALL POST rings a post with no live call and a free path on the channel it gets: a new OUTBOUND call with a reference that
no live call has, placed as its slot says, CALL_NEW first; in a full table the oldest ABANDONED call is evicted for it, told
first; or the post's ABANDONED call turned OUTBOUND under its reference. Channel RINGING, ring timer started, path held, and
RING given to the post: queued on a busy or waking section, sent at once on a free IDLE line, waking a HIBERNATE section and
returning a SETTLING one. Another live call refuses it POST_HAS_CALL, a held path PATH_BUSY, a full table with no ABANDONED
call TABLE_FULL, and OFF SECTION_OFF (R171, R172, R139, R149, R131, R75, R73, R87, R89). -/
def Obligations.CallPostRingsThePost : Prop :=
  ∀ (h : Hdr) (p n : Nat) (s : State) (k : Fin 2) (e : PostEntry) (f : RequestForm),
    f = ⟨.callPost, h, byte2 p ++ byte1 n, 3⟩ → s.Accepts f → (n < 4 ∨ n = 0xFF) → 1 ≤ p → p ≤ 59999 →
    s.lookup p = some (k, e) →
    ((s.sec e.sec).power = .off → exec (.callPost h p n) s = .next (s.answers f .sectionOff .nothing)) ∧
    ((s.sec e.sec).power ≠ .off →
      (∀ c, s.callAt e.sec e.addr = some c → c.state ≠ .abandoned →
        exec (.callPost h p n) s = .next (s.answers f .postHasCall (.callRef c.ref))) ∧
      ((∀ c, s.callAt e.sec e.addr = some c → c.state = .abandoned) → s.holder e.sec ≠ none →
        exec (.callPost h p n) s = .next (s.answers f .pathBusy .nothing)) ∧
      ((∀ c, s.callAt e.sec e.addr = some c → c.state = .abandoned) → s.holder e.sec = none →
        (n = 0xFF → (∀ d, (s.chan d).state ≠ .free) →
          exec (.callPost h p n) s = .next (s.answers f .noChannel .nothing)) ∧
        (∀ d : ChanId, n = d.val → (s.chan d).state ≠ .free →
          exec (.callPost h p n) s = .next (s.answers f .channelBusy .nothing))) ∧
      (∀ ch, s.holder e.sec = none → s.ChannelFor n ch →
        (s.callAt e.sec e.addr = none → 32 ≤ s.calls.length → (∀ d ∈ s.calls, d.state ≠ .abandoned) →
          exec (.callPost h p n) s = .next (s.answers f .tableFull .nothing)) ∧
        (s.callAt e.sec e.addr = none → (s.calls.length < 32 → s.RefLaw) → (32 ≤ s.calls.length → s.CallLaw) →
          s.calls.length < 32 ∨ (∃ v, s.OldestAbandoned v) →
          ∃ (t : State) (c : Call), exec (.callPost h p n) s = .next (t.replied f .ok (.ringing c.ref true)) ∧
            t.findCall c.ref = some c ∧ c.direction = .outbound ∧ c.origin = .host ∧ c.sec = e.sec ∧ c.addr = e.addr ∧
            c.state = .ringing ∧ c.arrival = s.seconds ∧ c.boost = 0 ∧ c.channel = some ch ∧ c.connectedTotal = 0 ∧
            c.ringTimer = some ⟨s.nowMs, 1000 * s.globals.ringTimeout⟩ ∧ c.PlacedBy s e.sec e.addr ∧
            t.nextRef = (if c.ref = 65535 then 1 else c.ref + 1) ∧
            t.chan ch = ⟨.ringing, (s.chan ch).ready, some c.ref⟩ ∧ t.holder e.sec = some c.ref ∧
            t.join e.sec = .nothing ∧
            (⟨.ring, e.addr, .call c.ref, 0, 0, 0, false⟩ ∈ (t.sec e.sec).queue ∨
              (t.sec e.sec).inFlight = some ⟨.ring, e.addr, .call c.ref, 0, 0, 0, false⟩) ∧
            (s.calls.length < 32 →
              (∀ d ∈ s.calls, d.ref ≠ c.ref) ∧ s.TellsFirst t [c.newTold] ∧ t.history = s.history ∧
              (s.sec e.sec).GivenNotice (t.sec e.sec) ⟨.ring, e.addr, .call c.ref, 0, 0, 0, false⟩ s.silent s.nowMs ∧
              s.SameOtherSections e.sec t) ∧
            (∀ v, 32 ≤ s.calls.length → s.OldestAbandoned v →
              (∀ d ∈ s.calls, d.ref ≠ v.ref → d.ref ≠ c.ref) ∧ s.TellsFirst t [s.evictTold v, c.newTold] ∧
              s.Evicts t e.sec v ∧
              (v.sec ≠ e.sec →
                (s.sec e.sec).GivenNotice (t.sec e.sec) ⟨.ring, e.addr, .call c.ref, 0, 0, 0, false⟩ s.silent s.nowMs)) ∧
            (s.taking f).SameLink t ∧ s.SameSettings t ∧ s.SameDirectory t) ∧
        (∀ c, s.callAt e.sec e.addr = some c → c.state = .abandoned → s.RefLaw →
          ∃ t : State, exec (.callPost h p n) s = .next (t.replied f .ok (.ringing c.ref false)) ∧
            t.findCall c.ref = some { c with direction := .outbound, state := .ringing, channel := some ch,
                                             ringTimer := some ⟨s.nowMs, 1000 * s.globals.ringTimeout⟩ } ∧
            t.chan ch = ⟨.ringing, (s.chan ch).ready, some c.ref⟩ ∧ t.holder e.sec = some c.ref ∧
            t.join e.sec = .nothing ∧ t.nextRef = s.nextRef ∧ t.history = s.history ∧
            (⟨.ring, e.addr, .call c.ref, 0, 0, 0, false⟩ ∈ (t.sec e.sec).queue ∨
              (t.sec e.sec).inFlight = some ⟨.ring, e.addr, .call c.ref, 0, 0, 0, false⟩) ∧
            (s.sec e.sec).GivenNotice (t.sec e.sec) ⟨.ring, e.addr, .call c.ref, 0, 0, 0, false⟩ s.silent s.nowMs ∧
            (s.dispatchDue = false → (∀ part, (s.sec e.sec).power ≠ .settling part) → t.events = s.events) ∧
            (s.taking f).SameLink t ∧ s.SameSettings t ∧ s.SameDirectory t ∧ s.SameOtherSections e.sec t)))

/-- The offer timer of an OFFERED call runs out: the call is requeued with its boost raised by 2 up to 6, its channel
released, its path kept and CALL_REQUEUED told first; with auto-offer off it waits in QUEUED with its path at TONE, else the
dispatcher may offer it again. A call that is not OFFERED is passed over (R164, R161; the passing over is log 3). The ring
timer of a RINGING call runs out: the call ends NO_ANSWER, with its history record first and CALL_ENDED told first (R173,
R145, R150); a call that is not RINGING is passed over (log 3). That the millisecond time reaches the timer's end is log 1. -/
def Obligations.CallTimersRequeueOrEndTheCall : Prop :=
  (∀ (r : Nat) (s : State) (c : Call), s.findCall r = some c →
    (c.state ≠ .offered → exec (.offerTimeout r) s = .next s) ∧
    (∀ ch tm, c.state = .offered → c.channel = some ch → c.offerTimer = some tm → s.RefLaw → s.holder c.sec = some r →
      ∃ (t : State) (d : Call), exec (.offerTimeout r) s = .next t ∧ t.nowMs = max s.nowMs (tm.start + tm.dur) ∧
        t.findCall r = some d ∧ d.boost = min 6 (c.boost + 2) ∧ (d.state = .queued ∨ d.state = .offered) ∧
        d.arrival = c.arrival ∧ t.holder c.sec = some r ∧
        s.TellsFirst t [.callRequeued r .offerTimeout (min 6 (c.boost + 2)) (some ch)] ∧
        (s.globals.autoOffer = false →
          d = { c with state := .queued, boost := min 6 (c.boost + 2), channel := none, offerTimer := none,
                       connectedSince := none, connectedTotal := c.connectedSeconds s.seconds } ∧
          t.join c.sec = .tone ∧
          t.chan ch = ⟨if (s.chan ch).ready then .free else .down, (s.chan ch).ready, none⟩ ∧
          ∀ q, q ≠ r → t.findCall q = s.findCall q) ∧
        t.history = s.history ∧ t.nextRef = s.nextRef ∧ t.mode = s.mode ∧ t.globals = s.globals ∧ t.seconds = s.seconds ∧
        s.SameLink t ∧ s.SameReply t ∧ s.SameDirectory t ∧ s.SameOtherSections c.sec t)) ∧
  (∀ (r : Nat) (s : State) (c : Call), s.findCall r = some c →
    (c.state ≠ .ringing → exec (.ringTimeout r) s = .next s) ∧
    (∀ tm, c.state = .ringing → c.ringTimer = some tm →
      ∃ t : State, exec (.ringTimeout r) s = .next t ∧ t.nowMs = max s.nowMs (tm.start + tm.dur) ∧ t.findCall r = none ∧
        t.history = (⟨r, c.post, c.sec, c.addr, c.direction, c.arrival, s.seconds, .noAnswer, c.connectedSeconds s.seconds⟩ ::
          s.history).take 16 ∧
        s.TellsFirst t [.callEnded r c.post c.sec c.addr c.direction .noAnswer (c.connectedSeconds s.seconds)] ∧
        ((s.sec c.sec).power = .active → (s.sec c.sec).line ≠ .idle → (s.sec c.sec).line ≠ .brk →
          t.secs = (s.modQueue c.sec (joinNotice ⟨.ringStop, c.addr, .call r, 0, 0, 0, false⟩)).secs) ∧
        (∀ q, q ≠ r → (t.findCall q).isSome = (s.findCall q).isSome) ∧ t.nextRef = s.nextRef ∧ t.fullEpisode = false ∧
        t.mode = s.mode ∧ t.globals = s.globals ∧ t.seconds = s.seconds ∧ s.SameLink t ∧ s.SameReply t ∧
        s.SameDirectory t ∧ s.SameOtherSections c.sec t))

/-- The ready level of a channel falls: a FREE channel goes DOWN and tells it, an OUT one only notes the level, and a busy one
goes DOWN with its call requeued, its path's join at TONE and its post given PARKED, or, from RINGING, ended CHANNEL_LOST with
RING STOP, and CHANNEL_STATE DOWN told after the call's own event; it rises: a DOWN channel goes FREE, tells it and gives the
dispatcher its occasion, and any other only notes the level (R156, R157, R164, R173, R161, R75, R145, R150). That a level
which stands already changes nothing is log 3. -/
def Obligations.ReadyLevelsMoveChannels : Prop :=
  ∀ (s : State) (ch : ChanId) (x : Channel), x = s.chan ch →
    (x.ready = true → x.state = .free →
      exec (.readyLost ch) s = .next ((s.setChan ch ⟨.down, false, x.call⟩).post (.channelState ch .down false .readyLost))) ∧
    (x.ready = true → x.state = .out → exec (.readyLost ch) s = .next (s.setChan ch ⟨.out, false, x.call⟩)) ∧
    (x.ready = true → s.CallLaw → s.dispatchDue = false → ∀ r c, x.call = some r → s.findCall r = some c →
      ∃ t : State, exec (.readyLost ch) s = .next t ∧ t.chan ch = ⟨.down, false, none⟩ ∧
        (c.state = .ringing →
          t.findCall r = none ∧
          t.history = (⟨r, c.post, c.sec, c.addr, c.direction, c.arrival, s.seconds, .channelLost,
            c.connectedSeconds s.seconds⟩ :: s.history).take 16 ∧
          ((s.sec c.sec).power = .active → (s.sec c.sec).line ≠ .idle → (s.sec c.sec).line ≠ .brk →
            t.secs = (s.modQueue c.sec (joinNotice ⟨.ringStop, c.addr, .call r, 0, 0, 0, false⟩)).secs) ∧
          s.TellsFirst t [.callEnded r c.post c.sec c.addr c.direction .channelLost (c.connectedSeconds s.seconds),
            .channelState ch .down false .readyLost]) ∧
        (c.state = .offered ∨ c.state = .connected →
          (∃ d, t.findCall r = some d ∧ d.boost = min 6 (c.boost + 2)) ∧ t.holder c.sec = some r ∧
          (s.sec c.sec).GivenNotice (t.sec c.sec) ⟨.parked, c.addr, .call r, 0, 0, 0, false⟩ s.silent s.nowMs ∧
          s.TellsFirst t [.callRequeued r .channelLost (min 6 (c.boost + 2)) (some ch),
            .channelState ch .down false .readyLost] ∧
          (s.globals.autoOffer = false →
            t.findCall r = some { c with state := .queued, boost := min 6 (c.boost + 2), channel := none, offerTimer := none,
                                         connectedSince := none, connectedTotal := c.connectedSeconds s.seconds } ∧
            t.join c.sec = .tone ∧ (∀ q, q ≠ r → t.findCall q = s.findCall q) ∧
            s.Tells t [.callRequeued r .channelLost (min 6 (c.boost + 2)) (some ch),
              .channelState ch .down false .readyLost])) ∧
        s.SameLink t ∧ s.SameReply t ∧ s.SameSettings t ∧ s.SameDirectory t ∧ s.SameOtherSections c.sec t) ∧
    (x.ready = false → x.state = .down →
      exec (.readyRegained ch) s = .next
        { (s.setChan ch ⟨.free, true, x.call⟩).post (.channelState ch .free true .readyRegained) with
          dispatchDue := true }.finish) ∧
    (x.ready = false → x.state ≠ .down → exec (.readyRegained ch) s = .next (s.setChan ch { x with ready := true })) ∧
    (x.ready = true → exec (.readyRegained ch) s = .next s) ∧ (x.ready = false → exec (.readyLost ch) s = .next s)

/-- An ageing step of a QUEUED call is an occasion for the dispatcher: with auto-offer on it offers the eligible call that
ranks first, by score, arrival and reference, on the lowest-numbered FREE channel: offer timer started, path held, join NONE,
CALL_OFFERED told first; with no FREE channel, no eligible call or auto-offer off nothing changes; a seconds count that is no
ageing step of the call is none (R35, R161, R162, R163; log 27). -/
def Obligations.AgeingStepLetsTheDispatcherOffer : Prop :=
  ∀ (r : Nat) (s : State) (c : Call), s.findCall r = some c → s.dispatchDue = false →
    (¬(c.state = .queued ∧ ∃ k, 1 ≤ k ∧ k ≤ 7 ∧ s.seconds = c.arrival + k * s.globals.ageing) → s.globals.ageing ≠ 0 →
      c.arrival ≤ s.seconds → exec (.ageingStep r) s = .next s) ∧
    (∀ k, c.state = .queued → 1 ≤ k → k ≤ 7 → s.globals.ageing ≠ 0 → s.seconds = c.arrival + k * s.globals.ageing →
      (s.globals.autoOffer = false → exec (.ageingStep r) s = .next s) ∧
      ((∀ d, (s.chan d).state ≠ .free) → exec (.ageingStep r) s = .next s) ∧
      ((∀ d ∈ s.calls, s.eligible d = false) → exec (.ageingStep r) s = .next s) ∧
      (∀ ch b, s.globals.autoOffer = true → (s.chan ch).state = .free → (∀ d, d < ch → (s.chan d).state ≠ .free) →
        b ∈ s.calls → s.eligible b = true → s.RefLaw →
        (∀ d ∈ s.calls, s.eligible d = true → d.ref ≠ b.ref →
          s.score d < s.score b ∨ (s.score d = s.score b ∧
            (b.arrival < d.arrival ∨ (b.arrival = d.arrival ∧ b.ref < d.ref)))) →
        ∃ t : State, exec (.ageingStep r) s = .next t ∧
          t.findCall b.ref = some { b with state := .offered, channel := some ch,
                                           offerTimer := some ⟨s.nowMs, 1000 * s.globals.offerTimeout⟩ } ∧
          t.chan ch = ⟨.offering, (s.chan ch).ready, some b.ref⟩ ∧ t.holder b.sec = some b.ref ∧
          t.join b.sec = .nothing ∧
          s.TellsFirst t [.callOffered b.ref ch (s.score b) b.post b.sec b.location] ∧
          t = { s with calls := t.calls, channels := t.channels, holders := t.holders, joins := t.joins,
                       events := t.events }))

/-! ## The timebase, and the power states of a section -/

/-- SECONDS_TICK raises the seconds count by one, and at 4,294,967,295 it stays (R178); that the millisecond time keeps step
is the model's choice (log 1). Nothing else changes. The model's own choice (log 1): a step on an empty queue lets one
millisecond pass and changes nothing else. -/
def Obligations.TimePassesBySecondsAndByIdleSteps : Prop :=
  (∀ s : State,
    (s.seconds < 4294967295 → ∃ t : State, exec .secondsTick s = .next t ∧ t.seconds = s.seconds + 1 ∧
      t = { s with seconds := t.seconds, nowMs := t.nowMs } ∧ s.nowMs ≤ t.nowMs) ∧
    (s.seconds = 4294967295 → ∃ t : State, exec .secondsTick s = .next t ∧ t.seconds = 4294967295 ∧
      t = { s with nowMs := t.nowMs } ∧ s.nowMs ≤ t.nowMs)) ∧
  (∀ s : State, s.pending = [] → step s = .next { s with nowMs := s.nowMs + 1 })

/-- The poll countdown runs out when the seconds count has reached the due time of a section in service, and the next due time
stands one period later: an ACTIVE section with an open round notes an overrun, one without opens a round, a SETTLING one
returns to ACTIVE, a HIBERNATE one wakes with reason SCHEDULE and a WAKING one adds it, with the round marked due and an
overrun where it was marked already; OFF changes nothing (R99, R100), and a due time not reached neither (log 3). -/
def Obligations.PollCountdownOpensMarksOrOverruns : Prop :=
  ∀ (s : State) (i : SectionId) (d : Nat) (x : SectionCtl), x = s.sec i → x.due = some d →
    ((s.seconds < d ∨ x.power = .off) → exec (.pollCountdownExpiry i) s = .next s) ∧
    (d ≤ s.seconds →
      (x.power = .active → x.round ≠ none →
        exec (.pollCountdownExpiry i) s = .next (s.setSec i { x with due := some (d + x.timingD.period), overrun := true })) ∧
      (x.power = .active → x.round = none →
        ∃ t : State, exec (.pollCountdownExpiry i) s = .next t ∧ (t.sec i).due = some (d + x.timingD.period) ∧
          ((∃ a : Addr, 1 ≤ a.val ∧ s.eligibleAddr i a = true) → x.line ≠ .idle →
            t = s.setSec i { x with due := some (d + x.timingD.period), round := some ⟨1, none, 0, 0, 0⟩ }) ∧
          ((∀ a : Addr, 1 ≤ a.val → s.eligibleAddr i a = false) →
            s.TellsFirst t [.roundDone i x.overrun 0 0 0] ∧ (t.sec i).round = none ∧ (t.sec i).overrun = false) ∧
          s.OnlyLine i t) ∧
      (∀ part, x.power = .settling part →
        ∃ t : State, exec (.pollCountdownExpiry i) s = .next t ∧ (t.sec i).power = .active ∧ (t.sec i).settleTimer = none ∧
          (t.sec i).due = some (d + x.timingD.period) ∧ s.SameLink t ∧ s.SameReply t ∧ s.SameSettings t ∧
          s.SameDirectory t ∧ s.SameOtherSections i t) ∧
      (x.power = .hibernate →
        exec (.pollCountdownExpiry i) s = .next (s.setSec i
          { x.woken s.nowMs ⟨false, false, false, true, false⟩ with
            due := some (d + x.timingD.period), overrun := x.overrun || x.roundDue, roundDue := true })) ∧
      (∀ ph, x.power = .waking ph →
        exec (.pollCountdownExpiry i) s = .next (s.setSec i
          { x with due := some (d + x.timingD.period), overrun := x.overrun || x.roundDue, roundDue := true,
                   reasons := x.reasons.add .schedule })))

/-- An ACTIVE section whose definition enables hibernation and which meets every condition of the hibernation rule enters
SETTLING and sends the SHUTDOWN burst, the line going DOWN; one condition missing, nothing changes (R84, R85; log 28 for the
conditions and the passing over; the RESET input not held, log 8). The burst sent, the 1 s settle starts (R85). -/
def Obligations.SettlingBeginsWhenEveryConditionHolds : Prop :=
  ∀ (s : State) (i : SectionId) (x : SectionCtl), x = s.sec i →
    (∀ d t0, x.defn = some d → s.silent = false →
      (d.hibernate = true ∧ x.power = .active ∧ x.line = .idle ∧ x.pairFree = true ∧ x.space = false ∧ x.episode = false ∧
        x.queue = [] ∧ x.slot = none ∧ x.round = none ∧ x.roundDue = false ∧ s.holder i = none ∧
        (∀ c ∈ s.calls, c.sec = i → c.state = .abandoned) ∧ x.idleSince = some t0 ∧
        t0 + 1000 * x.timingD.idleHold ≤ s.nowMs) →
      exec (.enterSettling i) s = .next (s.setSec i { x with
        power := .settling .shutdown, line := .down, exch := .shutdown ⟨d.sync, .absent, [⟨0, .shutdown⟩]⟩, idleSince := none,
        stuckTimer := none, breakTimer := none, quietTimer := none })) ∧
    (∀ d, x.defn = some d →
      (d.hibernate = false ∨ x.power ≠ .active ∨ x.line ≠ .idle ∨ x.pairFree = false ∨ x.space = true ∨ x.episode = true ∨
        x.queue ≠ [] ∨ x.slot ≠ none ∨ x.round ≠ none ∨ x.roundDue = true ∨ s.holder i ≠ none ∨
        (∃ c ∈ s.calls, c.sec = i ∧ c.state ≠ .abandoned) ∨
        (∀ t0, x.idleSince = some t0 → s.nowMs < t0 + 1000 * x.timingD.idleHold)) →
      exec (.enterSettling i) s = .next s) ∧
    (∀ b, x.power = .settling .shutdown → x.exch = .shutdown b →
      exec (.shutdownSent i) s = .next (s.setSec i { x with
        power := .settling .settle, exch := .quiet, settleTimer := some ⟨s.nowMs, 1000⟩, stuckTimer := none,
        breakTimer := none, quietTimer := none }))

/-- The settle completes: the section hibernates and SECTION_STATE HIBERNATE is told; off-hook current present at that moment,
or seen later in HIBERNATE, takes it to WAKING with reason POST; in every other power state off-hook current is passed over
(R85, R88). That the millisecond time reaches the settle's end, at which the wake starts, is log 1. -/
def Obligations.SettleEndsInHibernateAndOffHookWakes : Prop :=
  ∀ (s : State) (i : SectionId) (x : SectionCtl), x = s.sec i →
    (∀ tm, x.power = .settling .settle → x.settleTimer = some tm →
      (∃ t : State, exec (.settleTimerExpiry i false) s = .next t ∧
        t.sec i = { x with power := .hibernate, settleTimer := none, stuckTimer := none, breakTimer := none,
                           quietTimer := none } ∧
        s.Tells t [.sectionState i .hibernate ⟨false, false, false, false, false⟩] ∧
        t = { s with nowMs := max s.nowMs (tm.start + tm.dur), secs := t.secs, events := t.events } ∧
        ∀ j, j ≠ i → t.sec j = s.sec j) ∧
      (∃ t : State, exec (.settleTimerExpiry i true) s = .next t ∧
        t.sec i = { x with settleTimer := none }.woken (max s.nowMs (tm.start + tm.dur)) ⟨true, false, false, false, false⟩ ∧
        s.Tells t [.sectionState i .hibernate ⟨false, false, false, false, false⟩] ∧
        t = { s with nowMs := max s.nowMs (tm.start + tm.dur), secs := t.secs, events := t.events } ∧
        ∀ j, j ≠ i → t.sec j = s.sec j)) ∧
    (x.power = .hibernate →
      exec (.offHookDetected i) s = .next (s.setSec i (x.woken s.nowMs ⟨true, false, false, false, false⟩))) ∧
    (x.power ≠ .hibernate → exec (.offHookDetected i) s = .next s)

/-- POWER-UP ends in ANNOUNCE with its 200 ms and its burst (R90, R91): on the pair that is one FILLER record or more, each
addressed to 0 with 0 to 8 bytes and a good CRC-8, and, FILLER discarded, a burst with no records (R91, R41; which records
those are is log 17). ANNOUNCE ends in ACTIVE: pending timing applied, SECTION_STATE ACTIVE told with the reasons, which are
emptied, and a round opened where one was marked due (R91; the order for the pending record R63). That the millisecond time
reaches the end of each phase, at which the next timer and the idle-since time stand, is log 1. -/
def Obligations.WakeSequenceEndsInActive : Prop :=
  ∀ (s : State) (i : SectionId) (x : SectionCtl) (tm : Timer), x = s.sec i → x.wakeTimer = some tm →
    (x.power = .waking .powerUp → s.silent = false →
      exec (.powerUpEnd i) s = .next ({ s with nowMs := max s.nowMs (tm.start + tm.dur) }.setSec i { x with
        power := .waking .announce, wakeTimer := some ⟨max s.nowMs (tm.start + tm.dur), 200⟩,
        exch := .announce ⟨x.syncWord, .addressed 0, []⟩, stuckTimer := none, breakTimer := none, quietTimer := none })) ∧
    (∀ (b : Burst) (rs : List LineRec), b = ⟨x.syncWord, .addressed 0, []⟩ → b.admits rs = true →
      rs ≠ [] ∧ (∀ r, r ∈ rs → r.kind = 0x0C#8 ∧ r.addr = 0#8 ∧ r.payload.length ≤ 8 ∧ r.crcGood = true) ∧
        readBurst rs = some []) ∧
    (x.power = .waking .announce →
      ∃ t : State, exec (.announceEnd i) s = .next t ∧ (t.sec i).power = .active ∧ (t.sec i).wakeTimer = none ∧
        (t.sec i).reasons = ⟨false, false, false, false, false⟩ ∧ (t.sec i).roundDue = false ∧
        (t.sec i).line ≠ .down ∧ (t.sec i).idleSince = some (max s.nowMs (tm.start + tm.dur)) ∧
        (x.pendingTiming = none → s.TellsFirst t [.sectionState i .active x.reasons]) ∧
        (∀ v, x.pendingTiming = some v → (t.sec i).timing = some v ∧ (t.sec i).pendingTiming = none) ∧
        (x.roundDue = true → (∃ a : Addr, 1 ≤ a.val ∧ s.eligibleAddr i a = true) → (t.sec i).round ≠ none) ∧
        (x.pairFree = true → x.slot = none → s.silent = false → ∀ q qs, x.queue = q :: qs →
          (t.sec i).line = .owned ∧ (t.sec i).inFlight = some q ∧ (t.sec i).queue = qs) ∧
        t.nowMs = max s.nowMs (tm.start + tm.dur) ∧ t.seconds = s.seconds ∧ t.mode = s.mode ∧ t.globals = s.globals ∧
        s.SameLink t ∧ s.SameReply t ∧ t.rosters = s.rosters ∧ t.unresolved = s.unresolved ∧ s.SameOtherSections i t)

/-! ## The pair of a section -/

/-- The lead window ends 20 ms after the preamble's start and the transaction record follows; the end mark of the burst, which
cannot come before that moment (log 3), starts the reply window; after a collision the retry or the failure follows once the
pair is free: at once on a free pair, and else the attempt waits (R37, R44, R47, R51). With another exchange on the pair
nothing changes (log 3); that the millisecond time reaches the window's end is log 1. -/
def Obligations.BurstIsSentAndTheWindowOpens : Prop :=
  ∀ (s : State) (i : SectionId) (x : SectionCtl), x = s.sec i →
    (∀ b tm, x.exch = .lead b tm →
      ∃ t : State, exec (.leadWindowEnd i) s = .next t ∧ (t.sec i).exch = .sending b tm ∧ (t.sec i).line = x.line ∧
        (t.sec i).inFlight = x.inFlight ∧ (t.sec i).queue = x.queue ∧
        t = { s with nowMs := max s.nowMs (tm.start + tm.dur), secs := t.secs } ∧ s.SameOtherSections i t) ∧
    ((∀ b tm, x.exch ≠ .lead b tm) → exec (.leadWindowEnd i) s = .next s) ∧
    (∀ b tm, x.exch = .lead b tm → s.nowMs < tm.start + tm.dur → exec (.transactionBurstSent i) s = .next s) ∧
    (∀ b tm, x.exch = .sending b tm ∨ (x.exch = .lead b tm ∧ tm.start + tm.dur ≤ s.nowMs) →
      ∃ t : State, exec (.transactionBurstSent i) s = .next t ∧
        (t.sec i).exch = .window ⟨s.nowMs, (x.timing.getD Timing.default).replyWindow⟩ ∧ (t.sec i).line = x.line ∧
        (t.sec i).inFlight = x.inFlight ∧ (t.sec i).queue = x.queue ∧ t.events = s.events ∧ t.ltu = s.ltu ∧ s.OnlyLine i t) ∧
    (∀ b, x.exch = .collided b → x.pairFree = false →
      ∃ t : State, exec (.transactionBurstSent i) s = .next t ∧ (t.sec i).exch = .retryWait ∧
        (t.sec i).inFlight = x.inFlight ∧ (t.sec i).queue = x.queue ∧ t.events = s.events ∧ t.ltu = s.ltu ∧ s.OnlyLine i t) ∧
    (∀ b q, x.exch = .collided b → x.pairFree = true → x.power = .active → x.line = .owned → x.inFlight = some q →
      (q.attempts ≤ (x.timing.getD Timing.default).retries → s.silent = false →
        ∃ t : State, exec (.transactionBurstSent i) s = .next t ∧ (t.sec i).line = .owned ∧ (t.sec i).inFlight = some q ∧
          (t.sec i).exch = .lead ⟨x.syncWord, .lead, [q.stepRecord]⟩ ⟨s.nowMs, 20⟩ ∧ (t.sec i).queue = x.queue ∧
          t.events = s.events ∧ t.ltu = s.ltu ∧ s.OnlyLine i t) ∧
      ((x.timing.getD Timing.default).retries < q.attempts →
        ∃ t : State, exec (.transactionBurstSent i) s = .next t ∧ s.FlightFails t i q .noReply none ∧ s.SameLink t ∧
          s.SameReply t ∧ s.SameSettings t ∧ t.rosters = s.rosters ∧ t.unresolved = s.unresolved))

/-- The reply window runs out with no burst started: the attempt has failed. With the budget of retries not spent and the pair
free the next attempt follows with one more attempt used; with it spent the transaction fails NO_REPLY, told first, and has
left the line: the line is IDLE, or sends what comes next (R44, R46, R47, R68, R79). That a spent budget fails at once
whatever the pair shows is log 14, and that the millisecond time reaches the window's end is log 1. The failed ring notice of
a RINGING call ends the call POST_UNREACHED, and RING STOP follows (R147, R146). A failed poll counts as missed against its
post; where no eligible address is left the round closes: POST_UNREACHABLE where the count reaches the threshold, ROUND_DONE,
then OPEN_SUSPECTED or OPEN_CLEARED as the comparison of the bracket says (R104, R105, R110, R113, R114, R15, R33). -/
def Obligations.ReplyWindowExpiryRetriesOrFails : Prop :=
  ∀ (s : State) (i : SectionId) (x : SectionCtl) (tm : Timer) (q : Txn), x = s.sec i → x.exch = .window tm →
    x.inFlight = some q → x.power = .active → x.line = .owned →
    (q.attempts < (x.timing.getD Timing.default).retries → x.pairFree = true → s.silent = false →
      ∃ t : State, exec (.replyWindowExpiry i) s = .next t ∧
        (t.sec i).inFlight = some { q with attempts := q.attempts + 1 } ∧ (t.sec i).line = .owned ∧
        (t.sec i).exch = .lead ⟨x.syncWord, .lead, [q.stepRecord]⟩ ⟨max s.nowMs (tm.start + tm.dur), 20⟩ ∧
        (t.sec i).queue = x.queue ∧
        t.nowMs = max s.nowMs (tm.start + tm.dur) ∧ t.events = s.events ∧ s.SameOtherSections i t ∧ s.SameCalls t ∧
        s.SameDirectory t ∧ s.SameLink t ∧ s.SameReply t) ∧
    ((x.timing.getD Timing.default).retries ≤ q.attempts →
      ∃ t : State, exec (.replyWindowExpiry i) s = .next t ∧ s.FlightFails t i q .noReply none ∧
        t.nowMs = max s.nowMs (tm.start + tm.dur) ∧
        (∀ r c, q.origin = .call r → q.kind = .ring → s.findCall r = some c → c.state = .ringing →
          t.findCall r = none ∧
          s.TellsFirst t [.transactionFailed i q.addr ((s.slotAt i q.addr).getD 0) .ring .noReply (some r) none,
            .callEnded r c.post c.sec c.addr c.direction .postUnreached (c.connectedSeconds s.seconds)] ∧
          (c.sec = i → x.queue = [] → x.slot = none → x.pairFree = true → s.silent = false →
            (t.sec i).line = .owned ∧ (t.sec i).inFlight = some ⟨.ringStop, c.addr, .call r, 0, 0, 0, false⟩)) ∧
        (∀ k e, q.origin = .round → q.kind = .poll → s.entryAt i q.addr = some e → s.lookup e.post = some (k, e) →
          x.pendingTiming = none →
          t.lookup e.post = some (k, { e with
            missed := min 15 (e.missed + 1),
            reachable := decide (min 15 (e.missed + 1) < (x.timing.getD Timing.default).unreachable) }) ∧
          (∀ rd d, x.round = some rd → x.defn = some d → (∀ b, q.addr < b → s.eligibleAddr i b = false) →
            s.dispatchDue = false →
            s.RoundCloses t i d
              (.transactionFailed i q.addr ((s.slotAt i q.addr).getD 0) .poll .noReply none none ::
                (if e.reachable = true ∧ (x.timing.getD Timing.default).unreachable ≤ min 15 (e.missed + 1) then
                  [.postUnreachable e.post e.sec e.addr (min 15 (e.missed + 1))] else []))
              rd.answered (rd.missed + 1) rd.skipped)) ∧
        s.SameLink t ∧ s.SameReply t ∧ t.rosters = s.rosters ∧ t.unresolved = s.unresolved)

/-- A burst with the section's sync word starts: an IDLE line receives it in FOREIGN; in the lead window, its 20 ms mark
included, the section controller yields and receives it, its transaction kept; past it it is a collision and one attempt is
used, the count staying at 4 (R43; log 50); in the reply window it is the reply; while a failed attempt waits for the pair it
is received too, the transaction kept where it has an attempt left, and where its budget is spent failed NO_REPLY, told first
(R47; at that moment: log 52); a SETTLING section returns to ACTIVE and receives it. Any other sync word is crosstalk and
changes nothing, and so does a burst on an OFF, WAKING or HIBERNATE section and one in UNKNOWN, BREAK or TESTING (R38, R44,
R46, R47, R49, R51, R66, R68, R72, R86, R88). That a burst which starts under a carrier already disowned is taken in the same
way is log 47. -/
def Obligations.PostBurstStartIsTakenByTheLineState : Prop :=
  ∀ (s : State) (i : SectionId) (x : SectionCtl) (d : SectionDef) (w : SyncWord), x = s.sec i → x.defn = some d →
    (w ≠ d.sync → exec (.postBurstStart i w) s = .next s) ∧
    (x.power = .off ∨ (∃ ph, x.power = .waking ph) ∨ x.power = .hibernate → exec (.postBurstStart i w) s = .next s) ∧
    (x.power = .active → (x.line = .unknown ∨ x.line = .brk ∨ x.line = .testing) →
      exec (.postBurstStart i w) s = .next s) ∧
    (w = d.sync →
      (∀ part, x.power = .settling part → ∃ t : State, exec (.postBurstStart i w) s = .next t ∧
        (t.sec i).power = .active ∧ (t.sec i).settleTimer = none ∧ (t.sec i).line = .foreign ∧ (t.sec i).exch = .post ∧
        s.SameLink t ∧ s.SameReply t ∧ s.SameSettings t ∧ s.SameDirectory t ∧ s.SameOtherSections i t) ∧
      (x.power = .active → x.line = .idle →
        ∃ t : State, exec (.postBurstStart i w) s = .next t ∧ (t.sec i).line = .foreign ∧ (t.sec i).exch = .post ∧
          (t.sec i).inFlight = x.inFlight ∧ t.events = s.events ∧ t.ltu = s.ltu ∧ s.OnlyLine i t) ∧
      (∀ b tm q, x.power = .active → x.line = .owned → x.inFlight = some q →
        ((x.exch = .lead b tm ∨ x.exch = .sending b tm) → s.nowMs ≤ tm.start + tm.dur →
          ∃ t : State, exec (.postBurstStart i w) s = .next t ∧ (t.sec i).line = .foreign ∧ (t.sec i).exch = .post ∧
            (t.sec i).inFlight = some q ∧ t.events = s.events ∧ t.ltu = s.ltu ∧ s.OnlyLine i t) ∧
        ((x.exch = .lead b tm ∨ x.exch = .sending b tm) → tm.start + tm.dur < s.nowMs →
          ∃ t : State, exec (.postBurstStart i w) s = .next t ∧ (t.sec i).line = .owned ∧ (t.sec i).exch = .collided b ∧
            (t.sec i).inFlight = some { q with attempts := min 4 (q.attempts + 1) } ∧ t.events = s.events ∧ t.ltu = s.ltu ∧
            s.OnlyLine i t) ∧
        (x.exch = .window tm →
          ∃ t : State, exec (.postBurstStart i w) s = .next t ∧ (t.sec i).line = .owned ∧ (t.sec i).exch = .reply ∧
            (t.sec i).inFlight = some q ∧ t.events = s.events ∧ t.ltu = s.ltu ∧ s.OnlyLine i t)) ∧
      (∀ q, x.power = .active → x.line = .owned → x.inFlight = some q → x.exch = .retryWait →
        (q.attempts ≤ (x.timing.getD Timing.default).retries →
          ∃ t : State, exec (.postBurstStart i w) s = .next t ∧ (t.sec i).line = .foreign ∧ (t.sec i).exch = .post ∧
            (t.sec i).inFlight = some q ∧ t.events = s.events ∧ t.ltu = s.ltu ∧ s.OnlyLine i t) ∧
        ((x.timing.getD Timing.default).retries < q.attempts → x.pairFree = false →
          ∃ t : State, exec (.postBurstStart i w) s = .next t ∧ (t.sec i).line = .foreign ∧ (t.sec i).exch = .post ∧
            (t.sec i).inFlight = none ∧ (t.sec i).idleSince = some s.nowMs ∧
            s.TellsFirst t [.transactionFailed i q.addr ((s.slotAt i q.addr).getD 0) q.kind.name .noReply q.origin.ref none] ∧
            (q.origin = .host → x.pendingTiming = none → s.dispatchDue = false →
              (t.sec i).queue = x.queue ∧
              s.Tells t [.transactionFailed i q.addr ((s.slotAt i q.addr).getD 0) q.kind.name .noReply none none] ∧
              t.ltu = s.ltu ∧ s.OnlyLine i t) ∧
            s.SameLink t ∧ s.SameReply t ∧ s.SameSettings t ∧ t.rosters = s.rosters ∧ t.unresolved = s.unresolved)))

/-- A reply burst ends in one good record of the transaction's address. ACK completes a call notice, a LAMP and the last step
of a TEXT, with nothing told of it, and another step of a TEXT, whose next step starts at once with no attempt used (under a
carrier too: log 15); NACK ends a TEXT LENGTH_SHORT with the number of records delivered. STATUS completes a poll: the post's
last status and reply are stored, its missed count is 0, it is reachable, and its events are told first; the round counts it
answered and closes where no eligible address is left; hook OFF with no live call there is an implied alert. Anything else is
a failed attempt: no single good record, another address, another kind than the step expects, a NACK to another kind than
TEXT; it is retried, on a free pair at once, or with the budget spent fails NO_REPLY (log 14) (R43, R45, R46, R47, R57, R58,
R14, R79, R104, R105, R108, R111, R138). -/
def Obligations.ReplyBurstCompletesTheStep : Prop :=
  ∀ (s : State) (i : SectionId) (x : SectionCtl) (q : Txn) (recs : List LineRec), x = s.sec i →
    x.exch = .reply → x.inFlight = some q → x.power = .active → x.line = .owned → s.dispatchDue = false →
    (∀ g, readBurst recs = some [g] → g.addr = q.addr →
      (g.kind = .ack →
        (q.kind.isNotice = true ∨ q.kind.isLamp = true ∨
          ∃ chars, q.kind = .text chars ∧ q.headerDone = true ∧
            (if chars = [] then 1 else (chars.length + 7) / 8) ≤ q.progress + 1) → x.pendingTiming = none →
        (x.queue = [] → x.slot = none → x.round = none →
          ∃ t : State, exec (.replyBurstEnd i recs) s = .next t ∧ (t.sec i).line = .idle ∧ (t.sec i).inFlight = none ∧
            (t.sec i).exch = .quiet ∧ (t.sec i).idleSince = some s.nowMs ∧ t.events = s.events ∧ t.ltu = s.ltu ∧
            s.OnlyLine i t) ∧
        (∀ n ns, x.queue = n :: ns → x.slot = none → x.pairFree = true → s.silent = false →
          ∃ t : State, exec (.replyBurstEnd i recs) s = .next t ∧ (t.sec i).line = .owned ∧ (t.sec i).inFlight = some n ∧
            (t.sec i).queue = ns ∧ (t.sec i).exch = .lead ⟨x.syncWord, .lead, [n.stepRecord]⟩ ⟨s.nowMs, 20⟩ ∧
            t.events = s.events ∧ t.ltu = s.ltu ∧ s.OnlyLine i t)) ∧
      (∀ chars, q.kind = .text chars →
        (g.kind = .ack → q.headerDone = false → s.silent = false →
          ∃ t : State, exec (.replyBurstEnd i recs) s = .next t ∧
            (t.sec i).inFlight = some { q with headerDone := true, attempts := 0 } ∧ (t.sec i).line = .owned ∧
            (t.sec i).exch = .lead ⟨x.syncWord, .lead, [⟨q.addr, .textRecord ((chars.drop (8 * q.progress)).take 8)⟩]⟩
              ⟨s.nowMs, 20⟩ ∧ t.events = s.events ∧ t.ltu = s.ltu ∧ s.OnlyLine i t) ∧
        (g.kind = .ack → q.headerDone = true → q.progress + 1 < (if chars = [] then 1 else (chars.length + 7) / 8) →
          s.silent = false →
          ∃ t : State, exec (.replyBurstEnd i recs) s = .next t ∧
            (t.sec i).inFlight = some { q with progress := q.progress + 1, attempts := 0 } ∧ (t.sec i).line = .owned ∧
            (t.sec i).exch = .lead ⟨x.syncWord, .lead, [⟨q.addr, .textRecord ((chars.drop (8 * (q.progress + 1))).take 8)⟩]⟩
              ⟨s.nowMs, 20⟩ ∧ t.events = s.events ∧ t.ltu = s.ltu ∧ s.OnlyLine i t) ∧
        (g.kind = .nack → q.origin = .host →
          ∃ t : State, exec (.replyBurstEnd i recs) s = .next t ∧ s.FlightFails t i q .lengthShort (some q.progress) ∧
            s.SameCalls t ∧ s.SameLink t ∧ s.SameReply t ∧ s.SameSettings t ∧ s.SameOtherSections i t)) ∧
      (∀ st k e rd, g.kind = .status → g.status = some st → q.kind = .poll → s.entryAt i q.addr = some e →
        s.lookup e.post = some (k, e) → x.round = some rd → x.pendingTiming = none → s.RefLaw →
        ∃ t : State, exec (.replyBurstEnd i recs) s = .next t ∧
          t.lookup e.post = some (k, { e with
            lastStatus := some st, lastReply := some s.seconds, missed := 0, reachable := true,
            lowBattery := decide (st.battery < s.globals.lowBattery) }) ∧
          (t.sec i).idleSince = some s.nowMs ∧
          s.TellsFirst t (e.told st s.globals.lowBattery) ∧
          ((∃ b, q.addr < b ∧ s.eligibleAddr i b = true) →
            ∃ rd', (t.sec i).round = some rd' ∧ rd'.answered = rd.answered + 1 ∧ rd'.missed = rd.missed ∧
              rd'.skipped = rd.skipped) ∧
          ((∀ b, q.addr < b → s.eligibleAddr i b = false) → (t.sec i).round = none) ∧
          ((st.hookOff = false ∨ (s.callAt i q.addr).isSome = true) →
            s.SameCalls t ∧ s.SameOtherSections i t ∧
            ∀ d, x.defn = some d → (∀ b, q.addr < b → s.eligibleAddr i b = false) →
              s.RoundCloses t i d (e.told st s.globals.lowBattery) (rd.answered + 1) rd.missed rd.skipped) ∧
          (st.hookOff = true → s.callAt i q.addr = none →
            ∃ ref, s.AlertOutcome t .poll i q.addr (e.told st s.globals.lowBattery) ref) ∧
          s.SameOutside t ∧ t.unresolved = s.unresolved)) ∧
    (((∀ g, readBurst recs ≠ some [g]) ∨
        ∃ g, readBurst recs = some [g] ∧
          (g.addr ≠ q.addr ∨ (q.kind = .poll ∧ g.kind ≠ .status) ∨
            ((q.kind.isNotice = true ∨ q.kind.isLamp = true) ∧ g.kind ≠ .ack) ∨
            ((∃ chars, q.kind = .text chars) ∧ g.kind ≠ .ack ∧ g.kind ≠ .nack))) →
      (q.attempts < (x.timing.getD Timing.default).retries →
        ∃ t : State, exec (.replyBurstEnd i recs) s = .next t ∧
          (t.sec i).inFlight = some { q with attempts := q.attempts + 1 } ∧ (t.sec i).idleSince = some s.nowMs ∧
          (x.pairFree = true → s.silent = false → (t.sec i).line = .owned ∧
            (t.sec i).exch = .lead ⟨x.syncWord, .lead, [q.stepRecord]⟩ ⟨s.nowMs, 20⟩) ∧
          (x.pairFree = false → (t.sec i).line = .owned ∧ (t.sec i).exch = .retryWait) ∧ t.events = s.events ∧
          s.OnlyLine i t) ∧
      ((x.timing.getD Timing.default).retries ≤ q.attempts →
        ∃ t : State, exec (.replyBurstEnd i recs) s = .next t ∧ s.FlightFails t i q .noReply none ∧ s.SameOutside t ∧
          t.unresolved = s.unresolved))

/-- A post-started burst ends. With a bad record in it, it changes nothing but the line's own state, the line staying FOREIGN
while the carrier is there. Else its records are handed on and the post is answered. An ALERT makes a QUEUED INBOUND call
placed as its slot says, in a full table with the oldest ABANDONED call evicted, or is deferred, the episode's first deferral
told CALL_TABLE_FULL; it answers a RINGING call and revives an ABANDONED one; from address 0 it makes no call; ALERT ACK
carries the reference or DEFERRED. An ONHOOK abandons a QUEUED, OFFERED or PARKED call and ends a CONNECTED one; an ANSWER
connects a RINGING one; a NOTICE is a status report, told as one, with an implied alert for hook OFF where no live call
stands; each is answered ACK. The first record from an empty slot fills the unresolved-post record, told UNRESOLVED_POST, or
raises its more count, once for a burst; a NOTICE from an empty slot does no more (R18, R25, R26, R52 to R55, R108, R109,
R111, R131, R134 to R141, R143, R149; log 34 for the latched statuses). -/
def Obligations.PostBurstIsHandedToTheCallManager : Prop :=
  ∀ (s : State) (i : SectionId) (x : SectionCtl) (recs : List LineRec) (a : Addr), x = s.sec i → x.exch = .post →
    x.power = .active → x.line = .foreign → s.silent = false → s.dispatchDue = false →
    (readBurst recs = none →
      (x.pairFree = false →
        ∃ t : State, exec (.postBurstEnd i recs) s = .next t ∧ (t.sec i).exch = .discarded ∧ (t.sec i).line = .foreign ∧
          (t.sec i).idleSince = some s.nowMs ∧ t.events = s.events ∧ t.ltu = s.ltu ∧ s.OnlyLine i t) ∧
      (x.pairFree = true → x.inFlight = none → x.queue = [] → x.slot = none → x.round = none → x.pendingTiming = none →
        ∃ t : State, exec (.postBurstEnd i recs) s = .next t ∧ (t.sec i).exch = .quiet ∧ (t.sec i).line = .idle ∧
          (t.sec i).idleSince = some s.nowMs ∧ t.events = s.events ∧ t.ltu = s.ltu ∧ s.OnlyLine i t)) ∧
    (readBurst recs = some [⟨a, .alert, none⟩] → s.RefLaw →
      ∃ (t : State) (ref : Option Nat), exec (.postBurstEnd i recs) s = .next t ∧
        (1 ≤ a.val → s.AlertOutcome t .alert i a (s.unresolvedTold i a .alert) ref) ∧
        (a = 0 → ref = none ∧ s.SameCalls t) ∧
        (a = 0 ∨ (∃ c, s.callAt i a = some c ∧ c.state ≠ .ringing ∧ c.state ≠ .abandoned) →
          s.Tells t (s.unresolvedTold i a .alert)) ∧
        s.AnswersPost t i [⟨a, match ref with | some r => .alertRegistered r | none => .alertDeferred⟩] ∧
        t.unresolved = s.unresolvedAfter i a .alert ∧ t.dir = s.dir ∧ s.SameOutside t ∧
        (a = 0 ∨ (s.callAt i a).isSome = true ∨ s.calls.length < 32 → s.SameOtherSections i t)) ∧
    (readBurst recs = some [⟨a, .onhook, none⟩] → s.RefLaw →
      ∃ t : State, exec (.postBurstEnd i recs) s = .next t ∧
        (∀ c, s.callAt i a = some c →
          ((c.state = .queued ∨ c.state = .offered ∨ c.state = .parked) →
            t.findCall c.ref = some { c with state := .abandoned, channel := none, offerTimer := none } ∧
            s.TellsFirst t (s.unresolvedTold i a .onhook ++ [.callAbandoned c.ref c.post i a c.state])) ∧
          (c.state = .connected → t.findCall c.ref = none ∧
            s.TellsFirst t (s.unresolvedTold i a .onhook ++
              [.callEnded c.ref c.post i a c.direction .clearedByPost (c.connectedSeconds s.seconds)])) ∧
          (c.state = .ringing ∨ c.state = .abandoned → s.SameCalls t ∧ s.Tells t (s.unresolvedTold i a .onhook))) ∧
        (s.callAt i a = none → s.SameCalls t ∧ s.Tells t (s.unresolvedTold i a .onhook)) ∧
        s.AnswersPost t i [⟨a, .ack⟩] ∧ t.unresolved = s.unresolvedAfter i a .onhook ∧ t.dir = s.dir ∧ s.SameOutside t ∧
        s.SameOtherSections i t) ∧
    (readBurst recs = some [⟨a, .answer, none⟩] → s.RefLaw →
      ∃ t : State, exec (.postBurstEnd i recs) s = .next t ∧
        (∀ c ch, s.callAt i a = some c → c.state = .ringing → c.channel = some ch →
          t.findCall c.ref = some { c with state := .connected, connectedSince := some s.seconds, offerTimer := none,
                                           ringTimer := none } ∧
          t.chan ch = ⟨.connected, (s.chan ch).ready, some c.ref⟩ ∧ t.join i = .channel ch ∧
          s.TellsFirst t (s.unresolvedTold i a .answer ++ [.callConnected c.ref ch])) ∧
        ((∀ c, s.callAt i a = some c → c.state ≠ .ringing) → s.SameCalls t ∧ s.Tells t (s.unresolvedTold i a .answer)) ∧
        s.AnswersPost t i [⟨a, .ack⟩] ∧ t.unresolved = s.unresolvedAfter i a .answer ∧ t.dir = s.dir ∧ s.SameOutside t ∧
        s.SameOtherSections i t) ∧
    (∀ st, readBurst recs = some [⟨a, .notice, some st⟩] → s.RefLaw →
      ∃ t : State, exec (.postBurstEnd i recs) s = .next t ∧
        (s.slotAt i a = none → t.dir = s.dir ∧ s.SameCalls t ∧ s.Tells t (s.unresolvedTold i a .notice)) ∧
        (∀ k e, s.entryAt i a = some e → s.lookup e.post = some (k, e) →
          t.lookup e.post = some (k, { e with
            lastStatus := some st, lastReply := some s.seconds, missed := 0, reachable := true,
            lowBattery := decide (st.battery < s.globals.lowBattery) }) ∧
          ((st.hookOff = false ∨ (s.callAt i a).isSome = true) →
            s.SameCalls t ∧ s.SameOtherSections i t ∧ s.Tells t (e.told st s.globals.lowBattery)) ∧
          (st.hookOff = true → s.callAt i a = none →
            ∃ ref, s.AlertOutcome t .poll i a (e.told st s.globals.lowBattery) ref)) ∧
        (t.sec i).round = x.round ∧ s.AnswersPost t i [⟨a, .ack⟩] ∧ t.unresolved = s.unresolvedAfter i a .notice ∧
        s.SameOutside t) ∧
    (∀ b, readBurst recs = some [⟨a, .onhook, none⟩, ⟨b, .onhook, none⟩] → s.callAt i a = none → s.callAt i b = none →
      ∃ t : State, exec (.postBurstEnd i recs) s = .next t ∧ s.AnswersPost t i [⟨a, .ack⟩, ⟨b, .ack⟩] ∧
        t.unresolved = (if (s.slotAt i a).isSome then s.unresolvedAfter i b .onhook else s.unresolvedAfter i a .onhook) ∧
        s.Tells t (if (s.slotAt i a).isSome then s.unresolvedTold i b .onhook else s.unresolvedTold i a .onhook) ∧
        s.SameCalls t ∧ t.dir = s.dir ∧ s.SameOutside t ∧ s.SameOtherSections i t)

/-- An answer burst is sent: the transaction that had yielded is returned with one more loss, to the head of its queue unless
a newer entry stands for it, or with the third loss fails ARB_LOST, told first; the line returns to IDLE, where a MEASURE may
start and else the queue's head is sent (R50, R54, R68, R73, R78, R79). -/
def Obligations.AnswerBurstSentReturnsTheYieldedTransaction : Prop :=
  ∀ (s : State) (i : SectionId) (x : SectionCtl) (b : Burst) (l : List CheckFlag), x = s.sec i → x.exch = .answering b l → x.pendingTiming = none →
    x.power = .active → x.line = .foreign →
    (x.inFlight = none → x.queue = [] → x.slot = none → x.round = none →
      ∃ t : State, exec (.answerBurstSent i) s = .next t ∧ (t.sec i).line = .idle ∧ (t.sec i).exch = .quiet ∧
        (t.sec i).idleSince = some s.nowMs ∧ t.events = s.events ∧ t.ltu = s.ltu ∧ s.OnlyLine i t) ∧
    (∀ q, x.inFlight = some q → q.losses < 2 → (∀ u ∈ x.queue, u.addr ≠ q.addr) → q.kind ≠ .poll →
      (x.slot = none → x.pairFree = true → s.silent = false →
        ∃ t : State, exec (.answerBurstSent i) s = .next t ∧ (t.sec i).line = .owned ∧
          (t.sec i).inFlight = some { q with losses := q.losses + 1 } ∧ (t.sec i).queue = x.queue ∧ t.events = s.events ∧
          t.ltu = s.ltu ∧ s.OnlyLine i t) ∧
      (x.slot = some .auto → x.pairFree = true →
        ∃ t : State, exec (.answerBurstSent i) s = .next t ∧ (t.sec i).line = .testing ∧ (t.sec i).inFlight = none ∧
          (t.sec i).queue = { q with losses := q.losses + 1 } :: x.queue ∧ t.testSource i = true ∧ t.events = s.events ∧
          s.OnlyLine i t)) ∧
    (∀ q, x.inFlight = some q → q.losses = 2 →
      ∃ t : State, exec (.answerBurstSent i) s = .next t ∧
        s.FlightFails t i q .arbLost none ∧ (t.sec i).idleSince = some s.nowMs ∧ s.SameLink t ∧ s.SameReply t ∧ s.SameSettings t)

/-- Carrier appears, and the stuck timer starts in UNKNOWN, IDLE and FOREIGN; carrier drops, and a discarded burst's line
returns to IDLE while an answer that waited is sent; a failed attempt that waited for the pair is followed by its retry or its
failure, an incomplete reply burst is a failed attempt, and an incomplete post burst is discarded without answer, a yielded
transaction being returned. The stuck limit disowns the carrier and tells LINE_STUCK first; an IDLE line's arbiter goes on;
UNKNOWN stays, and its quiet runs from zero; in OWNED the attempt in the reply window or reply burst has failed, and its retry
or failure follows at once, as that of an attempt that waited for the pair does; in FOREIGN the burst is discarded without
answer, the line goes to IDLE and a yielded transaction is returned (R39, R46, R47, R50, R53, R54, R66, R68, R70, R73).
CARRIER_APPEARS with carrier present changes nothing (log 21), and neither does CARRIER_DROPS with none (log 3); the
millisecond time at the limit is log 1; that a transaction held after a yield is still held in FOREIGN once its burst has been
discarded is log 44. -/
def Obligations.CarrierHoldsThePairUntilItDropsOrIsDisowned : Prop :=
  ∀ (s : State) (i : SectionId) (x : SectionCtl), x = s.sec i →
    (x.carrier = true → exec (.carrierAppears i) s = .next s) ∧
    (x.carrier = false →
      ∃ t : State, exec (.carrierAppears i) s = .next t ∧ (t.sec i).carrier = true ∧ (t.sec i).pairFree = false ∧
        (t.sec i).line = x.line ∧ (t.sec i).quietTimer = none ∧
        (x.power = .active → (x.line = .idle ∨ x.line = .unknown ∨ x.line = .foreign) → x.isSending = false →
          x.stuckTimer = none → (t.sec i).stuckTimer = some ⟨s.nowMs, 1000 * (x.timing.getD Timing.default).stuck⟩) ∧
        t.events = s.events ∧ t.ltu = s.ltu ∧ s.OnlyLine i t) ∧
    (x.carrier = false → exec (.carrierDrops i) s = .next s) ∧
    (x.carrier = true → x.exch = .discarded → x.inFlight = none → x.queue = [] → x.slot = none → x.round = none →
      x.pendingTiming = none →
      ∃ t : State, exec (.carrierDrops i) s = .next t ∧ (t.sec i).carrier = false ∧ (t.sec i).line = .idle ∧
        (t.sec i).exch = .quiet ∧ (t.sec i).stuckTimer = none ∧ t.events = s.events ∧ t.ltu = s.ltu ∧ s.OnlyLine i t) ∧
    (∀ recs l, x.carrier = true → x.exch = .answerDue recs l → s.silent = false →
      ∃ t : State, exec (.carrierDrops i) s = .next t ∧ (t.sec i).carrier = false ∧
        (t.sec i).exch = .answering ⟨x.syncWord, .absent, recs⟩ l ∧ (t.sec i).line = x.line ∧ t.events = s.events ∧
        t.ltu = s.ltu ∧ s.OnlyLine i t) ∧
    (∀ q, x.carrier = true → x.exch = .retryWait → x.inFlight = some q → x.power = .active → x.line = .owned →
      (q.attempts ≤ (x.timing.getD Timing.default).retries → s.silent = false →
        ∃ t : State, exec (.carrierDrops i) s = .next t ∧ (t.sec i).carrier = false ∧ (t.sec i).line = .owned ∧
          (t.sec i).inFlight = some q ∧ (t.sec i).queue = x.queue ∧
          (t.sec i).exch = .lead ⟨x.syncWord, .lead, [q.stepRecord]⟩ ⟨s.nowMs, 20⟩ ∧ t.events = s.events ∧ t.ltu = s.ltu ∧
          s.OnlyLine i t) ∧
      ((x.timing.getD Timing.default).retries < q.attempts →
        ∃ t : State, exec (.carrierDrops i) s = .next t ∧ (t.sec i).carrier = false ∧
          (s.setSec i { x with carrier := false, disowned := false }).FlightFails t i q .noReply none ∧ s.SameOutside t ∧
          t.unresolved = s.unresolved)) ∧
    (∀ q, x.carrier = true → x.exch = .reply → x.inFlight = some q → x.power = .active → x.line = .owned →
      (q.attempts < (x.timing.getD Timing.default).retries → s.silent = false →
        ∃ t : State, exec (.carrierDrops i) s = .next t ∧ (t.sec i).carrier = false ∧ (t.sec i).line = .owned ∧
          (t.sec i).inFlight = some { q with attempts := q.attempts + 1 } ∧ (t.sec i).queue = x.queue ∧
          (t.sec i).idleSince = some s.nowMs ∧
          (t.sec i).exch = .lead ⟨x.syncWord, .lead, [q.stepRecord]⟩ ⟨s.nowMs, 20⟩ ∧ t.events = s.events ∧ t.ltu = s.ltu ∧
          s.OnlyLine i t) ∧
      ((x.timing.getD Timing.default).retries ≤ q.attempts →
        ∃ t : State, exec (.carrierDrops i) s = .next t ∧ (t.sec i).carrier = false ∧
          (s.setSec i { x with carrier := false, disowned := false }).FlightFails t i q .noReply none ∧ s.SameOutside t ∧
          t.unresolved = s.unresolved)) ∧
    (x.carrier = true → x.exch = .post → x.power = .active → x.line = .foreign → x.slot = none → x.pendingTiming = none →
      (x.inFlight = none → x.queue = [] → x.round = none →
        ∃ t : State, exec (.carrierDrops i) s = .next t ∧ (t.sec i).carrier = false ∧ (t.sec i).line = .idle ∧
          (t.sec i).exch = .quiet ∧ (t.sec i).idleSince = some s.nowMs ∧ t.events = s.events ∧ t.ltu = s.ltu ∧
          s.OnlyLine i t) ∧
      (∀ q, x.inFlight = some q → q.losses < 2 → q.kind ≠ .poll → (∀ u ∈ x.queue, u.addr ≠ q.addr) → s.silent = false →
        ∃ t : State, exec (.carrierDrops i) s = .next t ∧ (t.sec i).carrier = false ∧ (t.sec i).line = .owned ∧
          (t.sec i).inFlight = some { q with losses := q.losses + 1 } ∧ (t.sec i).queue = x.queue ∧ t.events = s.events ∧
          t.ltu = s.ltu ∧ s.OnlyLine i t)) ∧
    (∀ tm, x.stuckTimer = some tm →
      ∃ t : State, exec (.stuckLimit i) s = .next t ∧ (t.sec i).disowned = true ∧ s.TellsFirst t [.lineStuck i] ∧
        t.nowMs = max s.nowMs (tm.start + tm.dur) ∧
        (x.exch = .quiet → x.line = .idle → x.slot = none → s.silent = false → ∀ q qs, x.queue = q :: qs →
          (t.sec i).line = .owned ∧ (t.sec i).inFlight = some q ∧ (t.sec i).queue = qs) ∧
        (x.exch = .quiet → x.power = .active → x.line = .unknown → x.quietTimer = none →
          (t.sec i).line = .unknown ∧ (t.sec i).queue = x.queue ∧ (t.sec i).inFlight = x.inFlight ∧
          (t.sec i).quietTimer = (if x.space then none else some ⟨t.nowMs, 500⟩) ∧ s.Tells t [.lineStuck i] ∧ t.ltu = s.ltu ∧
          s.SameCalls t ∧ s.SameDirectory t ∧ s.SameOtherSections i t) ∧
        (∀ q n, x.power = .active → x.line = .owned → x.inFlight = some q →
          ((x.exch = .reply ∨ ∃ tw, x.exch = .window tw) ∧ n = q.attempts + 1) ∨ (x.exch = .retryWait ∧ n = q.attempts) →
          (n ≤ (x.timing.getD Timing.default).retries → s.silent = false →
            (t.sec i).line = .owned ∧ (t.sec i).inFlight = some { q with attempts := n } ∧
            (t.sec i).exch = .lead ⟨x.syncWord, .lead, [q.stepRecord]⟩ ⟨t.nowMs, 20⟩ ∧ s.Tells t [.lineStuck i]) ∧
          ((x.timing.getD Timing.default).retries < n →
            s.TellsFirst t [.lineStuck i,
              .transactionFailed i q.addr ((s.slotAt i q.addr).getD 0) q.kind.name .noReply q.origin.ref none])) ∧
        (x.power = .active → x.line = .foreign → x.pendingTiming = none → x.slot = none →
          (x.exch = .post ∨ x.exch = .discarded ∨ ∃ outs l, x.exch = .answerDue outs l) →
          (x.inFlight = none → x.queue = [] → x.round = none →
            (t.sec i).line = .idle ∧ (t.sec i).exch = .quiet ∧ (t.sec i).inFlight = none ∧ s.Tells t [.lineStuck i] ∧
            s.SameCalls t ∧ s.SameDirectory t) ∧
          (∀ q, x.inFlight = some q → q.losses < 2 → q.kind ≠ .poll → (∀ u ∈ x.queue, u.addr ≠ q.addr) → s.silent = false →
            (t.sec i).line = .owned ∧ (t.sec i).inFlight = some { q with losses := q.losses + 1 } ∧
            (t.sec i).queue = x.queue ∧ s.Tells t [.lineStuck i])) ∧
        s.SameLink t ∧ s.SameReply t ∧ t.seconds = s.seconds ∧ t.mode = s.mode ∧ t.globals = s.globals)

/-- Space appears, and the break timer starts in an ACTIVE section whose line is not BREAK or TESTING; the break time reached,
the line is in BREAK or, with a MEASURE that may run, in TESTING: a first break of an episode is told LINE_BREAK_START first
and may trigger a MEASURE; what was in flight is returned as it was to the head of the queue, a poll stays the round's next
one with its counts, and one held after a yield has one more loss, failing ARB_LOST at the third, told first; space ends, and
an open episode is told LINE_BREAK_END and closed, a line in BREAK going to UNKNOWN (R50, R71, R72, R73, R78, R79, R104,
R117). An input that has the level already changes nothing (log 3); that no MEASURE starts where the episode was open already,
and that a failure stands before LINE_BREAK_START, is log 19; that the millisecond time reaches the break time, at which the
MEASURE starts, is log 1. -/
def Obligations.SpaceBreaksTheLine : Prop :=
  ∀ (s : State) (i : SectionId) (x : SectionCtl), x = s.sec i →
    (x.space = true → exec (.spaceAppears i) s = .next s) ∧
    (x.space = false →
      ∃ t : State, exec (.spaceAppears i) s = .next t ∧ (t.sec i).space = true ∧ (t.sec i).line = x.line ∧
        (x.power = .active → (x.line = .unknown ∨ x.line = .idle ∨ x.line = .owned ∨ x.line = .foreign) →
          x.breakTimer = none → (t.sec i).breakTimer = some ⟨s.nowMs, 1000 * (x.timing.getD Timing.default).brk⟩) ∧
        t.events = s.events ∧ t.ltu = s.ltu ∧ s.OnlyLine i t) ∧
    (∀ tm d, x.breakTimer = some tm → x.defn = some d → x.inFlight = none →
      ∃ t : State, exec (.breakTime i) s = .next t ∧ (t.sec i).episode = true ∧ (t.sec i).exch = .quiet ∧
        t.nowMs = max s.nowMs (tm.start + tm.dur) ∧
        (x.episode = false → s.Tells t [.lineBreakStart i]) ∧ (x.episode = true → t.events = s.events) ∧
        (x.episode = false → d.autoMeasure = true → (t.sec i).line = .testing ∧ (t.sec i).slot = none ∧
          t.ltuOf i = ⟨some ⟨.auto, s.seconds, t.nowMs, []⟩, (s.ltuOf i).last⟩) ∧
        (x.episode = true ∨ d.autoMeasure = false → (t.sec i).line = .brk ∧ (t.sec i).slot = x.slot ∧ t.ltu = s.ltu) ∧
        s.SameLink t ∧ s.SameReply t ∧ s.SameDirectory t ∧ s.SameCalls t ∧ s.SameOtherSections i t) ∧
    (∀ tm q, x.breakTimer = some tm → x.inFlight = some q → x.line = .owned → q.kind ≠ .poll →
      (∀ u ∈ x.queue, u.addr ≠ q.addr) →
      ∃ t : State, exec (.breakTime i) s = .next t ∧ (t.sec i).inFlight = none ∧ (t.sec i).queue = q :: x.queue ∧
        (t.sec i).exch = .quiet ∧ (t.sec i).episode = true ∧ s.Tells t (if x.episode then [] else [.lineBreakStart i])) ∧
    (∀ tm q r, x.breakTimer = some tm → x.inFlight = some q → x.line = .owned → q.kind = .poll → x.round = some r →
      ∃ t : State, exec (.breakTime i) s = .next t ∧ (t.sec i).inFlight = none ∧ (t.sec i).queue = x.queue ∧
        (t.sec i).round = some { r with kept := some ⟨q.addr, q.attempts, q.losses⟩ } ∧ (t.sec i).exch = .quiet ∧
        (t.sec i).episode = true ∧ s.Tells t (if x.episode then [] else [.lineBreakStart i])) ∧
    (∀ tm q, x.breakTimer = some tm → x.inFlight = some q → x.line = .foreign →
      (q.losses < 2 →
        ∃ t : State, exec (.breakTime i) s = .next t ∧ (t.sec i).inFlight = none ∧ (t.sec i).exch = .quiet ∧
          (t.sec i).episode = true ∧ s.Tells t (if x.episode then [] else [.lineBreakStart i]) ∧
          (q.kind ≠ .poll → (∀ u ∈ x.queue, u.addr ≠ q.addr) →
            (t.sec i).queue = { q with losses := q.losses + 1 } :: x.queue ∧ (t.sec i).round = x.round) ∧
          (q.kind = .poll → (t.sec i).queue = x.queue ∧
            (t.sec i).round = x.round.map (fun r => { r with kept := some ⟨q.addr, q.attempts, q.losses + 1⟩ }))) ∧
      (2 ≤ q.losses →
        ∃ t : State, exec (.breakTime i) s = .next t ∧ (t.sec i).inFlight = none ∧ (t.sec i).exch = .quiet ∧
          (t.sec i).episode = true ∧ (q.kind ≠ .ring → (t.sec i).queue = x.queue) ∧
          s.TellsFirst t [.transactionFailed i q.addr ((s.slotAt i q.addr).getD 0) q.kind.name .arbLost q.origin.ref none])) ∧
    (x.space = false → exec (.spaceEnds i) s = .next s) ∧
    (x.space = true →
      ∃ t : State, exec (.spaceEnds i) s = .next t ∧ (t.sec i).space = false ∧ (t.sec i).episode = false ∧
        (t.sec i).line = (if x.line = .brk then .unknown else x.line) ∧ (t.sec i).breakTimer = none ∧
        s.Tells t (if x.episode then [.lineBreakEnd i] else []) ∧ t.ltu = s.ltu ∧ s.OnlyLine i t)

/-- UNKNOWN ends in IDLE on the settle quiet and on an end mark: a pending timing is applied, the idle-since time set; a
carrier that is not disowned holds the line in IDLE; else a MEASURE that may run starts, else the queue's head is sent, else
the open round polls its next eligible post (R63, R66, R68, R69, R73, R103, R118, R119); that the millisecond time reaches the
quiet's end, at which all this stands, is log 1. In any other line state an end mark changes nothing. -/
def Obligations.EnteringIdleServesMeasureThenQueueThenRound : Prop :=
  ∀ (s : State) (i : SectionId) (x : SectionCtl) (cmd : Instr) (now : Nat), x = s.sec i →
    ((cmd = .endMarkObserved i ∧ x.line = .unknown ∧ now = s.nowMs) ∨
      (∃ tm, cmd = .settleQuiet i ∧ x.quietTimer = some tm ∧ now = max s.nowMs (tm.start + tm.dur))) →
    (∃ t : State, exec cmd s = .next t ∧ (t.sec i).idleSince = some now ∧ t.nowMs = now ∧ (t.sec i).pendingTiming = none ∧
      (t.sec i).timing = (match x.pendingTiming with | some v => some v | none => x.timing) ∧
      (x.pairFree = false → (t.sec i).line = .idle ∧ (t.sec i).inFlight = x.inFlight ∧ (t.sec i).queue = x.queue) ∧
      (∀ g, x.pairFree = true → x.slot = some g → (g = .auto ∨ s.holder i = none) →
        (t.sec i).line = .testing ∧ (t.sec i).slot = none ∧ (t.sec i).queue = x.queue ∧
        t.ltuOf i = ⟨some ⟨g, s.seconds, now, []⟩, (s.ltuOf i).last⟩) ∧
      (x.pairFree = true → (x.slot = none ∨ (x.slot = some .host ∧ s.holder i ≠ none)) → s.silent = false →
        (∀ q qs, x.queue = q :: qs →
          (t.sec i).line = .owned ∧ (t.sec i).inFlight = some q ∧ (t.sec i).queue = qs ∧ (t.sec i).slot = x.slot ∧
          (t.sec i).exch = .lead ⟨x.syncWord, .lead, [q.stepRecord]⟩ ⟨now, 20⟩) ∧
        (∀ r a, x.queue = [] → x.round = some r → r.kept = none → r.cursor ≤ a.val → 1 ≤ a.val → s.eligibleAddr i a = true →
          (∀ b : Addr, r.cursor ≤ b.val → b < a → s.eligibleAddr i b = false ∨ b = 0) →
          (t.sec i).line = .owned ∧ (t.sec i).inFlight = some ⟨.poll, a, .round, 0, 0, 0, false⟩ ∧
          (t.sec i).exch = .lead ⟨x.syncWord, .lead, [⟨a, .poll⟩]⟩ ⟨now, 20⟩) ∧
        (x.queue = [] → x.round = none → (t.sec i).line = .idle ∧ (t.sec i).inFlight = x.inFlight)) ∧
      s.SameLink t ∧ s.SameReply t ∧ t.rosters = s.rosters ∧ t.unresolved = s.unresolved ∧ s.SameCalls t ∧
      s.SameOtherSections i t ∧ t.seconds = s.seconds ∧ t.mode = s.mode ∧ t.globals = s.globals) ∧
    (x.line ≠ .unknown → exec (.endMarkObserved i) s = .next s)

/-- A sample of a running measurement is stored, 60,000 for a reading at or above the top of the scale; the fourth completes
the measurement, and its result is the section's last. With two or more samples saturated the verdict is CLEAR, with nothing
located. Else it is SHORT: Rm is the rounded mean of the two samples left when the lowest and the highest are dropped, the
unsteady flag compares these two, distance, beyond-end flag, chainage and clamped flag follow from Rm, and the nearest post
and the bracket from the section's posts by offset and address. LINE_CLEAR or FAULT_LOCATED carries the result's fields; the
test source is lowered and the line goes to UNKNOWN (R27, R28, R29, R30, R31, R32, R115, R120, R122, R123, R124). -/
def Obligations.SamplesMakeAMeasurement : Prop :=
  ∀ (s : State) (i : SectionId) (x : SectionCtl) (r : Running) (v : Nat), x = s.sec i → (s.ltuOf i).running = some r →
    x.line = .testing →
    (r.samples.length < 3 →
      ∃ t : State, exec (.sampleTaken i v) s = .next t ∧
        t.ltuOf i = ⟨some { r with samples := r.samples ++ [min 60000 v] }, (s.ltuOf i).last⟩ ∧ t.testSource i = true ∧
        t.secs = s.secs ∧ t = { s with nowMs := t.nowMs, ltu := t.ltu } ∧ ∀ j, j ≠ i → t.ltuOf j = s.ltuOf j) ∧
    (∀ d, r.samples.length = 3 → x.defn = some d →
      ∃ (t : State) (m : MeasResult) (l : List PostEntry), exec (.sampleTaken i v) s = .next t ∧ t.ltuOf i = ⟨none, some m⟩ ∧
        m.sec = i ∧ m.time = s.seconds ∧ m.trigger = r.trigger ∧ m.samples = r.samples ++ [min 60000 v] ∧
        s.PostsInOrder i (fun _ => True) l ∧
        (2 ≤ (m.samples.filter (· == 60000)).length →
          m.verdict = .clear ∧ m.rm = none ∧ m.distance = none ∧ m.chainage = none ∧ m.nearest = none ∧ m.bracket = none ∧
          s.Tells t [.lineClear i r.trigger (m.samples.filter (· == 60000)).length]) ∧
        ((m.samples.filter (· == 60000)).length < 2 →
          m.verdict = .short ∧
          ∃ w a b z rm dd ch lo hi, m.samples.Perm [w, a, b, z] ∧ w ≤ a ∧ a ≤ b ∧ b ≤ z ∧ rm = roundDiv (a + b) 2 ∧
            m.rm = some rm ∧ m.unsteady = decide (a < (b - a) * 10) ∧ m.distance = some dd ∧ dd ≤ d.length ∧
            (dd, m.beyondEnd) = d.distance rm ∧ m.chainage = some ch ∧ ch ≤ 999999 ∧ (ch, m.clamped) = d.chainage dd ∧
            (l = [] → m.nearest = none) ∧
            (∀ ps e qs, l = ps ++ e :: qs → (∀ f ∈ ps, apart e.offset dd < apart f.offset dd) →
              (∀ f ∈ qs, apart e.offset dd ≤ apart f.offset dd) → m.nearest = some e.post) ∧
            m.bracket = some (lo, hi) ∧
            (∃ ps qs, l = ps ++ qs ∧ (∀ e ∈ ps, e.offset ≤ dd) ∧ (∀ e ∈ qs, dd < e.offset) ∧
              lo = (match ps.getLast? with | some e => .post e.post | none => .cabinet) ∧
              hi = (match qs.head? with | some e => .post e.post | none => .sectionEnd)) ∧
            s.Tells t [.faultLocated i r.trigger dd ch m.clamped m.beyondEnd m.unsteady m.nearest lo hi]) ∧
        t.testSource i = false ∧ (t.sec i).line = .unknown ∧ s.SameLink t ∧ s.SameReply t ∧ s.SameDirectory t ∧
        s.SameCalls t ∧ s.SameOtherSections i t)

/-! ## Arithmetic -/

/-- R23: for every N and every D of 1 or more, round(N / D) is q + 1 when 2 × r is at least D, and q otherwise, with q and r
the quotient and remainder of N by D: the nearest whole number, halves upward; the row hash and the ageing step count use the
plain quotient. -/
def Obligations.RoundingIsToTheNearestHalvesUpward : Prop :=
  (∀ n d : Nat, 1 ≤ d →
    roundDiv n d = (if d ≤ 2 * (n % d) then n / d + 1 else n / d) ∧ (n % d = 0 → roundDiv n d = n / d) ∧
    2 * n < (2 * roundDiv n d + 1) * d ∧ 2 * roundDiv n d * d ≤ 2 * n + d) ∧
  (∀ p : Nat, (rowOf p).val = (p % 64) ^^^ ((p / 64) % 64)) ∧ ∀ w k : Nat, ageingSteps w k = min 7 (w / k)

/-- The four places that need arithmetic: a chainage lies in 0 to 999,999 with the clamped flag where the sum does not (R24);
a trimmed measurement is unsteady when (b − a) × 10 is greater than a (R29); a fault distance lies within the section with the
beyond-end flag where the computed one does not (R30, R31); a score lies in 0 to 15 and is the class base, the ageing steps
and the boost (R34, R35). -/
def Obligations.LocationsDistancesAndScoresStayInRange : Prop :=
  (∀ (d : SectionDef) (o : Nat),
    (d.chainage o).1 ≤ 999999 ∧
    (d.sign = .plus → (d.base + o ≤ 999999 → d.chainage o = (d.base + o, false)) ∧
      (999999 < d.base + o → d.chainage o = (999999, true))) ∧
    (d.sign = .minus → (o ≤ d.base → d.base ≤ 999999 → d.chainage o = (d.base - o, false)) ∧
      (d.base < o → d.chainage o = (0, true)))) ∧
  (∀ a b : Nat, a ≤ b → (unsteady a b = true ↔ a < (b - a) * 10)) ∧
  (∀ (d : SectionDef) (rm : Nat),
    (d.distance rm).1 ≤ d.length ∧
    (rm ≤ d.rc → d.rawDistance rm = 0) ∧ (d.rc < rm → d.rawDistance rm = roundDiv ((rm - d.rc) * 10000) d.k) ∧
    ((d.distance rm).2 = true ↔ d.length < d.rawDistance rm) ∧
    (d.rawDistance rm ≤ d.length → (d.distance rm).1 = d.rawDistance rm)) ∧
  (∀ (s : State) (c : Call),
    s.score c ≤ 15 ∧ s.score c = min 15 ((match c.cls with
      | .tunnel => s.globals.baseTunnel
      | .bridge => s.globals.baseBridge
      | .openRoad => s.globals.baseOpen
      | .service => s.globals.baseService) + min 7 ((s.seconds - c.arrival) / s.globals.ageing) + c.boost))
end

