-- ==== Sys2Proof/Laws/State.lean ====
section
/-! SUPPORT. One lemma per field per update of the state, and the readings of a table after a write to it. -/

namespace Sys2Proof.Machine

/-! ## Fields an update leaves as they were -/

@[simp] theorem State.setSec_rx (s : State) (i : SectionId) (x : SectionCtl) : (s.setSec i x).rx = s.rx := rfl
@[simp] theorem State.setSec_buffer (s : State) (i : SectionId) (x : SectionCtl) : (s.setSec i x).buffer = s.buffer := rfl
@[simp] theorem State.setSec_reply (s : State) (i : SectionId) (x : SectionCtl) : (s.setSec i x).reply = s.reply := rfl
@[simp] theorem State.setSec_headTaken (s : State) (i : SectionId) (x : SectionCtl) : (s.setSec i x).headTaken = s.headTaken := rfl
@[simp] theorem State.setSec_resetHeld (s : State) (i : SectionId) (x : SectionCtl) : (s.setSec i x).resetHeld = s.resetHeld := rfl
@[simp] theorem State.setSec_poweringUp (s : State) (i : SectionId) (x : SectionCtl) : (s.setSec i x).poweringUp = s.poweringUp := rfl
@[simp] theorem State.setSec_mode (s : State) (i : SectionId) (x : SectionCtl) : (s.setSec i x).mode = s.mode := rfl
@[simp] theorem State.setSec_globals (s : State) (i : SectionId) (x : SectionCtl) : (s.setSec i x).globals = s.globals := rfl
@[simp] theorem State.setSec_events (s : State) (i : SectionId) (x : SectionCtl) : (s.setSec i x).events = s.events := rfl
@[simp] theorem State.setSec_seconds (s : State) (i : SectionId) (x : SectionCtl) : (s.setSec i x).seconds = s.seconds := rfl
@[simp] theorem State.setSec_nowMs (s : State) (i : SectionId) (x : SectionCtl) : (s.setSec i x).nowMs = s.nowMs := rfl
@[simp] theorem State.setSec_dir (s : State) (i : SectionId) (x : SectionCtl) : (s.setSec i x).dir = s.dir := rfl
@[simp] theorem State.setSec_rosters (s : State) (i : SectionId) (x : SectionCtl) : (s.setSec i x).rosters = s.rosters := rfl
@[simp] theorem State.setSec_unresolved (s : State) (i : SectionId) (x : SectionCtl) : (s.setSec i x).unresolved = s.unresolved := rfl
@[simp] theorem State.setSec_ltu (s : State) (i : SectionId) (x : SectionCtl) : (s.setSec i x).ltu = s.ltu := rfl
@[simp] theorem State.setSec_calls (s : State) (i : SectionId) (x : SectionCtl) : (s.setSec i x).calls = s.calls := rfl
@[simp] theorem State.setSec_history (s : State) (i : SectionId) (x : SectionCtl) : (s.setSec i x).history = s.history := rfl
@[simp] theorem State.setSec_nextRef (s : State) (i : SectionId) (x : SectionCtl) : (s.setSec i x).nextRef = s.nextRef := rfl
@[simp] theorem State.setSec_fullEpisode (s : State) (i : SectionId) (x : SectionCtl) : (s.setSec i x).fullEpisode = s.fullEpisode := rfl
@[simp] theorem State.setSec_channels (s : State) (i : SectionId) (x : SectionCtl) : (s.setSec i x).channels = s.channels := rfl
@[simp] theorem State.setSec_holders (s : State) (i : SectionId) (x : SectionCtl) : (s.setSec i x).holders = s.holders := rfl
@[simp] theorem State.setSec_joins (s : State) (i : SectionId) (x : SectionCtl) : (s.setSec i x).joins = s.joins := rfl
@[simp] theorem State.setSec_dispatchDue (s : State) (i : SectionId) (x : SectionCtl) : (s.setSec i x).dispatchDue = s.dispatchDue := rfl
@[simp] theorem State.setSec_pending (s : State) (i : SectionId) (x : SectionCtl) : (s.setSec i x).pending = s.pending := rfl

@[simp] theorem State.modSec_rx (s : State) (i : SectionId) (f : SectionCtl → SectionCtl) : (s.modSec i f).rx = s.rx := rfl
@[simp] theorem State.modSec_buffer (s : State) (i : SectionId) (f : SectionCtl → SectionCtl) : (s.modSec i f).buffer = s.buffer := rfl
@[simp] theorem State.modSec_reply (s : State) (i : SectionId) (f : SectionCtl → SectionCtl) : (s.modSec i f).reply = s.reply := rfl
@[simp] theorem State.modSec_headTaken (s : State) (i : SectionId) (f : SectionCtl → SectionCtl) : (s.modSec i f).headTaken = s.headTaken := rfl
@[simp] theorem State.modSec_resetHeld (s : State) (i : SectionId) (f : SectionCtl → SectionCtl) : (s.modSec i f).resetHeld = s.resetHeld := rfl
@[simp] theorem State.modSec_poweringUp (s : State) (i : SectionId) (f : SectionCtl → SectionCtl) : (s.modSec i f).poweringUp = s.poweringUp := rfl
@[simp] theorem State.modSec_mode (s : State) (i : SectionId) (f : SectionCtl → SectionCtl) : (s.modSec i f).mode = s.mode := rfl
@[simp] theorem State.modSec_globals (s : State) (i : SectionId) (f : SectionCtl → SectionCtl) : (s.modSec i f).globals = s.globals := rfl
@[simp] theorem State.modSec_events (s : State) (i : SectionId) (f : SectionCtl → SectionCtl) : (s.modSec i f).events = s.events := rfl
@[simp] theorem State.modSec_seconds (s : State) (i : SectionId) (f : SectionCtl → SectionCtl) : (s.modSec i f).seconds = s.seconds := rfl
@[simp] theorem State.modSec_nowMs (s : State) (i : SectionId) (f : SectionCtl → SectionCtl) : (s.modSec i f).nowMs = s.nowMs := rfl
@[simp] theorem State.modSec_dir (s : State) (i : SectionId) (f : SectionCtl → SectionCtl) : (s.modSec i f).dir = s.dir := rfl
@[simp] theorem State.modSec_rosters (s : State) (i : SectionId) (f : SectionCtl → SectionCtl) : (s.modSec i f).rosters = s.rosters := rfl
@[simp] theorem State.modSec_unresolved (s : State) (i : SectionId) (f : SectionCtl → SectionCtl) : (s.modSec i f).unresolved = s.unresolved := rfl
@[simp] theorem State.modSec_ltu (s : State) (i : SectionId) (f : SectionCtl → SectionCtl) : (s.modSec i f).ltu = s.ltu := rfl
@[simp] theorem State.modSec_calls (s : State) (i : SectionId) (f : SectionCtl → SectionCtl) : (s.modSec i f).calls = s.calls := rfl
@[simp] theorem State.modSec_history (s : State) (i : SectionId) (f : SectionCtl → SectionCtl) : (s.modSec i f).history = s.history := rfl
@[simp] theorem State.modSec_nextRef (s : State) (i : SectionId) (f : SectionCtl → SectionCtl) : (s.modSec i f).nextRef = s.nextRef := rfl
@[simp] theorem State.modSec_fullEpisode (s : State) (i : SectionId) (f : SectionCtl → SectionCtl) : (s.modSec i f).fullEpisode = s.fullEpisode := rfl
@[simp] theorem State.modSec_channels (s : State) (i : SectionId) (f : SectionCtl → SectionCtl) : (s.modSec i f).channels = s.channels := rfl
@[simp] theorem State.modSec_holders (s : State) (i : SectionId) (f : SectionCtl → SectionCtl) : (s.modSec i f).holders = s.holders := rfl
@[simp] theorem State.modSec_joins (s : State) (i : SectionId) (f : SectionCtl → SectionCtl) : (s.modSec i f).joins = s.joins := rfl
@[simp] theorem State.modSec_dispatchDue (s : State) (i : SectionId) (f : SectionCtl → SectionCtl) : (s.modSec i f).dispatchDue = s.dispatchDue := rfl
@[simp] theorem State.modSec_pending (s : State) (i : SectionId) (f : SectionCtl → SectionCtl) : (s.modSec i f).pending = s.pending := rfl

@[simp] theorem State.modLine_rx (s : State) (i : SectionId) (f : SectionCtl → SectionCtl) : (s.modLine i f).rx = s.rx := rfl
@[simp] theorem State.modLine_buffer (s : State) (i : SectionId) (f : SectionCtl → SectionCtl) : (s.modLine i f).buffer = s.buffer := rfl
@[simp] theorem State.modLine_reply (s : State) (i : SectionId) (f : SectionCtl → SectionCtl) : (s.modLine i f).reply = s.reply := rfl
@[simp] theorem State.modLine_headTaken (s : State) (i : SectionId) (f : SectionCtl → SectionCtl) : (s.modLine i f).headTaken = s.headTaken := rfl
@[simp] theorem State.modLine_resetHeld (s : State) (i : SectionId) (f : SectionCtl → SectionCtl) : (s.modLine i f).resetHeld = s.resetHeld := rfl
@[simp] theorem State.modLine_poweringUp (s : State) (i : SectionId) (f : SectionCtl → SectionCtl) : (s.modLine i f).poweringUp = s.poweringUp := rfl
@[simp] theorem State.modLine_mode (s : State) (i : SectionId) (f : SectionCtl → SectionCtl) : (s.modLine i f).mode = s.mode := rfl
@[simp] theorem State.modLine_globals (s : State) (i : SectionId) (f : SectionCtl → SectionCtl) : (s.modLine i f).globals = s.globals := rfl
@[simp] theorem State.modLine_events (s : State) (i : SectionId) (f : SectionCtl → SectionCtl) : (s.modLine i f).events = s.events := rfl
@[simp] theorem State.modLine_seconds (s : State) (i : SectionId) (f : SectionCtl → SectionCtl) : (s.modLine i f).seconds = s.seconds := rfl
@[simp] theorem State.modLine_nowMs (s : State) (i : SectionId) (f : SectionCtl → SectionCtl) : (s.modLine i f).nowMs = s.nowMs := rfl
@[simp] theorem State.modLine_dir (s : State) (i : SectionId) (f : SectionCtl → SectionCtl) : (s.modLine i f).dir = s.dir := rfl
@[simp] theorem State.modLine_rosters (s : State) (i : SectionId) (f : SectionCtl → SectionCtl) : (s.modLine i f).rosters = s.rosters := rfl
@[simp] theorem State.modLine_unresolved (s : State) (i : SectionId) (f : SectionCtl → SectionCtl) : (s.modLine i f).unresolved = s.unresolved := rfl
@[simp] theorem State.modLine_ltu (s : State) (i : SectionId) (f : SectionCtl → SectionCtl) : (s.modLine i f).ltu = s.ltu := rfl
@[simp] theorem State.modLine_calls (s : State) (i : SectionId) (f : SectionCtl → SectionCtl) : (s.modLine i f).calls = s.calls := rfl
@[simp] theorem State.modLine_history (s : State) (i : SectionId) (f : SectionCtl → SectionCtl) : (s.modLine i f).history = s.history := rfl
@[simp] theorem State.modLine_nextRef (s : State) (i : SectionId) (f : SectionCtl → SectionCtl) : (s.modLine i f).nextRef = s.nextRef := rfl
@[simp] theorem State.modLine_fullEpisode (s : State) (i : SectionId) (f : SectionCtl → SectionCtl) : (s.modLine i f).fullEpisode = s.fullEpisode := rfl
@[simp] theorem State.modLine_channels (s : State) (i : SectionId) (f : SectionCtl → SectionCtl) : (s.modLine i f).channels = s.channels := rfl
@[simp] theorem State.modLine_holders (s : State) (i : SectionId) (f : SectionCtl → SectionCtl) : (s.modLine i f).holders = s.holders := rfl
@[simp] theorem State.modLine_joins (s : State) (i : SectionId) (f : SectionCtl → SectionCtl) : (s.modLine i f).joins = s.joins := rfl
@[simp] theorem State.modLine_dispatchDue (s : State) (i : SectionId) (f : SectionCtl → SectionCtl) : (s.modLine i f).dispatchDue = s.dispatchDue := rfl
@[simp] theorem State.modLine_pending (s : State) (i : SectionId) (f : SectionCtl → SectionCtl) : (s.modLine i f).pending = s.pending := rfl

@[simp] theorem State.setLtu_rx (s : State) (i : SectionId) (x : LtuSection) : (s.setLtu i x).rx = s.rx := rfl
@[simp] theorem State.setLtu_buffer (s : State) (i : SectionId) (x : LtuSection) : (s.setLtu i x).buffer = s.buffer := rfl
@[simp] theorem State.setLtu_reply (s : State) (i : SectionId) (x : LtuSection) : (s.setLtu i x).reply = s.reply := rfl
@[simp] theorem State.setLtu_headTaken (s : State) (i : SectionId) (x : LtuSection) : (s.setLtu i x).headTaken = s.headTaken := rfl
@[simp] theorem State.setLtu_resetHeld (s : State) (i : SectionId) (x : LtuSection) : (s.setLtu i x).resetHeld = s.resetHeld := rfl
@[simp] theorem State.setLtu_poweringUp (s : State) (i : SectionId) (x : LtuSection) : (s.setLtu i x).poweringUp = s.poweringUp := rfl
@[simp] theorem State.setLtu_mode (s : State) (i : SectionId) (x : LtuSection) : (s.setLtu i x).mode = s.mode := rfl
@[simp] theorem State.setLtu_globals (s : State) (i : SectionId) (x : LtuSection) : (s.setLtu i x).globals = s.globals := rfl
@[simp] theorem State.setLtu_events (s : State) (i : SectionId) (x : LtuSection) : (s.setLtu i x).events = s.events := rfl
@[simp] theorem State.setLtu_seconds (s : State) (i : SectionId) (x : LtuSection) : (s.setLtu i x).seconds = s.seconds := rfl
@[simp] theorem State.setLtu_nowMs (s : State) (i : SectionId) (x : LtuSection) : (s.setLtu i x).nowMs = s.nowMs := rfl
@[simp] theorem State.setLtu_dir (s : State) (i : SectionId) (x : LtuSection) : (s.setLtu i x).dir = s.dir := rfl
@[simp] theorem State.setLtu_rosters (s : State) (i : SectionId) (x : LtuSection) : (s.setLtu i x).rosters = s.rosters := rfl
@[simp] theorem State.setLtu_unresolved (s : State) (i : SectionId) (x : LtuSection) : (s.setLtu i x).unresolved = s.unresolved := rfl
@[simp] theorem State.setLtu_secs (s : State) (i : SectionId) (x : LtuSection) : (s.setLtu i x).secs = s.secs := rfl
@[simp] theorem State.setLtu_calls (s : State) (i : SectionId) (x : LtuSection) : (s.setLtu i x).calls = s.calls := rfl
@[simp] theorem State.setLtu_history (s : State) (i : SectionId) (x : LtuSection) : (s.setLtu i x).history = s.history := rfl
@[simp] theorem State.setLtu_nextRef (s : State) (i : SectionId) (x : LtuSection) : (s.setLtu i x).nextRef = s.nextRef := rfl
@[simp] theorem State.setLtu_fullEpisode (s : State) (i : SectionId) (x : LtuSection) : (s.setLtu i x).fullEpisode = s.fullEpisode := rfl
@[simp] theorem State.setLtu_channels (s : State) (i : SectionId) (x : LtuSection) : (s.setLtu i x).channels = s.channels := rfl
@[simp] theorem State.setLtu_holders (s : State) (i : SectionId) (x : LtuSection) : (s.setLtu i x).holders = s.holders := rfl
@[simp] theorem State.setLtu_joins (s : State) (i : SectionId) (x : LtuSection) : (s.setLtu i x).joins = s.joins := rfl
@[simp] theorem State.setLtu_dispatchDue (s : State) (i : SectionId) (x : LtuSection) : (s.setLtu i x).dispatchDue = s.dispatchDue := rfl
@[simp] theorem State.setLtu_pending (s : State) (i : SectionId) (x : LtuSection) : (s.setLtu i x).pending = s.pending := rfl

@[simp] theorem State.setChan_rx (s : State) (c : ChanId) (x : Channel) : (s.setChan c x).rx = s.rx := rfl
@[simp] theorem State.setChan_buffer (s : State) (c : ChanId) (x : Channel) : (s.setChan c x).buffer = s.buffer := rfl
@[simp] theorem State.setChan_reply (s : State) (c : ChanId) (x : Channel) : (s.setChan c x).reply = s.reply := rfl
@[simp] theorem State.setChan_headTaken (s : State) (c : ChanId) (x : Channel) : (s.setChan c x).headTaken = s.headTaken := rfl
@[simp] theorem State.setChan_resetHeld (s : State) (c : ChanId) (x : Channel) : (s.setChan c x).resetHeld = s.resetHeld := rfl
@[simp] theorem State.setChan_poweringUp (s : State) (c : ChanId) (x : Channel) : (s.setChan c x).poweringUp = s.poweringUp := rfl
@[simp] theorem State.setChan_mode (s : State) (c : ChanId) (x : Channel) : (s.setChan c x).mode = s.mode := rfl
@[simp] theorem State.setChan_globals (s : State) (c : ChanId) (x : Channel) : (s.setChan c x).globals = s.globals := rfl
@[simp] theorem State.setChan_events (s : State) (c : ChanId) (x : Channel) : (s.setChan c x).events = s.events := rfl
@[simp] theorem State.setChan_seconds (s : State) (c : ChanId) (x : Channel) : (s.setChan c x).seconds = s.seconds := rfl
@[simp] theorem State.setChan_nowMs (s : State) (c : ChanId) (x : Channel) : (s.setChan c x).nowMs = s.nowMs := rfl
@[simp] theorem State.setChan_dir (s : State) (c : ChanId) (x : Channel) : (s.setChan c x).dir = s.dir := rfl
@[simp] theorem State.setChan_rosters (s : State) (c : ChanId) (x : Channel) : (s.setChan c x).rosters = s.rosters := rfl
@[simp] theorem State.setChan_unresolved (s : State) (c : ChanId) (x : Channel) : (s.setChan c x).unresolved = s.unresolved := rfl
@[simp] theorem State.setChan_secs (s : State) (c : ChanId) (x : Channel) : (s.setChan c x).secs = s.secs := rfl
@[simp] theorem State.setChan_ltu (s : State) (c : ChanId) (x : Channel) : (s.setChan c x).ltu = s.ltu := rfl
@[simp] theorem State.setChan_calls (s : State) (c : ChanId) (x : Channel) : (s.setChan c x).calls = s.calls := rfl
@[simp] theorem State.setChan_history (s : State) (c : ChanId) (x : Channel) : (s.setChan c x).history = s.history := rfl
@[simp] theorem State.setChan_nextRef (s : State) (c : ChanId) (x : Channel) : (s.setChan c x).nextRef = s.nextRef := rfl
@[simp] theorem State.setChan_fullEpisode (s : State) (c : ChanId) (x : Channel) : (s.setChan c x).fullEpisode = s.fullEpisode := rfl
@[simp] theorem State.setChan_holders (s : State) (c : ChanId) (x : Channel) : (s.setChan c x).holders = s.holders := rfl
@[simp] theorem State.setChan_joins (s : State) (c : ChanId) (x : Channel) : (s.setChan c x).joins = s.joins := rfl
@[simp] theorem State.setChan_dispatchDue (s : State) (c : ChanId) (x : Channel) : (s.setChan c x).dispatchDue = s.dispatchDue := rfl
@[simp] theorem State.setChan_pending (s : State) (c : ChanId) (x : Channel) : (s.setChan c x).pending = s.pending := rfl

@[simp] theorem State.setHolder_rx (s : State) (i : SectionId) (r : Option Nat) : (s.setHolder i r).rx = s.rx := rfl
@[simp] theorem State.setHolder_buffer (s : State) (i : SectionId) (r : Option Nat) : (s.setHolder i r).buffer = s.buffer := rfl
@[simp] theorem State.setHolder_reply (s : State) (i : SectionId) (r : Option Nat) : (s.setHolder i r).reply = s.reply := rfl
@[simp] theorem State.setHolder_headTaken (s : State) (i : SectionId) (r : Option Nat) : (s.setHolder i r).headTaken = s.headTaken := rfl
@[simp] theorem State.setHolder_resetHeld (s : State) (i : SectionId) (r : Option Nat) : (s.setHolder i r).resetHeld = s.resetHeld := rfl
@[simp] theorem State.setHolder_poweringUp (s : State) (i : SectionId) (r : Option Nat) : (s.setHolder i r).poweringUp = s.poweringUp := rfl
@[simp] theorem State.setHolder_mode (s : State) (i : SectionId) (r : Option Nat) : (s.setHolder i r).mode = s.mode := rfl
@[simp] theorem State.setHolder_globals (s : State) (i : SectionId) (r : Option Nat) : (s.setHolder i r).globals = s.globals := rfl
@[simp] theorem State.setHolder_events (s : State) (i : SectionId) (r : Option Nat) : (s.setHolder i r).events = s.events := rfl
@[simp] theorem State.setHolder_seconds (s : State) (i : SectionId) (r : Option Nat) : (s.setHolder i r).seconds = s.seconds := rfl
@[simp] theorem State.setHolder_nowMs (s : State) (i : SectionId) (r : Option Nat) : (s.setHolder i r).nowMs = s.nowMs := rfl
@[simp] theorem State.setHolder_dir (s : State) (i : SectionId) (r : Option Nat) : (s.setHolder i r).dir = s.dir := rfl
@[simp] theorem State.setHolder_rosters (s : State) (i : SectionId) (r : Option Nat) : (s.setHolder i r).rosters = s.rosters := rfl
@[simp] theorem State.setHolder_unresolved (s : State) (i : SectionId) (r : Option Nat) : (s.setHolder i r).unresolved = s.unresolved := rfl
@[simp] theorem State.setHolder_secs (s : State) (i : SectionId) (r : Option Nat) : (s.setHolder i r).secs = s.secs := rfl
@[simp] theorem State.setHolder_ltu (s : State) (i : SectionId) (r : Option Nat) : (s.setHolder i r).ltu = s.ltu := rfl
@[simp] theorem State.setHolder_calls (s : State) (i : SectionId) (r : Option Nat) : (s.setHolder i r).calls = s.calls := rfl
@[simp] theorem State.setHolder_history (s : State) (i : SectionId) (r : Option Nat) : (s.setHolder i r).history = s.history := rfl
@[simp] theorem State.setHolder_nextRef (s : State) (i : SectionId) (r : Option Nat) : (s.setHolder i r).nextRef = s.nextRef := rfl
@[simp] theorem State.setHolder_fullEpisode (s : State) (i : SectionId) (r : Option Nat) : (s.setHolder i r).fullEpisode = s.fullEpisode := rfl
@[simp] theorem State.setHolder_channels (s : State) (i : SectionId) (r : Option Nat) : (s.setHolder i r).channels = s.channels := rfl
@[simp] theorem State.setHolder_joins (s : State) (i : SectionId) (r : Option Nat) : (s.setHolder i r).joins = s.joins := rfl
@[simp] theorem State.setHolder_dispatchDue (s : State) (i : SectionId) (r : Option Nat) : (s.setHolder i r).dispatchDue = s.dispatchDue := rfl
@[simp] theorem State.setHolder_pending (s : State) (i : SectionId) (r : Option Nat) : (s.setHolder i r).pending = s.pending := rfl

@[simp] theorem State.setJoin_rx (s : State) (i : SectionId) (j : Join) : (s.setJoin i j).rx = s.rx := rfl
@[simp] theorem State.setJoin_buffer (s : State) (i : SectionId) (j : Join) : (s.setJoin i j).buffer = s.buffer := rfl
@[simp] theorem State.setJoin_reply (s : State) (i : SectionId) (j : Join) : (s.setJoin i j).reply = s.reply := rfl
@[simp] theorem State.setJoin_headTaken (s : State) (i : SectionId) (j : Join) : (s.setJoin i j).headTaken = s.headTaken := rfl
@[simp] theorem State.setJoin_resetHeld (s : State) (i : SectionId) (j : Join) : (s.setJoin i j).resetHeld = s.resetHeld := rfl
@[simp] theorem State.setJoin_poweringUp (s : State) (i : SectionId) (j : Join) : (s.setJoin i j).poweringUp = s.poweringUp := rfl
@[simp] theorem State.setJoin_mode (s : State) (i : SectionId) (j : Join) : (s.setJoin i j).mode = s.mode := rfl
@[simp] theorem State.setJoin_globals (s : State) (i : SectionId) (j : Join) : (s.setJoin i j).globals = s.globals := rfl
@[simp] theorem State.setJoin_events (s : State) (i : SectionId) (j : Join) : (s.setJoin i j).events = s.events := rfl
@[simp] theorem State.setJoin_seconds (s : State) (i : SectionId) (j : Join) : (s.setJoin i j).seconds = s.seconds := rfl
@[simp] theorem State.setJoin_nowMs (s : State) (i : SectionId) (j : Join) : (s.setJoin i j).nowMs = s.nowMs := rfl
@[simp] theorem State.setJoin_dir (s : State) (i : SectionId) (j : Join) : (s.setJoin i j).dir = s.dir := rfl
@[simp] theorem State.setJoin_rosters (s : State) (i : SectionId) (j : Join) : (s.setJoin i j).rosters = s.rosters := rfl
@[simp] theorem State.setJoin_unresolved (s : State) (i : SectionId) (j : Join) : (s.setJoin i j).unresolved = s.unresolved := rfl
@[simp] theorem State.setJoin_secs (s : State) (i : SectionId) (j : Join) : (s.setJoin i j).secs = s.secs := rfl
@[simp] theorem State.setJoin_ltu (s : State) (i : SectionId) (j : Join) : (s.setJoin i j).ltu = s.ltu := rfl
@[simp] theorem State.setJoin_calls (s : State) (i : SectionId) (j : Join) : (s.setJoin i j).calls = s.calls := rfl
@[simp] theorem State.setJoin_history (s : State) (i : SectionId) (j : Join) : (s.setJoin i j).history = s.history := rfl
@[simp] theorem State.setJoin_nextRef (s : State) (i : SectionId) (j : Join) : (s.setJoin i j).nextRef = s.nextRef := rfl
@[simp] theorem State.setJoin_fullEpisode (s : State) (i : SectionId) (j : Join) : (s.setJoin i j).fullEpisode = s.fullEpisode := rfl
@[simp] theorem State.setJoin_channels (s : State) (i : SectionId) (j : Join) : (s.setJoin i j).channels = s.channels := rfl
@[simp] theorem State.setJoin_holders (s : State) (i : SectionId) (j : Join) : (s.setJoin i j).holders = s.holders := rfl
@[simp] theorem State.setJoin_dispatchDue (s : State) (i : SectionId) (j : Join) : (s.setJoin i j).dispatchDue = s.dispatchDue := rfl
@[simp] theorem State.setJoin_pending (s : State) (i : SectionId) (j : Join) : (s.setJoin i j).pending = s.pending := rfl

@[simp] theorem State.setEntry_rx (s : State) (r : Fin 64) (c : Fin 2) (e : Option PostEntry) : (s.setEntry r c e).rx = s.rx := rfl
@[simp] theorem State.setEntry_buffer (s : State) (r : Fin 64) (c : Fin 2) (e : Option PostEntry) : (s.setEntry r c e).buffer = s.buffer := rfl
@[simp] theorem State.setEntry_reply (s : State) (r : Fin 64) (c : Fin 2) (e : Option PostEntry) : (s.setEntry r c e).reply = s.reply := rfl
@[simp] theorem State.setEntry_headTaken (s : State) (r : Fin 64) (c : Fin 2) (e : Option PostEntry) : (s.setEntry r c e).headTaken = s.headTaken := rfl
@[simp] theorem State.setEntry_resetHeld (s : State) (r : Fin 64) (c : Fin 2) (e : Option PostEntry) : (s.setEntry r c e).resetHeld = s.resetHeld := rfl
@[simp] theorem State.setEntry_poweringUp (s : State) (r : Fin 64) (c : Fin 2) (e : Option PostEntry) : (s.setEntry r c e).poweringUp = s.poweringUp := rfl
@[simp] theorem State.setEntry_mode (s : State) (r : Fin 64) (c : Fin 2) (e : Option PostEntry) : (s.setEntry r c e).mode = s.mode := rfl
@[simp] theorem State.setEntry_globals (s : State) (r : Fin 64) (c : Fin 2) (e : Option PostEntry) : (s.setEntry r c e).globals = s.globals := rfl
@[simp] theorem State.setEntry_events (s : State) (r : Fin 64) (c : Fin 2) (e : Option PostEntry) : (s.setEntry r c e).events = s.events := rfl
@[simp] theorem State.setEntry_seconds (s : State) (r : Fin 64) (c : Fin 2) (e : Option PostEntry) : (s.setEntry r c e).seconds = s.seconds := rfl
@[simp] theorem State.setEntry_nowMs (s : State) (r : Fin 64) (c : Fin 2) (e : Option PostEntry) : (s.setEntry r c e).nowMs = s.nowMs := rfl
@[simp] theorem State.setEntry_rosters (s : State) (r : Fin 64) (c : Fin 2) (e : Option PostEntry) : (s.setEntry r c e).rosters = s.rosters := rfl
@[simp] theorem State.setEntry_unresolved (s : State) (r : Fin 64) (c : Fin 2) (e : Option PostEntry) : (s.setEntry r c e).unresolved = s.unresolved := rfl
@[simp] theorem State.setEntry_secs (s : State) (r : Fin 64) (c : Fin 2) (e : Option PostEntry) : (s.setEntry r c e).secs = s.secs := rfl
@[simp] theorem State.setEntry_ltu (s : State) (r : Fin 64) (c : Fin 2) (e : Option PostEntry) : (s.setEntry r c e).ltu = s.ltu := rfl
@[simp] theorem State.setEntry_calls (s : State) (r : Fin 64) (c : Fin 2) (e : Option PostEntry) : (s.setEntry r c e).calls = s.calls := rfl
@[simp] theorem State.setEntry_history (s : State) (r : Fin 64) (c : Fin 2) (e : Option PostEntry) : (s.setEntry r c e).history = s.history := rfl
@[simp] theorem State.setEntry_nextRef (s : State) (r : Fin 64) (c : Fin 2) (e : Option PostEntry) : (s.setEntry r c e).nextRef = s.nextRef := rfl
@[simp] theorem State.setEntry_fullEpisode (s : State) (r : Fin 64) (c : Fin 2) (e : Option PostEntry) : (s.setEntry r c e).fullEpisode = s.fullEpisode := rfl
@[simp] theorem State.setEntry_channels (s : State) (r : Fin 64) (c : Fin 2) (e : Option PostEntry) : (s.setEntry r c e).channels = s.channels := rfl
@[simp] theorem State.setEntry_holders (s : State) (r : Fin 64) (c : Fin 2) (e : Option PostEntry) : (s.setEntry r c e).holders = s.holders := rfl
@[simp] theorem State.setEntry_joins (s : State) (r : Fin 64) (c : Fin 2) (e : Option PostEntry) : (s.setEntry r c e).joins = s.joins := rfl
@[simp] theorem State.setEntry_dispatchDue (s : State) (r : Fin 64) (c : Fin 2) (e : Option PostEntry) : (s.setEntry r c e).dispatchDue = s.dispatchDue := rfl
@[simp] theorem State.setEntry_pending (s : State) (r : Fin 64) (c : Fin 2) (e : Option PostEntry) : (s.setEntry r c e).pending = s.pending := rfl

@[simp] theorem State.modCall_rx (s : State) (r : Nat) (f : Call → Call) : (s.modCall r f).rx = s.rx := rfl
@[simp] theorem State.modCall_buffer (s : State) (r : Nat) (f : Call → Call) : (s.modCall r f).buffer = s.buffer := rfl
@[simp] theorem State.modCall_reply (s : State) (r : Nat) (f : Call → Call) : (s.modCall r f).reply = s.reply := rfl
@[simp] theorem State.modCall_headTaken (s : State) (r : Nat) (f : Call → Call) : (s.modCall r f).headTaken = s.headTaken := rfl
@[simp] theorem State.modCall_resetHeld (s : State) (r : Nat) (f : Call → Call) : (s.modCall r f).resetHeld = s.resetHeld := rfl
@[simp] theorem State.modCall_poweringUp (s : State) (r : Nat) (f : Call → Call) : (s.modCall r f).poweringUp = s.poweringUp := rfl
@[simp] theorem State.modCall_mode (s : State) (r : Nat) (f : Call → Call) : (s.modCall r f).mode = s.mode := rfl
@[simp] theorem State.modCall_globals (s : State) (r : Nat) (f : Call → Call) : (s.modCall r f).globals = s.globals := rfl
@[simp] theorem State.modCall_events (s : State) (r : Nat) (f : Call → Call) : (s.modCall r f).events = s.events := rfl
@[simp] theorem State.modCall_seconds (s : State) (r : Nat) (f : Call → Call) : (s.modCall r f).seconds = s.seconds := rfl
@[simp] theorem State.modCall_nowMs (s : State) (r : Nat) (f : Call → Call) : (s.modCall r f).nowMs = s.nowMs := rfl
@[simp] theorem State.modCall_dir (s : State) (r : Nat) (f : Call → Call) : (s.modCall r f).dir = s.dir := rfl
@[simp] theorem State.modCall_rosters (s : State) (r : Nat) (f : Call → Call) : (s.modCall r f).rosters = s.rosters := rfl
@[simp] theorem State.modCall_unresolved (s : State) (r : Nat) (f : Call → Call) : (s.modCall r f).unresolved = s.unresolved := rfl
@[simp] theorem State.modCall_secs (s : State) (r : Nat) (f : Call → Call) : (s.modCall r f).secs = s.secs := rfl
@[simp] theorem State.modCall_ltu (s : State) (r : Nat) (f : Call → Call) : (s.modCall r f).ltu = s.ltu := rfl
@[simp] theorem State.modCall_history (s : State) (r : Nat) (f : Call → Call) : (s.modCall r f).history = s.history := rfl
@[simp] theorem State.modCall_nextRef (s : State) (r : Nat) (f : Call → Call) : (s.modCall r f).nextRef = s.nextRef := rfl
@[simp] theorem State.modCall_fullEpisode (s : State) (r : Nat) (f : Call → Call) : (s.modCall r f).fullEpisode = s.fullEpisode := rfl
@[simp] theorem State.modCall_channels (s : State) (r : Nat) (f : Call → Call) : (s.modCall r f).channels = s.channels := rfl
@[simp] theorem State.modCall_holders (s : State) (r : Nat) (f : Call → Call) : (s.modCall r f).holders = s.holders := rfl
@[simp] theorem State.modCall_joins (s : State) (r : Nat) (f : Call → Call) : (s.modCall r f).joins = s.joins := rfl
@[simp] theorem State.modCall_dispatchDue (s : State) (r : Nat) (f : Call → Call) : (s.modCall r f).dispatchDue = s.dispatchDue := rfl
@[simp] theorem State.modCall_pending (s : State) (r : Nat) (f : Call → Call) : (s.modCall r f).pending = s.pending := rfl

@[simp] theorem State.reach_rx (s : State) (m : Nat) : (s.reach m).rx = s.rx := rfl
@[simp] theorem State.reach_buffer (s : State) (m : Nat) : (s.reach m).buffer = s.buffer := rfl
@[simp] theorem State.reach_reply (s : State) (m : Nat) : (s.reach m).reply = s.reply := rfl
@[simp] theorem State.reach_headTaken (s : State) (m : Nat) : (s.reach m).headTaken = s.headTaken := rfl
@[simp] theorem State.reach_resetHeld (s : State) (m : Nat) : (s.reach m).resetHeld = s.resetHeld := rfl
@[simp] theorem State.reach_poweringUp (s : State) (m : Nat) : (s.reach m).poweringUp = s.poweringUp := rfl
@[simp] theorem State.reach_mode (s : State) (m : Nat) : (s.reach m).mode = s.mode := rfl
@[simp] theorem State.reach_globals (s : State) (m : Nat) : (s.reach m).globals = s.globals := rfl
@[simp] theorem State.reach_events (s : State) (m : Nat) : (s.reach m).events = s.events := rfl
@[simp] theorem State.reach_seconds (s : State) (m : Nat) : (s.reach m).seconds = s.seconds := rfl
@[simp] theorem State.reach_dir (s : State) (m : Nat) : (s.reach m).dir = s.dir := rfl
@[simp] theorem State.reach_rosters (s : State) (m : Nat) : (s.reach m).rosters = s.rosters := rfl
@[simp] theorem State.reach_unresolved (s : State) (m : Nat) : (s.reach m).unresolved = s.unresolved := rfl
@[simp] theorem State.reach_secs (s : State) (m : Nat) : (s.reach m).secs = s.secs := rfl
@[simp] theorem State.reach_ltu (s : State) (m : Nat) : (s.reach m).ltu = s.ltu := rfl
@[simp] theorem State.reach_calls (s : State) (m : Nat) : (s.reach m).calls = s.calls := rfl
@[simp] theorem State.reach_history (s : State) (m : Nat) : (s.reach m).history = s.history := rfl
@[simp] theorem State.reach_nextRef (s : State) (m : Nat) : (s.reach m).nextRef = s.nextRef := rfl
@[simp] theorem State.reach_fullEpisode (s : State) (m : Nat) : (s.reach m).fullEpisode = s.fullEpisode := rfl
@[simp] theorem State.reach_channels (s : State) (m : Nat) : (s.reach m).channels = s.channels := rfl
@[simp] theorem State.reach_holders (s : State) (m : Nat) : (s.reach m).holders = s.holders := rfl
@[simp] theorem State.reach_joins (s : State) (m : Nat) : (s.reach m).joins = s.joins := rfl
@[simp] theorem State.reach_dispatchDue (s : State) (m : Nat) : (s.reach m).dispatchDue = s.dispatchDue := rfl
@[simp] theorem State.reach_pending (s : State) (m : Nat) : (s.reach m).pending = s.pending := rfl

@[simp] theorem State.markDispatch_rx (s : State) : (s.markDispatch).rx = s.rx := rfl
@[simp] theorem State.markDispatch_buffer (s : State) : (s.markDispatch).buffer = s.buffer := rfl
@[simp] theorem State.markDispatch_reply (s : State) : (s.markDispatch).reply = s.reply := rfl
@[simp] theorem State.markDispatch_headTaken (s : State) : (s.markDispatch).headTaken = s.headTaken := rfl
@[simp] theorem State.markDispatch_resetHeld (s : State) : (s.markDispatch).resetHeld = s.resetHeld := rfl
@[simp] theorem State.markDispatch_poweringUp (s : State) : (s.markDispatch).poweringUp = s.poweringUp := rfl
@[simp] theorem State.markDispatch_mode (s : State) : (s.markDispatch).mode = s.mode := rfl
@[simp] theorem State.markDispatch_globals (s : State) : (s.markDispatch).globals = s.globals := rfl
@[simp] theorem State.markDispatch_events (s : State) : (s.markDispatch).events = s.events := rfl
@[simp] theorem State.markDispatch_seconds (s : State) : (s.markDispatch).seconds = s.seconds := rfl
@[simp] theorem State.markDispatch_nowMs (s : State) : (s.markDispatch).nowMs = s.nowMs := rfl
@[simp] theorem State.markDispatch_dir (s : State) : (s.markDispatch).dir = s.dir := rfl
@[simp] theorem State.markDispatch_rosters (s : State) : (s.markDispatch).rosters = s.rosters := rfl
@[simp] theorem State.markDispatch_unresolved (s : State) : (s.markDispatch).unresolved = s.unresolved := rfl
@[simp] theorem State.markDispatch_secs (s : State) : (s.markDispatch).secs = s.secs := rfl
@[simp] theorem State.markDispatch_ltu (s : State) : (s.markDispatch).ltu = s.ltu := rfl
@[simp] theorem State.markDispatch_calls (s : State) : (s.markDispatch).calls = s.calls := rfl
@[simp] theorem State.markDispatch_history (s : State) : (s.markDispatch).history = s.history := rfl
@[simp] theorem State.markDispatch_nextRef (s : State) : (s.markDispatch).nextRef = s.nextRef := rfl
@[simp] theorem State.markDispatch_fullEpisode (s : State) : (s.markDispatch).fullEpisode = s.fullEpisode := rfl
@[simp] theorem State.markDispatch_channels (s : State) : (s.markDispatch).channels = s.channels := rfl
@[simp] theorem State.markDispatch_holders (s : State) : (s.markDispatch).holders = s.holders := rfl
@[simp] theorem State.markDispatch_joins (s : State) : (s.markDispatch).joins = s.joins := rfl
@[simp] theorem State.markDispatch_pending (s : State) : (s.markDispatch).pending = s.pending := rfl

@[simp] theorem State.tickMs_rx (s : State) : (s.tickMs).rx = s.rx := rfl
@[simp] theorem State.tickMs_buffer (s : State) : (s.tickMs).buffer = s.buffer := rfl
@[simp] theorem State.tickMs_reply (s : State) : (s.tickMs).reply = s.reply := rfl
@[simp] theorem State.tickMs_headTaken (s : State) : (s.tickMs).headTaken = s.headTaken := rfl
@[simp] theorem State.tickMs_resetHeld (s : State) : (s.tickMs).resetHeld = s.resetHeld := rfl
@[simp] theorem State.tickMs_poweringUp (s : State) : (s.tickMs).poweringUp = s.poweringUp := rfl
@[simp] theorem State.tickMs_mode (s : State) : (s.tickMs).mode = s.mode := rfl
@[simp] theorem State.tickMs_globals (s : State) : (s.tickMs).globals = s.globals := rfl
@[simp] theorem State.tickMs_events (s : State) : (s.tickMs).events = s.events := rfl
@[simp] theorem State.tickMs_seconds (s : State) : (s.tickMs).seconds = s.seconds := rfl
@[simp] theorem State.tickMs_dir (s : State) : (s.tickMs).dir = s.dir := rfl
@[simp] theorem State.tickMs_rosters (s : State) : (s.tickMs).rosters = s.rosters := rfl
@[simp] theorem State.tickMs_unresolved (s : State) : (s.tickMs).unresolved = s.unresolved := rfl
@[simp] theorem State.tickMs_secs (s : State) : (s.tickMs).secs = s.secs := rfl
@[simp] theorem State.tickMs_ltu (s : State) : (s.tickMs).ltu = s.ltu := rfl
@[simp] theorem State.tickMs_calls (s : State) : (s.tickMs).calls = s.calls := rfl
@[simp] theorem State.tickMs_history (s : State) : (s.tickMs).history = s.history := rfl
@[simp] theorem State.tickMs_nextRef (s : State) : (s.tickMs).nextRef = s.nextRef := rfl
@[simp] theorem State.tickMs_fullEpisode (s : State) : (s.tickMs).fullEpisode = s.fullEpisode := rfl
@[simp] theorem State.tickMs_channels (s : State) : (s.tickMs).channels = s.channels := rfl
@[simp] theorem State.tickMs_holders (s : State) : (s.tickMs).holders = s.holders := rfl
@[simp] theorem State.tickMs_joins (s : State) : (s.tickMs).joins = s.joins := rfl
@[simp] theorem State.tickMs_dispatchDue (s : State) : (s.tickMs).dispatchDue = s.dispatchDue := rfl
@[simp] theorem State.tickMs_pending (s : State) : (s.tickMs).pending = s.pending := rfl

@[simp] theorem State.tickSecond_rx (s : State) : (s.tickSecond).rx = s.rx := rfl
@[simp] theorem State.tickSecond_buffer (s : State) : (s.tickSecond).buffer = s.buffer := rfl
@[simp] theorem State.tickSecond_reply (s : State) : (s.tickSecond).reply = s.reply := rfl
@[simp] theorem State.tickSecond_headTaken (s : State) : (s.tickSecond).headTaken = s.headTaken := rfl
@[simp] theorem State.tickSecond_resetHeld (s : State) : (s.tickSecond).resetHeld = s.resetHeld := rfl
@[simp] theorem State.tickSecond_poweringUp (s : State) : (s.tickSecond).poweringUp = s.poweringUp := rfl
@[simp] theorem State.tickSecond_mode (s : State) : (s.tickSecond).mode = s.mode := rfl
@[simp] theorem State.tickSecond_globals (s : State) : (s.tickSecond).globals = s.globals := rfl
@[simp] theorem State.tickSecond_events (s : State) : (s.tickSecond).events = s.events := rfl
@[simp] theorem State.tickSecond_dir (s : State) : (s.tickSecond).dir = s.dir := rfl
@[simp] theorem State.tickSecond_rosters (s : State) : (s.tickSecond).rosters = s.rosters := rfl
@[simp] theorem State.tickSecond_unresolved (s : State) : (s.tickSecond).unresolved = s.unresolved := rfl
@[simp] theorem State.tickSecond_secs (s : State) : (s.tickSecond).secs = s.secs := rfl
@[simp] theorem State.tickSecond_ltu (s : State) : (s.tickSecond).ltu = s.ltu := rfl
@[simp] theorem State.tickSecond_calls (s : State) : (s.tickSecond).calls = s.calls := rfl
@[simp] theorem State.tickSecond_history (s : State) : (s.tickSecond).history = s.history := rfl
@[simp] theorem State.tickSecond_nextRef (s : State) : (s.tickSecond).nextRef = s.nextRef := rfl
@[simp] theorem State.tickSecond_fullEpisode (s : State) : (s.tickSecond).fullEpisode = s.fullEpisode := rfl
@[simp] theorem State.tickSecond_channels (s : State) : (s.tickSecond).channels = s.channels := rfl
@[simp] theorem State.tickSecond_holders (s : State) : (s.tickSecond).holders = s.holders := rfl
@[simp] theorem State.tickSecond_joins (s : State) : (s.tickSecond).joins = s.joins := rfl
@[simp] theorem State.tickSecond_dispatchDue (s : State) : (s.tickSecond).dispatchDue = s.dispatchDue := rfl
@[simp] theorem State.tickSecond_pending (s : State) : (s.tickSecond).pending = s.pending := rfl

@[simp] theorem State.setSlot_rx (s : State) (i : SectionId) (a : Addr) (p : Option Nat) : (s.setSlot i a p).rx = s.rx := by unfold State.setSlot; split <;> rfl
@[simp] theorem State.setSlot_buffer (s : State) (i : SectionId) (a : Addr) (p : Option Nat) : (s.setSlot i a p).buffer = s.buffer := by unfold State.setSlot; split <;> rfl
@[simp] theorem State.setSlot_reply (s : State) (i : SectionId) (a : Addr) (p : Option Nat) : (s.setSlot i a p).reply = s.reply := by unfold State.setSlot; split <;> rfl
@[simp] theorem State.setSlot_headTaken (s : State) (i : SectionId) (a : Addr) (p : Option Nat) : (s.setSlot i a p).headTaken = s.headTaken := by unfold State.setSlot; split <;> rfl
@[simp] theorem State.setSlot_resetHeld (s : State) (i : SectionId) (a : Addr) (p : Option Nat) : (s.setSlot i a p).resetHeld = s.resetHeld := by unfold State.setSlot; split <;> rfl
@[simp] theorem State.setSlot_poweringUp (s : State) (i : SectionId) (a : Addr) (p : Option Nat) : (s.setSlot i a p).poweringUp = s.poweringUp := by unfold State.setSlot; split <;> rfl
@[simp] theorem State.setSlot_mode (s : State) (i : SectionId) (a : Addr) (p : Option Nat) : (s.setSlot i a p).mode = s.mode := by unfold State.setSlot; split <;> rfl
@[simp] theorem State.setSlot_globals (s : State) (i : SectionId) (a : Addr) (p : Option Nat) : (s.setSlot i a p).globals = s.globals := by unfold State.setSlot; split <;> rfl
@[simp] theorem State.setSlot_events (s : State) (i : SectionId) (a : Addr) (p : Option Nat) : (s.setSlot i a p).events = s.events := by unfold State.setSlot; split <;> rfl
@[simp] theorem State.setSlot_seconds (s : State) (i : SectionId) (a : Addr) (p : Option Nat) : (s.setSlot i a p).seconds = s.seconds := by unfold State.setSlot; split <;> rfl
@[simp] theorem State.setSlot_nowMs (s : State) (i : SectionId) (a : Addr) (p : Option Nat) : (s.setSlot i a p).nowMs = s.nowMs := by unfold State.setSlot; split <;> rfl
@[simp] theorem State.setSlot_dir (s : State) (i : SectionId) (a : Addr) (p : Option Nat) : (s.setSlot i a p).dir = s.dir := by unfold State.setSlot; split <;> rfl
@[simp] theorem State.setSlot_unresolved (s : State) (i : SectionId) (a : Addr) (p : Option Nat) : (s.setSlot i a p).unresolved = s.unresolved := by unfold State.setSlot; split <;> rfl
@[simp] theorem State.setSlot_secs (s : State) (i : SectionId) (a : Addr) (p : Option Nat) : (s.setSlot i a p).secs = s.secs := by unfold State.setSlot; split <;> rfl
@[simp] theorem State.setSlot_ltu (s : State) (i : SectionId) (a : Addr) (p : Option Nat) : (s.setSlot i a p).ltu = s.ltu := by unfold State.setSlot; split <;> rfl
@[simp] theorem State.setSlot_calls (s : State) (i : SectionId) (a : Addr) (p : Option Nat) : (s.setSlot i a p).calls = s.calls := by unfold State.setSlot; split <;> rfl
@[simp] theorem State.setSlot_history (s : State) (i : SectionId) (a : Addr) (p : Option Nat) : (s.setSlot i a p).history = s.history := by unfold State.setSlot; split <;> rfl
@[simp] theorem State.setSlot_nextRef (s : State) (i : SectionId) (a : Addr) (p : Option Nat) : (s.setSlot i a p).nextRef = s.nextRef := by unfold State.setSlot; split <;> rfl
@[simp] theorem State.setSlot_fullEpisode (s : State) (i : SectionId) (a : Addr) (p : Option Nat) : (s.setSlot i a p).fullEpisode = s.fullEpisode := by unfold State.setSlot; split <;> rfl
@[simp] theorem State.setSlot_channels (s : State) (i : SectionId) (a : Addr) (p : Option Nat) : (s.setSlot i a p).channels = s.channels := by unfold State.setSlot; split <;> rfl
@[simp] theorem State.setSlot_holders (s : State) (i : SectionId) (a : Addr) (p : Option Nat) : (s.setSlot i a p).holders = s.holders := by unfold State.setSlot; split <;> rfl
@[simp] theorem State.setSlot_joins (s : State) (i : SectionId) (a : Addr) (p : Option Nat) : (s.setSlot i a p).joins = s.joins := by unfold State.setSlot; split <;> rfl
@[simp] theorem State.setSlot_dispatchDue (s : State) (i : SectionId) (a : Addr) (p : Option Nat) : (s.setSlot i a p).dispatchDue = s.dispatchDue := by unfold State.setSlot; split <;> rfl
@[simp] theorem State.setSlot_pending (s : State) (i : SectionId) (a : Addr) (p : Option Nat) : (s.setSlot i a p).pending = s.pending := by unfold State.setSlot; split <;> rfl

@[simp] theorem State.post_rx (b : EventBody) (s : State) : (s.post b).rx = s.rx := by unfold State.post; split <;> (try split) <;> rfl
@[simp] theorem State.post_buffer (b : EventBody) (s : State) : (s.post b).buffer = s.buffer := by unfold State.post; split <;> (try split) <;> rfl
@[simp] theorem State.post_reply (b : EventBody) (s : State) : (s.post b).reply = s.reply := by unfold State.post; split <;> (try split) <;> rfl
@[simp] theorem State.post_headTaken (b : EventBody) (s : State) : (s.post b).headTaken = s.headTaken := by unfold State.post; split <;> (try split) <;> rfl
@[simp] theorem State.post_resetHeld (b : EventBody) (s : State) : (s.post b).resetHeld = s.resetHeld := by unfold State.post; split <;> (try split) <;> rfl
@[simp] theorem State.post_poweringUp (b : EventBody) (s : State) : (s.post b).poweringUp = s.poweringUp := by unfold State.post; split <;> (try split) <;> rfl
@[simp] theorem State.post_mode (b : EventBody) (s : State) : (s.post b).mode = s.mode := by unfold State.post; split <;> (try split) <;> rfl
@[simp] theorem State.post_globals (b : EventBody) (s : State) : (s.post b).globals = s.globals := by unfold State.post; split <;> (try split) <;> rfl
@[simp] theorem State.post_seconds (b : EventBody) (s : State) : (s.post b).seconds = s.seconds := by unfold State.post; split <;> (try split) <;> rfl
@[simp] theorem State.post_nowMs (b : EventBody) (s : State) : (s.post b).nowMs = s.nowMs := by unfold State.post; split <;> (try split) <;> rfl
@[simp] theorem State.post_dir (b : EventBody) (s : State) : (s.post b).dir = s.dir := by unfold State.post; split <;> (try split) <;> rfl
@[simp] theorem State.post_rosters (b : EventBody) (s : State) : (s.post b).rosters = s.rosters := by unfold State.post; split <;> (try split) <;> rfl
@[simp] theorem State.post_unresolved (b : EventBody) (s : State) : (s.post b).unresolved = s.unresolved := by unfold State.post; split <;> (try split) <;> rfl
@[simp] theorem State.post_secs (b : EventBody) (s : State) : (s.post b).secs = s.secs := by unfold State.post; split <;> (try split) <;> rfl
@[simp] theorem State.post_ltu (b : EventBody) (s : State) : (s.post b).ltu = s.ltu := by unfold State.post; split <;> (try split) <;> rfl
@[simp] theorem State.post_calls (b : EventBody) (s : State) : (s.post b).calls = s.calls := by unfold State.post; split <;> (try split) <;> rfl
@[simp] theorem State.post_history (b : EventBody) (s : State) : (s.post b).history = s.history := by unfold State.post; split <;> (try split) <;> rfl
@[simp] theorem State.post_nextRef (b : EventBody) (s : State) : (s.post b).nextRef = s.nextRef := by unfold State.post; split <;> (try split) <;> rfl
@[simp] theorem State.post_fullEpisode (b : EventBody) (s : State) : (s.post b).fullEpisode = s.fullEpisode := by unfold State.post; split <;> (try split) <;> rfl
@[simp] theorem State.post_channels (b : EventBody) (s : State) : (s.post b).channels = s.channels := by unfold State.post; split <;> (try split) <;> rfl
@[simp] theorem State.post_holders (b : EventBody) (s : State) : (s.post b).holders = s.holders := by unfold State.post; split <;> (try split) <;> rfl
@[simp] theorem State.post_joins (b : EventBody) (s : State) : (s.post b).joins = s.joins := by unfold State.post; split <;> (try split) <;> rfl
@[simp] theorem State.post_dispatchDue (b : EventBody) (s : State) : (s.post b).dispatchDue = s.dispatchDue := by unfold State.post; split <;> (try split) <;> rfl
@[simp] theorem State.post_pending (b : EventBody) (s : State) : (s.post b).pending = s.pending := by unfold State.post; split <;> (try split) <;> rfl

@[simp] theorem State.postAll_rx (bs : List EventBody) (s : State) : (State.postAll bs s).rx = s.rx := by
  induction bs generalizing s with
  | nil => rfl
  | cons b bs ih => simp [State.postAll, ih]
@[simp] theorem State.postAll_buffer (bs : List EventBody) (s : State) : (State.postAll bs s).buffer = s.buffer := by
  induction bs generalizing s with
  | nil => rfl
  | cons b bs ih => simp [State.postAll, ih]
@[simp] theorem State.postAll_reply (bs : List EventBody) (s : State) : (State.postAll bs s).reply = s.reply := by
  induction bs generalizing s with
  | nil => rfl
  | cons b bs ih => simp [State.postAll, ih]
@[simp] theorem State.postAll_headTaken (bs : List EventBody) (s : State) : (State.postAll bs s).headTaken = s.headTaken := by
  induction bs generalizing s with
  | nil => rfl
  | cons b bs ih => simp [State.postAll, ih]
@[simp] theorem State.postAll_resetHeld (bs : List EventBody) (s : State) : (State.postAll bs s).resetHeld = s.resetHeld := by
  induction bs generalizing s with
  | nil => rfl
  | cons b bs ih => simp [State.postAll, ih]
@[simp] theorem State.postAll_poweringUp (bs : List EventBody) (s : State) : (State.postAll bs s).poweringUp = s.poweringUp := by
  induction bs generalizing s with
  | nil => rfl
  | cons b bs ih => simp [State.postAll, ih]
@[simp] theorem State.postAll_mode (bs : List EventBody) (s : State) : (State.postAll bs s).mode = s.mode := by
  induction bs generalizing s with
  | nil => rfl
  | cons b bs ih => simp [State.postAll, ih]
@[simp] theorem State.postAll_globals (bs : List EventBody) (s : State) : (State.postAll bs s).globals = s.globals := by
  induction bs generalizing s with
  | nil => rfl
  | cons b bs ih => simp [State.postAll, ih]
@[simp] theorem State.postAll_seconds (bs : List EventBody) (s : State) : (State.postAll bs s).seconds = s.seconds := by
  induction bs generalizing s with
  | nil => rfl
  | cons b bs ih => simp [State.postAll, ih]
@[simp] theorem State.postAll_nowMs (bs : List EventBody) (s : State) : (State.postAll bs s).nowMs = s.nowMs := by
  induction bs generalizing s with
  | nil => rfl
  | cons b bs ih => simp [State.postAll, ih]
@[simp] theorem State.postAll_dir (bs : List EventBody) (s : State) : (State.postAll bs s).dir = s.dir := by
  induction bs generalizing s with
  | nil => rfl
  | cons b bs ih => simp [State.postAll, ih]
@[simp] theorem State.postAll_rosters (bs : List EventBody) (s : State) : (State.postAll bs s).rosters = s.rosters := by
  induction bs generalizing s with
  | nil => rfl
  | cons b bs ih => simp [State.postAll, ih]
@[simp] theorem State.postAll_unresolved (bs : List EventBody) (s : State) : (State.postAll bs s).unresolved = s.unresolved := by
  induction bs generalizing s with
  | nil => rfl
  | cons b bs ih => simp [State.postAll, ih]
@[simp] theorem State.postAll_secs (bs : List EventBody) (s : State) : (State.postAll bs s).secs = s.secs := by
  induction bs generalizing s with
  | nil => rfl
  | cons b bs ih => simp [State.postAll, ih]
@[simp] theorem State.postAll_ltu (bs : List EventBody) (s : State) : (State.postAll bs s).ltu = s.ltu := by
  induction bs generalizing s with
  | nil => rfl
  | cons b bs ih => simp [State.postAll, ih]
@[simp] theorem State.postAll_calls (bs : List EventBody) (s : State) : (State.postAll bs s).calls = s.calls := by
  induction bs generalizing s with
  | nil => rfl
  | cons b bs ih => simp [State.postAll, ih]
@[simp] theorem State.postAll_history (bs : List EventBody) (s : State) : (State.postAll bs s).history = s.history := by
  induction bs generalizing s with
  | nil => rfl
  | cons b bs ih => simp [State.postAll, ih]
@[simp] theorem State.postAll_nextRef (bs : List EventBody) (s : State) : (State.postAll bs s).nextRef = s.nextRef := by
  induction bs generalizing s with
  | nil => rfl
  | cons b bs ih => simp [State.postAll, ih]
@[simp] theorem State.postAll_fullEpisode (bs : List EventBody) (s : State) : (State.postAll bs s).fullEpisode = s.fullEpisode := by
  induction bs generalizing s with
  | nil => rfl
  | cons b bs ih => simp [State.postAll, ih]
@[simp] theorem State.postAll_channels (bs : List EventBody) (s : State) : (State.postAll bs s).channels = s.channels := by
  induction bs generalizing s with
  | nil => rfl
  | cons b bs ih => simp [State.postAll, ih]
@[simp] theorem State.postAll_holders (bs : List EventBody) (s : State) : (State.postAll bs s).holders = s.holders := by
  induction bs generalizing s with
  | nil => rfl
  | cons b bs ih => simp [State.postAll, ih]
@[simp] theorem State.postAll_joins (bs : List EventBody) (s : State) : (State.postAll bs s).joins = s.joins := by
  induction bs generalizing s with
  | nil => rfl
  | cons b bs ih => simp [State.postAll, ih]
@[simp] theorem State.postAll_dispatchDue (bs : List EventBody) (s : State) : (State.postAll bs s).dispatchDue = s.dispatchDue := by
  induction bs generalizing s with
  | nil => rfl
  | cons b bs ih => simp [State.postAll, ih]
@[simp] theorem State.postAll_pending (bs : List EventBody) (s : State) : (State.postAll bs s).pending = s.pending := by
  induction bs generalizing s with
  | nil => rfl
  | cons b bs ih => simp [State.postAll, ih]

/-! ## Fields an update writes -/

@[simp] theorem State.reach_nowMs (s : State) (m : Nat) : (s.reach m).nowMs = max s.nowMs m := rfl
@[simp] theorem State.markDispatch_dispatchDue (s : State) : s.markDispatch.dispatchDue = true := rfl
@[simp] theorem State.modCall_calls (s : State) (r : Nat) (f : Call → Call) :
    (s.modCall r f).calls = s.calls.map (fun c => if c.ref == r then f c else c) := rfl

/-! ## Reading a table after a write -/

theorem vget_set {α : Type} {n : Nat} (v : Vector α n) (i j : Fin n) (x : α) :
    (v.set i.val x i.isLt).get j = if i = j then x else v.get j := by
  have h := Vector.getElem_set (xs := v) (i := i.val) (x := x) (j := j.val) i.isLt j.isLt
  simp only [Vector.get_eq_getElem, h, Fin.ext_iff]

@[simp] theorem State.sec_setSec (s : State) (i j : SectionId) (x : SectionCtl) :
    (s.setSec i x).sec j = if i = j then x else s.sec j := vget_set _ _ _ _
@[simp] theorem State.sec_modSec (s : State) (i j : SectionId) (f : SectionCtl → SectionCtl) :
    (s.modSec i f).sec j = if i = j then f (s.sec i) else s.sec j := vget_set _ _ _ _
@[simp] theorem State.sec_modLine (s : State) (i j : SectionId) (f : SectionCtl → SectionCtl) :
    (s.modLine i f).sec j = if i = j then (f (s.sec i)).retime s.nowMs else s.sec j := vget_set _ _ _ _
@[simp] theorem State.ltuOf_setLtu (s : State) (i j : SectionId) (x : LtuSection) :
    (s.setLtu i x).ltuOf j = if i = j then x else s.ltuOf j := vget_set _ _ _ _
@[simp] theorem State.chan_setChan (s : State) (c d : ChanId) (x : Channel) :
    (s.setChan c x).chan d = if c = d then x else s.chan d := vget_set _ _ _ _
@[simp] theorem State.holder_setHolder (s : State) (i j : SectionId) (r : Option Nat) :
    (s.setHolder i r).holder j = if i = j then r else s.holder j := vget_set _ _ _ _
@[simp] theorem State.join_setJoin (s : State) (i j : SectionId) (k : Join) :
    (s.setJoin i k).join j = if i = j then k else s.join j := vget_set _ _ _ _
theorem State.entry_setEntry (s : State) (r q : Fin 64) (c d : Fin 2) (e : Option PostEntry) :
    (s.setEntry r c e).entry q d = if r = q ∧ c = d then e else s.entry q d := by
  unfold State.entry State.setEntry
  rw [vget_set]
  split
  · next h => subst h; rw [vget_set]; simp
  · next h => simp [h]

/-! ## Readings that depend on one field only -/

@[simp] theorem State.silent_setSec (s : State) (i : SectionId) (x : SectionCtl) : (s.setSec i x).silent = s.silent := rfl
@[simp] theorem State.ltuOf_setSec (s : State) (i : SectionId) (x : SectionCtl) (j' : SectionId) : (s.setSec i x).ltuOf j' = s.ltuOf j' := rfl
@[simp] theorem State.chan_setSec (s : State) (i : SectionId) (x : SectionCtl) (d' : ChanId) : (s.setSec i x).chan d' = s.chan d' := rfl
@[simp] theorem State.holder_setSec (s : State) (i : SectionId) (x : SectionCtl) (j' : SectionId) : (s.setSec i x).holder j' = s.holder j' := rfl
@[simp] theorem State.join_setSec (s : State) (i : SectionId) (x : SectionCtl) (j' : SectionId) : (s.setSec i x).join j' = s.join j' := rfl
@[simp] theorem State.entry_setSec (s : State) (i : SectionId) (x : SectionCtl) (q : Fin 64) (d : Fin 2) : (s.setSec i x).entry q d = s.entry q d := rfl
@[simp] theorem State.lookup_setSec (s : State) (i : SectionId) (x : SectionCtl) (n : Nat) : (s.setSec i x).lookup n = s.lookup n := rfl
@[simp] theorem State.slotAt_setSec (s : State) (i : SectionId) (x : SectionCtl) (j' : SectionId) (b' : Addr) : (s.setSec i x).slotAt j' b' = s.slotAt j' b' := rfl
@[simp] theorem State.findCall_setSec (s : State) (i : SectionId) (x : SectionCtl) (n : Nat) : (s.setSec i x).findCall n = s.findCall n := rfl
@[simp] theorem State.callAt_setSec (s : State) (i : SectionId) (x : SectionCtl) (j' : SectionId) (b' : Addr) : (s.setSec i x).callAt j' b' = s.callAt j' b' := rfl
@[simp] theorem State.callsOn_setSec (s : State) (i : SectionId) (x : SectionCtl) (j' : SectionId) : (s.setSec i x).callsOn j' = s.callsOn j' := rfl
@[simp] theorem State.freeChannel_setSec (s : State) (i : SectionId) (x : SectionCtl) : (s.setSec i x).freeChannel = s.freeChannel := rfl
@[simp] theorem State.silent_modSec (s : State) (i : SectionId) (f : SectionCtl → SectionCtl) : (s.modSec i f).silent = s.silent := rfl
@[simp] theorem State.ltuOf_modSec (s : State) (i : SectionId) (f : SectionCtl → SectionCtl) (j' : SectionId) : (s.modSec i f).ltuOf j' = s.ltuOf j' := rfl
@[simp] theorem State.chan_modSec (s : State) (i : SectionId) (f : SectionCtl → SectionCtl) (d' : ChanId) : (s.modSec i f).chan d' = s.chan d' := rfl
@[simp] theorem State.holder_modSec (s : State) (i : SectionId) (f : SectionCtl → SectionCtl) (j' : SectionId) : (s.modSec i f).holder j' = s.holder j' := rfl
@[simp] theorem State.join_modSec (s : State) (i : SectionId) (f : SectionCtl → SectionCtl) (j' : SectionId) : (s.modSec i f).join j' = s.join j' := rfl
@[simp] theorem State.entry_modSec (s : State) (i : SectionId) (f : SectionCtl → SectionCtl) (q : Fin 64) (d : Fin 2) : (s.modSec i f).entry q d = s.entry q d := rfl
@[simp] theorem State.lookup_modSec (s : State) (i : SectionId) (f : SectionCtl → SectionCtl) (n : Nat) : (s.modSec i f).lookup n = s.lookup n := rfl
@[simp] theorem State.slotAt_modSec (s : State) (i : SectionId) (f : SectionCtl → SectionCtl) (j' : SectionId) (b' : Addr) : (s.modSec i f).slotAt j' b' = s.slotAt j' b' := rfl
@[simp] theorem State.findCall_modSec (s : State) (i : SectionId) (f : SectionCtl → SectionCtl) (n : Nat) : (s.modSec i f).findCall n = s.findCall n := rfl
@[simp] theorem State.callAt_modSec (s : State) (i : SectionId) (f : SectionCtl → SectionCtl) (j' : SectionId) (b' : Addr) : (s.modSec i f).callAt j' b' = s.callAt j' b' := rfl
@[simp] theorem State.callsOn_modSec (s : State) (i : SectionId) (f : SectionCtl → SectionCtl) (j' : SectionId) : (s.modSec i f).callsOn j' = s.callsOn j' := rfl
@[simp] theorem State.freeChannel_modSec (s : State) (i : SectionId) (f : SectionCtl → SectionCtl) : (s.modSec i f).freeChannel = s.freeChannel := rfl
@[simp] theorem State.silent_modLine (s : State) (i : SectionId) (f : SectionCtl → SectionCtl) : (s.modLine i f).silent = s.silent := rfl
@[simp] theorem State.ltuOf_modLine (s : State) (i : SectionId) (f : SectionCtl → SectionCtl) (j' : SectionId) : (s.modLine i f).ltuOf j' = s.ltuOf j' := rfl
@[simp] theorem State.chan_modLine (s : State) (i : SectionId) (f : SectionCtl → SectionCtl) (d' : ChanId) : (s.modLine i f).chan d' = s.chan d' := rfl
@[simp] theorem State.holder_modLine (s : State) (i : SectionId) (f : SectionCtl → SectionCtl) (j' : SectionId) : (s.modLine i f).holder j' = s.holder j' := rfl
@[simp] theorem State.join_modLine (s : State) (i : SectionId) (f : SectionCtl → SectionCtl) (j' : SectionId) : (s.modLine i f).join j' = s.join j' := rfl
@[simp] theorem State.entry_modLine (s : State) (i : SectionId) (f : SectionCtl → SectionCtl) (q : Fin 64) (d : Fin 2) : (s.modLine i f).entry q d = s.entry q d := rfl
@[simp] theorem State.lookup_modLine (s : State) (i : SectionId) (f : SectionCtl → SectionCtl) (n : Nat) : (s.modLine i f).lookup n = s.lookup n := rfl
@[simp] theorem State.slotAt_modLine (s : State) (i : SectionId) (f : SectionCtl → SectionCtl) (j' : SectionId) (b' : Addr) : (s.modLine i f).slotAt j' b' = s.slotAt j' b' := rfl
@[simp] theorem State.findCall_modLine (s : State) (i : SectionId) (f : SectionCtl → SectionCtl) (n : Nat) : (s.modLine i f).findCall n = s.findCall n := rfl
@[simp] theorem State.callAt_modLine (s : State) (i : SectionId) (f : SectionCtl → SectionCtl) (j' : SectionId) (b' : Addr) : (s.modLine i f).callAt j' b' = s.callAt j' b' := rfl
@[simp] theorem State.callsOn_modLine (s : State) (i : SectionId) (f : SectionCtl → SectionCtl) (j' : SectionId) : (s.modLine i f).callsOn j' = s.callsOn j' := rfl
@[simp] theorem State.freeChannel_modLine (s : State) (i : SectionId) (f : SectionCtl → SectionCtl) : (s.modLine i f).freeChannel = s.freeChannel := rfl
@[simp] theorem State.silent_setLtu (s : State) (i : SectionId) (x : LtuSection) : (s.setLtu i x).silent = s.silent := rfl
@[simp] theorem State.sec_setLtu (s : State) (i : SectionId) (x : LtuSection) (j' : SectionId) : (s.setLtu i x).sec j' = s.sec j' := rfl
@[simp] theorem State.chan_setLtu (s : State) (i : SectionId) (x : LtuSection) (d' : ChanId) : (s.setLtu i x).chan d' = s.chan d' := rfl
@[simp] theorem State.holder_setLtu (s : State) (i : SectionId) (x : LtuSection) (j' : SectionId) : (s.setLtu i x).holder j' = s.holder j' := rfl
@[simp] theorem State.join_setLtu (s : State) (i : SectionId) (x : LtuSection) (j' : SectionId) : (s.setLtu i x).join j' = s.join j' := rfl
@[simp] theorem State.entry_setLtu (s : State) (i : SectionId) (x : LtuSection) (q : Fin 64) (d : Fin 2) : (s.setLtu i x).entry q d = s.entry q d := rfl
@[simp] theorem State.lookup_setLtu (s : State) (i : SectionId) (x : LtuSection) (n : Nat) : (s.setLtu i x).lookup n = s.lookup n := rfl
@[simp] theorem State.slotAt_setLtu (s : State) (i : SectionId) (x : LtuSection) (j' : SectionId) (b' : Addr) : (s.setLtu i x).slotAt j' b' = s.slotAt j' b' := rfl
@[simp] theorem State.findCall_setLtu (s : State) (i : SectionId) (x : LtuSection) (n : Nat) : (s.setLtu i x).findCall n = s.findCall n := rfl
@[simp] theorem State.callAt_setLtu (s : State) (i : SectionId) (x : LtuSection) (j' : SectionId) (b' : Addr) : (s.setLtu i x).callAt j' b' = s.callAt j' b' := rfl
@[simp] theorem State.callsOn_setLtu (s : State) (i : SectionId) (x : LtuSection) (j' : SectionId) : (s.setLtu i x).callsOn j' = s.callsOn j' := rfl
@[simp] theorem State.freeChannel_setLtu (s : State) (i : SectionId) (x : LtuSection) : (s.setLtu i x).freeChannel = s.freeChannel := rfl
@[simp] theorem State.silent_setChan (s : State) (c : ChanId) (x : Channel) : (s.setChan c x).silent = s.silent := rfl
@[simp] theorem State.sec_setChan (s : State) (c : ChanId) (x : Channel) (j' : SectionId) : (s.setChan c x).sec j' = s.sec j' := rfl
@[simp] theorem State.ltuOf_setChan (s : State) (c : ChanId) (x : Channel) (j' : SectionId) : (s.setChan c x).ltuOf j' = s.ltuOf j' := rfl
@[simp] theorem State.holder_setChan (s : State) (c : ChanId) (x : Channel) (j' : SectionId) : (s.setChan c x).holder j' = s.holder j' := rfl
@[simp] theorem State.join_setChan (s : State) (c : ChanId) (x : Channel) (j' : SectionId) : (s.setChan c x).join j' = s.join j' := rfl
@[simp] theorem State.entry_setChan (s : State) (c : ChanId) (x : Channel) (q : Fin 64) (d : Fin 2) : (s.setChan c x).entry q d = s.entry q d := rfl
@[simp] theorem State.lookup_setChan (s : State) (c : ChanId) (x : Channel) (n : Nat) : (s.setChan c x).lookup n = s.lookup n := rfl
@[simp] theorem State.slotAt_setChan (s : State) (c : ChanId) (x : Channel) (j' : SectionId) (b' : Addr) : (s.setChan c x).slotAt j' b' = s.slotAt j' b' := rfl
@[simp] theorem State.findCall_setChan (s : State) (c : ChanId) (x : Channel) (n : Nat) : (s.setChan c x).findCall n = s.findCall n := rfl
@[simp] theorem State.callAt_setChan (s : State) (c : ChanId) (x : Channel) (j' : SectionId) (b' : Addr) : (s.setChan c x).callAt j' b' = s.callAt j' b' := rfl
@[simp] theorem State.callsOn_setChan (s : State) (c : ChanId) (x : Channel) (j' : SectionId) : (s.setChan c x).callsOn j' = s.callsOn j' := rfl
@[simp] theorem State.silent_setHolder (s : State) (i : SectionId) (r : Option Nat) : (s.setHolder i r).silent = s.silent := rfl
@[simp] theorem State.sec_setHolder (s : State) (i : SectionId) (r : Option Nat) (j' : SectionId) : (s.setHolder i r).sec j' = s.sec j' := rfl
@[simp] theorem State.ltuOf_setHolder (s : State) (i : SectionId) (r : Option Nat) (j' : SectionId) : (s.setHolder i r).ltuOf j' = s.ltuOf j' := rfl
@[simp] theorem State.chan_setHolder (s : State) (i : SectionId) (r : Option Nat) (d' : ChanId) : (s.setHolder i r).chan d' = s.chan d' := rfl
@[simp] theorem State.join_setHolder (s : State) (i : SectionId) (r : Option Nat) (j' : SectionId) : (s.setHolder i r).join j' = s.join j' := rfl
@[simp] theorem State.entry_setHolder (s : State) (i : SectionId) (r : Option Nat) (q : Fin 64) (d : Fin 2) : (s.setHolder i r).entry q d = s.entry q d := rfl
@[simp] theorem State.lookup_setHolder (s : State) (i : SectionId) (r : Option Nat) (n : Nat) : (s.setHolder i r).lookup n = s.lookup n := rfl
@[simp] theorem State.slotAt_setHolder (s : State) (i : SectionId) (r : Option Nat) (j' : SectionId) (b' : Addr) : (s.setHolder i r).slotAt j' b' = s.slotAt j' b' := rfl
@[simp] theorem State.findCall_setHolder (s : State) (i : SectionId) (r : Option Nat) (n : Nat) : (s.setHolder i r).findCall n = s.findCall n := rfl
@[simp] theorem State.callAt_setHolder (s : State) (i : SectionId) (r : Option Nat) (j' : SectionId) (b' : Addr) : (s.setHolder i r).callAt j' b' = s.callAt j' b' := rfl
@[simp] theorem State.callsOn_setHolder (s : State) (i : SectionId) (r : Option Nat) (j' : SectionId) : (s.setHolder i r).callsOn j' = s.callsOn j' := rfl
@[simp] theorem State.freeChannel_setHolder (s : State) (i : SectionId) (r : Option Nat) : (s.setHolder i r).freeChannel = s.freeChannel := rfl
@[simp] theorem State.silent_setJoin (s : State) (i : SectionId) (j : Join) : (s.setJoin i j).silent = s.silent := rfl
@[simp] theorem State.sec_setJoin (s : State) (i : SectionId) (j : Join) (j' : SectionId) : (s.setJoin i j).sec j' = s.sec j' := rfl
@[simp] theorem State.ltuOf_setJoin (s : State) (i : SectionId) (j : Join) (j' : SectionId) : (s.setJoin i j).ltuOf j' = s.ltuOf j' := rfl
@[simp] theorem State.chan_setJoin (s : State) (i : SectionId) (j : Join) (d' : ChanId) : (s.setJoin i j).chan d' = s.chan d' := rfl
@[simp] theorem State.holder_setJoin (s : State) (i : SectionId) (j : Join) (j' : SectionId) : (s.setJoin i j).holder j' = s.holder j' := rfl
@[simp] theorem State.entry_setJoin (s : State) (i : SectionId) (j : Join) (q : Fin 64) (d : Fin 2) : (s.setJoin i j).entry q d = s.entry q d := rfl
@[simp] theorem State.lookup_setJoin (s : State) (i : SectionId) (j : Join) (n : Nat) : (s.setJoin i j).lookup n = s.lookup n := rfl
@[simp] theorem State.slotAt_setJoin (s : State) (i : SectionId) (j : Join) (j' : SectionId) (b' : Addr) : (s.setJoin i j).slotAt j' b' = s.slotAt j' b' := rfl
@[simp] theorem State.findCall_setJoin (s : State) (i : SectionId) (j : Join) (n : Nat) : (s.setJoin i j).findCall n = s.findCall n := rfl
@[simp] theorem State.callAt_setJoin (s : State) (i : SectionId) (j : Join) (j' : SectionId) (b' : Addr) : (s.setJoin i j).callAt j' b' = s.callAt j' b' := rfl
@[simp] theorem State.callsOn_setJoin (s : State) (i : SectionId) (j : Join) (j' : SectionId) : (s.setJoin i j).callsOn j' = s.callsOn j' := rfl
@[simp] theorem State.freeChannel_setJoin (s : State) (i : SectionId) (j : Join) : (s.setJoin i j).freeChannel = s.freeChannel := rfl
@[simp] theorem State.silent_setEntry (s : State) (r : Fin 64) (c : Fin 2) (e : Option PostEntry) : (s.setEntry r c e).silent = s.silent := rfl
@[simp] theorem State.sec_setEntry (s : State) (r : Fin 64) (c : Fin 2) (e : Option PostEntry) (j' : SectionId) : (s.setEntry r c e).sec j' = s.sec j' := rfl
@[simp] theorem State.ltuOf_setEntry (s : State) (r : Fin 64) (c : Fin 2) (e : Option PostEntry) (j' : SectionId) : (s.setEntry r c e).ltuOf j' = s.ltuOf j' := rfl
@[simp] theorem State.chan_setEntry (s : State) (r : Fin 64) (c : Fin 2) (e : Option PostEntry) (d' : ChanId) : (s.setEntry r c e).chan d' = s.chan d' := rfl
@[simp] theorem State.holder_setEntry (s : State) (r : Fin 64) (c : Fin 2) (e : Option PostEntry) (j' : SectionId) : (s.setEntry r c e).holder j' = s.holder j' := rfl
@[simp] theorem State.join_setEntry (s : State) (r : Fin 64) (c : Fin 2) (e : Option PostEntry) (j' : SectionId) : (s.setEntry r c e).join j' = s.join j' := rfl
@[simp] theorem State.slotAt_setEntry (s : State) (r : Fin 64) (c : Fin 2) (e : Option PostEntry) (j' : SectionId) (b' : Addr) : (s.setEntry r c e).slotAt j' b' = s.slotAt j' b' := rfl
@[simp] theorem State.findCall_setEntry (s : State) (r : Fin 64) (c : Fin 2) (e : Option PostEntry) (n : Nat) : (s.setEntry r c e).findCall n = s.findCall n := rfl
@[simp] theorem State.callAt_setEntry (s : State) (r : Fin 64) (c : Fin 2) (e : Option PostEntry) (j' : SectionId) (b' : Addr) : (s.setEntry r c e).callAt j' b' = s.callAt j' b' := rfl
@[simp] theorem State.callsOn_setEntry (s : State) (r : Fin 64) (c : Fin 2) (e : Option PostEntry) (j' : SectionId) : (s.setEntry r c e).callsOn j' = s.callsOn j' := rfl
@[simp] theorem State.freeChannel_setEntry (s : State) (r : Fin 64) (c : Fin 2) (e : Option PostEntry) : (s.setEntry r c e).freeChannel = s.freeChannel := rfl
@[simp] theorem State.silent_modCall (s : State) (r : Nat) (f : Call → Call) : (s.modCall r f).silent = s.silent := rfl
@[simp] theorem State.sec_modCall (s : State) (r : Nat) (f : Call → Call) (j' : SectionId) : (s.modCall r f).sec j' = s.sec j' := rfl
@[simp] theorem State.ltuOf_modCall (s : State) (r : Nat) (f : Call → Call) (j' : SectionId) : (s.modCall r f).ltuOf j' = s.ltuOf j' := rfl
@[simp] theorem State.chan_modCall (s : State) (r : Nat) (f : Call → Call) (d' : ChanId) : (s.modCall r f).chan d' = s.chan d' := rfl
@[simp] theorem State.holder_modCall (s : State) (r : Nat) (f : Call → Call) (j' : SectionId) : (s.modCall r f).holder j' = s.holder j' := rfl
@[simp] theorem State.join_modCall (s : State) (r : Nat) (f : Call → Call) (j' : SectionId) : (s.modCall r f).join j' = s.join j' := rfl
@[simp] theorem State.entry_modCall (s : State) (r : Nat) (f : Call → Call) (q : Fin 64) (d : Fin 2) : (s.modCall r f).entry q d = s.entry q d := rfl
@[simp] theorem State.lookup_modCall (s : State) (r : Nat) (f : Call → Call) (n : Nat) : (s.modCall r f).lookup n = s.lookup n := rfl
@[simp] theorem State.slotAt_modCall (s : State) (r : Nat) (f : Call → Call) (j' : SectionId) (b' : Addr) : (s.modCall r f).slotAt j' b' = s.slotAt j' b' := rfl
@[simp] theorem State.freeChannel_modCall (s : State) (r : Nat) (f : Call → Call) : (s.modCall r f).freeChannel = s.freeChannel := rfl
@[simp] theorem State.silent_reach (s : State) (m : Nat) : (s.reach m).silent = s.silent := rfl
@[simp] theorem State.sec_reach (s : State) (m : Nat) (j' : SectionId) : (s.reach m).sec j' = s.sec j' := rfl
@[simp] theorem State.ltuOf_reach (s : State) (m : Nat) (j' : SectionId) : (s.reach m).ltuOf j' = s.ltuOf j' := rfl
@[simp] theorem State.chan_reach (s : State) (m : Nat) (d' : ChanId) : (s.reach m).chan d' = s.chan d' := rfl
@[simp] theorem State.holder_reach (s : State) (m : Nat) (j' : SectionId) : (s.reach m).holder j' = s.holder j' := rfl
@[simp] theorem State.join_reach (s : State) (m : Nat) (j' : SectionId) : (s.reach m).join j' = s.join j' := rfl
@[simp] theorem State.entry_reach (s : State) (m : Nat) (q : Fin 64) (d : Fin 2) : (s.reach m).entry q d = s.entry q d := rfl
@[simp] theorem State.lookup_reach (s : State) (m : Nat) (n : Nat) : (s.reach m).lookup n = s.lookup n := rfl
@[simp] theorem State.slotAt_reach (s : State) (m : Nat) (j' : SectionId) (b' : Addr) : (s.reach m).slotAt j' b' = s.slotAt j' b' := rfl
@[simp] theorem State.findCall_reach (s : State) (m : Nat) (n : Nat) : (s.reach m).findCall n = s.findCall n := rfl
@[simp] theorem State.callAt_reach (s : State) (m : Nat) (j' : SectionId) (b' : Addr) : (s.reach m).callAt j' b' = s.callAt j' b' := rfl
@[simp] theorem State.callsOn_reach (s : State) (m : Nat) (j' : SectionId) : (s.reach m).callsOn j' = s.callsOn j' := rfl
@[simp] theorem State.freeChannel_reach (s : State) (m : Nat) : (s.reach m).freeChannel = s.freeChannel := rfl
@[simp] theorem State.silent_markDispatch (s : State) : (s.markDispatch).silent = s.silent := rfl
@[simp] theorem State.sec_markDispatch (s : State) (j' : SectionId) : (s.markDispatch).sec j' = s.sec j' := rfl
@[simp] theorem State.ltuOf_markDispatch (s : State) (j' : SectionId) : (s.markDispatch).ltuOf j' = s.ltuOf j' := rfl
@[simp] theorem State.chan_markDispatch (s : State) (d' : ChanId) : (s.markDispatch).chan d' = s.chan d' := rfl
@[simp] theorem State.holder_markDispatch (s : State) (j' : SectionId) : (s.markDispatch).holder j' = s.holder j' := rfl
@[simp] theorem State.join_markDispatch (s : State) (j' : SectionId) : (s.markDispatch).join j' = s.join j' := rfl
@[simp] theorem State.entry_markDispatch (s : State) (q : Fin 64) (d : Fin 2) : (s.markDispatch).entry q d = s.entry q d := rfl
@[simp] theorem State.lookup_markDispatch (s : State) (n : Nat) : (s.markDispatch).lookup n = s.lookup n := rfl
@[simp] theorem State.slotAt_markDispatch (s : State) (j' : SectionId) (b' : Addr) : (s.markDispatch).slotAt j' b' = s.slotAt j' b' := rfl
@[simp] theorem State.findCall_markDispatch (s : State) (n : Nat) : (s.markDispatch).findCall n = s.findCall n := rfl
@[simp] theorem State.callAt_markDispatch (s : State) (j' : SectionId) (b' : Addr) : (s.markDispatch).callAt j' b' = s.callAt j' b' := rfl
@[simp] theorem State.callsOn_markDispatch (s : State) (j' : SectionId) : (s.markDispatch).callsOn j' = s.callsOn j' := rfl
@[simp] theorem State.freeChannel_markDispatch (s : State) : (s.markDispatch).freeChannel = s.freeChannel := rfl
@[simp] theorem State.silent_tickMs (s : State) : (s.tickMs).silent = s.silent := rfl
@[simp] theorem State.sec_tickMs (s : State) (j' : SectionId) : (s.tickMs).sec j' = s.sec j' := rfl
@[simp] theorem State.ltuOf_tickMs (s : State) (j' : SectionId) : (s.tickMs).ltuOf j' = s.ltuOf j' := rfl
@[simp] theorem State.chan_tickMs (s : State) (d' : ChanId) : (s.tickMs).chan d' = s.chan d' := rfl
@[simp] theorem State.holder_tickMs (s : State) (j' : SectionId) : (s.tickMs).holder j' = s.holder j' := rfl
@[simp] theorem State.join_tickMs (s : State) (j' : SectionId) : (s.tickMs).join j' = s.join j' := rfl
@[simp] theorem State.entry_tickMs (s : State) (q : Fin 64) (d : Fin 2) : (s.tickMs).entry q d = s.entry q d := rfl
@[simp] theorem State.lookup_tickMs (s : State) (n : Nat) : (s.tickMs).lookup n = s.lookup n := rfl
@[simp] theorem State.slotAt_tickMs (s : State) (j' : SectionId) (b' : Addr) : (s.tickMs).slotAt j' b' = s.slotAt j' b' := rfl
@[simp] theorem State.findCall_tickMs (s : State) (n : Nat) : (s.tickMs).findCall n = s.findCall n := rfl
@[simp] theorem State.callAt_tickMs (s : State) (j' : SectionId) (b' : Addr) : (s.tickMs).callAt j' b' = s.callAt j' b' := rfl
@[simp] theorem State.callsOn_tickMs (s : State) (j' : SectionId) : (s.tickMs).callsOn j' = s.callsOn j' := rfl
@[simp] theorem State.freeChannel_tickMs (s : State) : (s.tickMs).freeChannel = s.freeChannel := rfl
@[simp] theorem State.silent_tickSecond (s : State) : (s.tickSecond).silent = s.silent := rfl
@[simp] theorem State.sec_tickSecond (s : State) (j' : SectionId) : (s.tickSecond).sec j' = s.sec j' := rfl
@[simp] theorem State.ltuOf_tickSecond (s : State) (j' : SectionId) : (s.tickSecond).ltuOf j' = s.ltuOf j' := rfl
@[simp] theorem State.chan_tickSecond (s : State) (d' : ChanId) : (s.tickSecond).chan d' = s.chan d' := rfl
@[simp] theorem State.holder_tickSecond (s : State) (j' : SectionId) : (s.tickSecond).holder j' = s.holder j' := rfl
@[simp] theorem State.join_tickSecond (s : State) (j' : SectionId) : (s.tickSecond).join j' = s.join j' := rfl
@[simp] theorem State.entry_tickSecond (s : State) (q : Fin 64) (d : Fin 2) : (s.tickSecond).entry q d = s.entry q d := rfl
@[simp] theorem State.lookup_tickSecond (s : State) (n : Nat) : (s.tickSecond).lookup n = s.lookup n := rfl
@[simp] theorem State.slotAt_tickSecond (s : State) (j' : SectionId) (b' : Addr) : (s.tickSecond).slotAt j' b' = s.slotAt j' b' := rfl
@[simp] theorem State.findCall_tickSecond (s : State) (n : Nat) : (s.tickSecond).findCall n = s.findCall n := rfl
@[simp] theorem State.callAt_tickSecond (s : State) (j' : SectionId) (b' : Addr) : (s.tickSecond).callAt j' b' = s.callAt j' b' := rfl
@[simp] theorem State.callsOn_tickSecond (s : State) (j' : SectionId) : (s.tickSecond).callsOn j' = s.callsOn j' := rfl
@[simp] theorem State.freeChannel_tickSecond (s : State) : (s.tickSecond).freeChannel = s.freeChannel := rfl
@[simp] theorem State.silent_setSlot (s : State) (i : SectionId) (a : Addr) (p : Option Nat) : (s.setSlot i a p).silent = s.silent := by simp [State.silent]
@[simp] theorem State.sec_setSlot (s : State) (i : SectionId) (a : Addr) (p : Option Nat) (j' : SectionId) : (s.setSlot i a p).sec j' = s.sec j' := by simp [State.sec]
@[simp] theorem State.ltuOf_setSlot (s : State) (i : SectionId) (a : Addr) (p : Option Nat) (j' : SectionId) : (s.setSlot i a p).ltuOf j' = s.ltuOf j' := by simp [State.ltuOf]
@[simp] theorem State.chan_setSlot (s : State) (i : SectionId) (a : Addr) (p : Option Nat) (d' : ChanId) : (s.setSlot i a p).chan d' = s.chan d' := by simp [State.chan]
@[simp] theorem State.holder_setSlot (s : State) (i : SectionId) (a : Addr) (p : Option Nat) (j' : SectionId) : (s.setSlot i a p).holder j' = s.holder j' := by simp [State.holder]
@[simp] theorem State.join_setSlot (s : State) (i : SectionId) (a : Addr) (p : Option Nat) (j' : SectionId) : (s.setSlot i a p).join j' = s.join j' := by simp [State.join]
@[simp] theorem State.entry_setSlot (s : State) (i : SectionId) (a : Addr) (p : Option Nat) (q : Fin 64) (d : Fin 2) : (s.setSlot i a p).entry q d = s.entry q d := by simp [State.entry]
@[simp] theorem State.lookup_setSlot (s : State) (i : SectionId) (a : Addr) (p : Option Nat) (n : Nat) : (s.setSlot i a p).lookup n = s.lookup n := by simp [State.lookup, State.entry]
@[simp] theorem State.findCall_setSlot (s : State) (i : SectionId) (a : Addr) (p : Option Nat) (n : Nat) : (s.setSlot i a p).findCall n = s.findCall n := by simp [State.findCall]
@[simp] theorem State.callAt_setSlot (s : State) (i : SectionId) (a : Addr) (p : Option Nat) (j' : SectionId) (b' : Addr) : (s.setSlot i a p).callAt j' b' = s.callAt j' b' := by simp [State.callAt]
@[simp] theorem State.callsOn_setSlot (s : State) (i : SectionId) (a : Addr) (p : Option Nat) (j' : SectionId) : (s.setSlot i a p).callsOn j' = s.callsOn j' := by simp [State.callsOn]
@[simp] theorem State.freeChannel_setSlot (s : State) (i : SectionId) (a : Addr) (p : Option Nat) : (s.setSlot i a p).freeChannel = s.freeChannel := by simp [State.freeChannel]
@[simp] theorem State.silent_post (b : EventBody) (s : State) : (s.post b).silent = s.silent := by simp [State.silent]
@[simp] theorem State.silent_postAll (bs : List EventBody) (s : State) : (State.postAll bs s).silent = s.silent := by
  simp [State.silent]
@[simp] theorem State.sec_post (b : EventBody) (s : State) (j' : SectionId) : (s.post b).sec j' = s.sec j' := by simp [State.sec]
@[simp] theorem State.ltuOf_post (b : EventBody) (s : State) (j' : SectionId) : (s.post b).ltuOf j' = s.ltuOf j' := by simp [State.ltuOf]
@[simp] theorem State.chan_post (b : EventBody) (s : State) (d' : ChanId) : (s.post b).chan d' = s.chan d' := by simp [State.chan]
@[simp] theorem State.holder_post (b : EventBody) (s : State) (j' : SectionId) : (s.post b).holder j' = s.holder j' := by simp [State.holder]
@[simp] theorem State.join_post (b : EventBody) (s : State) (j' : SectionId) : (s.post b).join j' = s.join j' := by simp [State.join]
@[simp] theorem State.entry_post (b : EventBody) (s : State) (q : Fin 64) (d : Fin 2) : (s.post b).entry q d = s.entry q d := by simp [State.entry]
@[simp] theorem State.lookup_post (b : EventBody) (s : State) (n : Nat) : (s.post b).lookup n = s.lookup n := by simp [State.lookup, State.entry]
@[simp] theorem State.slotAt_post (b : EventBody) (s : State) (j' : SectionId) (b' : Addr) : (s.post b).slotAt j' b' = s.slotAt j' b' := by simp [State.slotAt]
@[simp] theorem State.findCall_post (b : EventBody) (s : State) (n : Nat) : (s.post b).findCall n = s.findCall n := by simp [State.findCall]
@[simp] theorem State.callAt_post (b : EventBody) (s : State) (j' : SectionId) (b' : Addr) : (s.post b).callAt j' b' = s.callAt j' b' := by simp [State.callAt]
@[simp] theorem State.callsOn_post (b : EventBody) (s : State) (j' : SectionId) : (s.post b).callsOn j' = s.callsOn j' := by simp [State.callsOn]
@[simp] theorem State.freeChannel_post (b : EventBody) (s : State) : (s.post b).freeChannel = s.freeChannel := by simp [State.freeChannel]

end Sys2Proof.Machine
end

