-- ==== Sys2Proof/Laws/Frames.lean ====
section
/-! SUPPORT. What an operation of the part leaves alone: the frame that every operation inside a command keeps, and one lemma per
operation of the section controllers. -/

namespace Sys2Proof.Machine

/-! ## Posting -/

theorem State.post_events_congr (b : EventBody) {s t : State} (h : t.events = s.events) (hr : t.silent = s.silent)
    (hs : t.seconds = s.seconds) : (t.post b).events = (s.post b).events := by
  unfold State.post
  rw [hr, h, hs]
  split
  · exact h
  · split <;> rfl

theorem State.postAll_events_congr (bs : List EventBody) {s t : State} (h : t.events = s.events)
    (hr : t.silent = s.silent) (hs : t.seconds = s.seconds) : (State.postAll bs t).events = (State.postAll bs s).events := by
  induction bs generalizing s t with
  | nil => exact h
  | cons b bs ih => exact ih (State.post_events_congr b h hr hs) (by simp [hr]) (by simp [hs])

theorem State.postAll_append (bs cs : List EventBody) (s : State) :
    State.postAll (bs ++ cs) s = State.postAll cs (State.postAll bs s) := by
  induction bs generalizing s with
  | nil => rfl
  | cons b bs ih => exact ih (s.post b)

/-! ## The frame of everything that happens inside a command -/

/-- What no operation of the line, the directory or the call manager touches: the host link, the mode and settings, the clocks,
the rosters, the unresolved-post record and the waiting commands; of the event queue, that events are only posted. -/
structure State.Inner (s t : State) : Prop where
  rx : t.rx = s.rx
  buffer : t.buffer = s.buffer
  reply : t.reply = s.reply
  headTaken : t.headTaken = s.headTaken
  resetHeld : t.resetHeld = s.resetHeld
  poweringUp : t.poweringUp = s.poweringUp
  mode : t.mode = s.mode
  globals : t.globals = s.globals
  seconds : t.seconds = s.seconds
  nowMs : t.nowMs = s.nowMs
  rosters : t.rosters = s.rosters
  unresolved : t.unresolved = s.unresolved
  pending : t.pending = s.pending
  told : ∃ bs, s.Tells t bs

theorem State.Inner.refl (s : State) : s.Inner s := ⟨rfl, rfl, rfl, rfl, rfl, rfl, rfl, rfl, rfl, rfl, rfl, rfl, rfl, [], rfl⟩

theorem State.Tells.trans {s t u : State} {bs cs : List EventBody} (h1 : s.Tells t bs) (hr : t.silent = s.silent)
    (hs : t.seconds = s.seconds) (h2 : t.Tells u cs) : s.Tells u (bs ++ cs) := by
  unfold State.Tells at *
  rw [h2, State.postAll_append]
  exact State.postAll_events_congr cs h1 (by simp [hr]) (by simp [hs])

/-- Nothing inside a command holds the part silent or lets it speak. -/
theorem State.Inner.silent {s t : State} (h : s.Inner t) : t.silent = s.silent := by
  unfold State.silent
  rw [h.resetHeld, h.poweringUp]

theorem State.Inner.trans {s t u : State} (h1 : s.Inner t) (h2 : t.Inner u) : s.Inner u := by
  have hw := h1.silent
  obtain ⟨a1, a2, a3, a4, a5, a6, a7, a8, a9, a10, a11, a12, a13, bs, hb⟩ := h1
  obtain ⟨b1, b2, b3, b4, b5, b6, b7, b8, b9, b10, b11, b12, b13, cs, hc⟩ := h2
  exact ⟨b1.trans a1, b2.trans a2, b3.trans a3, b4.trans a4, b5.trans a5, b6.trans a6, b7.trans a7, b8.trans a8, b9.trans a9,
    b10.trans a10, b11.trans a11, b12.trans a12, b13.trans a13, bs ++ cs, hb.trans hw a9 hc⟩

/-- The frame of what happens on section `i`: `Inner`, and every other section's controller and line test record as they were. -/
structure State.OnSection (i : SectionId) (s t : State) : Prop extends State.Inner s t where
  others : s.SameOtherSections i t

theorem State.OnSection.refl (i : SectionId) (s : State) : s.OnSection i s := ⟨.refl s, fun _ _ => ⟨rfl, rfl⟩⟩

theorem State.OnSection.trans {i : SectionId} {s t u : State} (h1 : State.OnSection i s t) (h2 : State.OnSection i t u) :
    State.OnSection i s u :=
  ⟨h1.toInner.trans h2.toInner, fun j hj => ⟨(h2.others j hj).1.trans (h1.others j hj).1, (h2.others j hj).2.trans (h1.others j hj).2⟩⟩

theorem State.SameCalls.trans {s t u : State} (h1 : s.SameCalls t) (h2 : t.SameCalls u) : s.SameCalls u := by
  obtain ⟨a1, a2, a3, a4, a5, a6, a7⟩ := h1
  obtain ⟨b1, b2, b3, b4, b5, b6, b7⟩ := h2
  exact ⟨b1.trans a1, b2.trans a2, b3.trans a3, b4.trans a4, b5.trans a5, b6.trans a6, b7.trans a7⟩

/-- The frame of what touches no call: `OnSection`, the call manager as it was, and no occasion for the dispatcher. -/
structure State.NoCall (i : SectionId) (s t : State) : Prop extends State.OnSection i s t where
  calls : s.SameCalls t
  due : t.dispatchDue = s.dispatchDue

theorem State.NoCall.refl (i : SectionId) (s : State) : s.NoCall i s := ⟨.refl i s, ⟨rfl, rfl, rfl, rfl, rfl, rfl, rfl⟩, rfl⟩

theorem State.NoCall.trans {i : SectionId} {s t u : State} (h1 : State.NoCall i s t) (h2 : State.NoCall i t u) : State.NoCall i s u :=
  ⟨h1.toOnSection.trans h2.toOnSection, h1.calls.trans h2.calls, h2.due.trans h1.due⟩

/-- The frame of what a line does by itself: `NoCall`, and the directory's entries as they were. -/
structure State.ByLine (i : SectionId) (s t : State) : Prop extends State.NoCall i s t where
  dir : t.dir = s.dir

theorem State.ByLine.refl (i : SectionId) (s : State) : s.ByLine i s := ⟨.refl i s, rfl⟩

theorem State.ByLine.trans {i : SectionId} {s t u : State} (h1 : State.ByLine i s t) (h2 : State.ByLine i t u) : State.ByLine i s u :=
  ⟨h1.toNoCall.trans h2.toNoCall, h2.dir.trans h1.dir⟩

/-- The frame of what the call manager does for a call of section `i`: `OnSection`, and the directory's entries as they were. -/
structure State.ByCalls (i : SectionId) (s t : State) : Prop extends State.OnSection i s t where
  dir : t.dir = s.dir

theorem State.ByCalls.refl (i : SectionId) (s : State) : s.ByCalls i s := ⟨.refl i s, rfl⟩

theorem State.ByCalls.trans {i : SectionId} {s t u : State} (h1 : State.ByCalls i s t) (h2 : State.ByCalls i t u) :
    State.ByCalls i s u :=
  ⟨h1.toOnSection.trans h2.toOnSection, h2.dir.trans h1.dir⟩

theorem State.ByLine.byCalls {i : SectionId} {s t : State} (h : State.ByLine i s t) : s.ByCalls i t := ⟨h.toOnSection, h.dir⟩

theorem State.ByLine.onlyLine {i : SectionId} {s t : State} (h : State.ByLine i s t) : s.OnlyLine i t :=
  ⟨⟨h.rx, h.buffer, h.resetHeld, h.poweringUp⟩, ⟨h.reply, h.headTaken⟩, ⟨h.mode, h.globals, h.seconds, h.nowMs⟩,
    ⟨h.dir, h.rosters, h.unresolved⟩, h.calls, h.others, h.due, h.pending⟩

/-! ## One lemma per operation of a section controller -/

theorem State.setSec_byLine (s : State) (i : SectionId) (x : SectionCtl) : s.ByLine i (s.setSec i x) :=
  ⟨⟨⟨⟨rfl, rfl, rfl, rfl, rfl, rfl, rfl, rfl, rfl, rfl, rfl, rfl, rfl, [], rfl⟩,
    fun j hj => ⟨by simp [Ne.symm hj], rfl⟩⟩, ⟨rfl, rfl, rfl, rfl, rfl, rfl, rfl⟩, rfl⟩, rfl⟩

theorem State.modSec_byLine (s : State) (i : SectionId) (f : SectionCtl → SectionCtl) : s.ByLine i (s.modSec i f) :=
  s.setSec_byLine i _

theorem State.modLine_byLine (s : State) (i : SectionId) (f : SectionCtl → SectionCtl) : s.ByLine i (s.modLine i f) :=
  s.setSec_byLine i _

theorem State.setLtu_byLine (s : State) (i : SectionId) (x : LtuSection) : s.ByLine i (s.setLtu i x) :=
  ⟨⟨⟨⟨rfl, rfl, rfl, rfl, rfl, rfl, rfl, rfl, rfl, rfl, rfl, rfl, rfl, [], rfl⟩,
    fun j hj => ⟨rfl, by simp [Ne.symm hj]⟩⟩, ⟨rfl, rfl, rfl, rfl, rfl, rfl, rfl⟩, rfl⟩, rfl⟩

theorem State.post_byLine (s : State) (i : SectionId) (b : EventBody) : s.ByLine i (s.post b) :=
  ⟨⟨⟨⟨by simp, by simp, by simp, by simp, by simp, by simp, by simp, by simp, by simp, by simp, by simp, by simp, by simp, [b], rfl⟩,
    fun j _ => ⟨by simp, by simp⟩⟩, ⟨by simp, by simp, by simp, by simp, by simp, by simp, by simp⟩, by simp⟩, by simp⟩

theorem State.sendAttempt_byLine (s : State) (i : SectionId) (t : Txn) : s.ByLine i (s.sendAttempt i t) := s.modLine_byLine i _

theorem State.compareBracket_byLine (s : State) (i : SectionId) : s.ByLine i (s.compareBracket i) := by
  unfold State.compareBracket
  dsimp only
  split
  · exact .refl i s
  · exact (s.modSec_byLine i _).trans (State.post_byLine _ i _)
  · split
    · exact .refl i s
    · exact (s.modSec_byLine i _).trans (State.post_byLine _ i _)

theorem State.closeRound_byLine (s : State) (i : SectionId) : s.ByLine i (s.closeRound i) := by
  unfold State.closeRound
  split
  · exact (((s.modSec_byLine i _).trans (State.post_byLine _ i _)).trans (State.modSec_byLine _ i _)).trans
      (State.compareBracket_byLine _ i)
  · exact .refl i s

theorem State.closeIfDone_byLine (s : State) (i : SectionId) : s.ByLine i (s.closeIfDone i) := by
  unfold State.closeIfDone
  split
  · split
    · exact .refl i s
    · exact s.closeRound_byLine i
  · exact .refl i s

theorem State.openRound_byLine (s : State) (i : SectionId) : s.ByLine i (s.openRound i) :=
  (s.modSec_byLine i _).trans (State.closeIfDone_byLine _ i)

theorem State.pollEnded_byLine (s : State) (i : SectionId) (a : Addr) (f : Round → Round) : s.ByLine i (s.pollEnded i a f) := by
  unfold State.pollEnded
  split
  · exact (s.modSec_byLine i _).trans (State.closeIfDone_byLine _ i)
  · exact .refl i s

theorem State.startMeasure_byLine (s : State) (i : SectionId) : s.ByLine i (s.startMeasure i) := by
  unfold State.startMeasure
  split
  · exact (s.setLtu_byLine i _).trans (State.modLine_byLine _ i _)
  · exact .refl i s

theorem State.arbitrateRound_byLine (s : State) (i : SectionId) : s.ByLine i (s.arbitrateRound i) := by
  unfold State.arbitrateRound
  split
  · split
    · exact (s.modSec_byLine i _).trans (State.sendAttempt_byLine _ i _)
    · exact s.closeRound_byLine i
  · exact .refl i s

theorem State.arbiter_byLine (s : State) (i : SectionId) : s.ByLine i (s.arbiter i) := by
  unfold State.arbiter
  split
  · split
    · exact .refl i s
    · split
      · exact s.startMeasure_byLine i
      · split
        · exact .refl i s
        · split
          · exact (s.modSec_byLine i _).trans (State.sendAttempt_byLine _ i _)
          · exact s.arbitrateRound_byLine i
  · split
    · exact s.startMeasure_byLine i
    · exact .refl i s
  all_goals exact .refl i s

theorem State.workArrived_byLine (s : State) (i : SectionId) : s.ByLine i (s.workArrived i) := by
  unfold State.workArrived
  split
  · exact s.arbiter_byLine i
  · exact .refl i s

theorem State.burstEnded_byLine (s : State) (i : SectionId) : s.ByLine i (s.burstEnded i) := s.modSec_byLine i _

theorem State.startWake_byLine (s : State) (i : SectionId) (r : ReasonSet) : s.ByLine i (s.startWake i r) := s.modLine_byLine i _

theorem State.clearFlight_byLine (s : State) (i : SectionId) : s.ByLine i (s.clearFlight i) := s.modLine_byLine i _

theorem State.modQueue_byLine (s : State) (i : SectionId) (f : List Txn → List Txn) : s.ByLine i (s.modQueue i f) :=
  s.modSec_byLine i _

theorem State.returnTxn_byLine (s : State) (i : SectionId) (t : Txn) : s.ByLine i (s.returnTxn i t) := by
  unfold State.returnTxn
  split
  · exact s.modSec_byLine i _
  · exact s.modQueue_byLine i _

theorem State.beginService_byLine (s : State) (i : SectionId) : s.ByLine i (s.beginService i) :=
  (s.startWake_byLine i _).trans (State.modSec_byLine _ i _)

theorem State.setExch_byLine (s : State) (i : SectionId) (e : Exchange) : s.ByLine i (s.setExch i e) := s.modLine_byLine i _

theorem State.sendAnswer_byLine (s : State) (i : SectionId) (rs : List OutRec) (l : List CheckFlag) :
    s.ByLine i (s.sendAnswer i rs l) := by
  unfold State.sendAnswer
  split <;> exact s.modLine_byLine i _

theorem State.abortMeasure_byLine (s : State) (i : SectionId) : s.ByLine i (s.abortMeasure i) := by
  unfold State.abortMeasure
  split
  · exact ((s.setLtu_byLine i _).trans (State.modSec_byLine _ i _)).trans (State.post_byLine _ i _)
  · split
    · exact (s.modSec_byLine i _).trans (State.post_byLine _ i _)
    · exact .refl i s

theorem State.abortQueue_byLine (s : State) (i : SectionId) : s.ByLine i (s.abortQueue i) :=
  (s.modLine_byLine i _).trans (State.abortMeasure_byLine _ i)

theorem State.openAndAct_byLine (s : State) (i : SectionId) : s.ByLine i (s.openAndAct i) :=
  (s.openRound_byLine i).trans (State.workArrived_byLine _ i)

/-! ## Operations that write the directory's entries -/

theorem State.postAll_byLine (s : State) (i : SectionId) (bs : List EventBody) : s.ByLine i (State.postAll bs s) := by
  induction bs generalizing s with
  | nil => exact .refl i s
  | cons b bs ih => exact (s.post_byLine i b).trans (ih _)

theorem State.withDir_noCall (s : State) (i : SectionId) (d : Vector (Vector (Option PostEntry) 2) 64) :
    s.NoCall i { s with dir := d } :=
  ⟨⟨⟨rfl, rfl, rfl, rfl, rfl, rfl, rfl, rfl, rfl, rfl, rfl, rfl, rfl, [], rfl⟩, fun _ _ => ⟨rfl, rfl⟩⟩,
    ⟨rfl, rfl, rfl, rfl, rfl, rfl, rfl⟩, rfl⟩

theorem State.modEntry_noCall (s : State) (i : SectionId) (p : Nat) (f : PostEntry → PostEntry) : s.NoCall i (s.modEntry p f) := by
  unfold State.modEntry
  split
  · exact s.withDir_noCall i _
  · exact .refl i s

theorem State.applyThreshold_noCall (s : State) (i j : SectionId) (n : Nat) : s.NoCall i (s.applyThreshold j n) :=
  (s.withDir_noCall i _).trans (State.postAll_byLine _ i _).toNoCall

theorem State.applyTiming_noCall (s : State) (i : SectionId) (t : Timing) : s.NoCall i (s.applyTiming i t) :=
  (s.modSec_byLine i _).toNoCall.trans (State.applyThreshold_noCall _ i i _)

theorem State.applyPending_noCall (s : State) (i : SectionId) : s.NoCall i (s.applyPending i) := by
  unfold State.applyPending
  split
  · exact s.applyTiming_noCall i _
  · exact .refl i s

theorem State.settleIdle_noCall (s : State) (i : SectionId) : s.NoCall i (s.settleIdle i) :=
  (s.applyPending_noCall i).trans (State.modLine_byLine _ i _).toNoCall

theorem State.enterIdle_noCall (s : State) (i : SectionId) : s.NoCall i (s.enterIdle i) :=
  (s.settleIdle_noCall i).trans (State.arbiter_byLine _ i).toNoCall

theorem State.statusReport_noCall (s : State) (i j : SectionId) (a : Addr) (st : StatusFields) :
    s.NoCall i (s.statusReport j a st) := by
  unfold State.statusReport
  split
  · exact (s.modEntry_noCall i _ _).trans (State.postAll_byLine _ i _).toNoCall
  · exact .refl i s

theorem State.missedReport_noCall (s : State) (i j : SectionId) (a : Addr) : s.NoCall i (s.missedReport j a) := by
  unfold State.missedReport
  dsimp only
  split
  · split
    · exact (s.modEntry_noCall i _ _).trans (State.post_byLine _ i _).toNoCall
    · exact s.modEntry_noCall i _ _
  · exact .refl i s

theorem State.pollFailed_noCall (s : State) (i : SectionId) (a : Addr) (r : FailReason) : s.NoCall i (s.pollFailed i a r) := by
  unfold State.pollFailed
  split
  · exact (s.missedReport_noCall i i a).trans (State.pollEnded_byLine _ i a _).toNoCall
  · exact (s.pollEnded_byLine i a _).toNoCall
  · exact .refl i s
  · exact .refl i s

/-! ## Wake causes and notices -/

theorem State.withDue_byCalls (s : State) (i : SectionId) (b : Bool) : s.ByCalls i { s with dispatchDue := b } :=
  ⟨⟨⟨rfl, rfl, rfl, rfl, rfl, rfl, rfl, rfl, rfl, rfl, rfl, rfl, rfl, [], rfl⟩, fun _ _ => ⟨rfl, rfl⟩⟩, rfl⟩

theorem State.toActive_byCalls (s : State) (i : SectionId) : s.ByCalls i (s.toActive i) :=
  (s.modLine_byLine i _).byCalls.trans (State.withDue_byCalls _ i true)

theorem State.toActive_calls (s : State) (i : SectionId) : s.SameCalls (s.toActive i) := ⟨rfl, rfl, rfl, rfl, rfl, rfl, rfl⟩

theorem State.arrive_byCalls (s : State) (i : SectionId) (w : WakeReason) : s.ByCalls i (s.arrive i w) := by
  unfold State.arrive
  split
  · exact (s.startWake_byLine i _).byCalls
  · exact (s.modSec_byLine i _).byCalls
  · exact s.toActive_byCalls i
  · exact .refl i s
  · exact .refl i s

theorem State.arrive_calls (s : State) (i : SectionId) (w : WakeReason) : s.SameCalls (s.arrive i w) := by
  unfold State.arrive
  split
  · exact (s.startWake_byLine i _).calls
  · exact (s.modSec_byLine i _).calls
  · exact s.toActive_calls i
  · exact (State.ByLine.refl i s).calls
  · exact (State.ByLine.refl i s).calls

theorem State.offerNotice_byCalls (s : State) (i : SectionId) (a : Addr) (k : TxnKind) (r : Nat) :
    s.ByCalls i (s.offerNotice i a k r) := by
  unfold State.offerNotice
  split
  · exact .refl i s
  all_goals exact ((s.arrive_byCalls i .call).trans (State.modQueue_byLine _ i _).byCalls).trans (State.workArrived_byLine _ i).byCalls

theorem State.offerNotice_calls (s : State) (i : SectionId) (a : Addr) (k : TxnKind) (r : Nat) :
    s.SameCalls (s.offerNotice i a k r) := by
  unfold State.offerNotice
  split
  · exact (State.ByLine.refl i s).calls
  all_goals exact ((s.arrive_calls i .call).trans (State.modQueue_byLine _ i _).calls).trans (State.workArrived_byLine _ i).calls

theorem State.offerQuietNotice_byLine (s : State) (i : SectionId) (a : Addr) (k : TxnKind) (r : Nat) :
    s.ByLine i (s.offerQuietNotice i a k r) := by
  unfold State.offerQuietNotice
  split
  · exact .refl i s
  all_goals exact s.modQueue_byLine i _

/-! ## The call manager's operations -/

theorem State.setChan_byCalls (s : State) (i : SectionId) (c : ChanId) (x : Channel) : s.ByCalls i (s.setChan c x) :=
  ⟨⟨⟨rfl, rfl, rfl, rfl, rfl, rfl, rfl, rfl, rfl, rfl, rfl, rfl, rfl, [], rfl⟩, fun _ _ => ⟨rfl, rfl⟩⟩, rfl⟩

theorem State.setHolder_byCalls (s : State) (i j : SectionId) (x : Option Nat) : s.ByCalls i (s.setHolder j x) :=
  ⟨⟨⟨rfl, rfl, rfl, rfl, rfl, rfl, rfl, rfl, rfl, rfl, rfl, rfl, rfl, [], rfl⟩, fun _ _ => ⟨rfl, rfl⟩⟩, rfl⟩

theorem State.setJoin_byCalls (s : State) (i j : SectionId) (x : Join) : s.ByCalls i (s.setJoin j x) :=
  ⟨⟨⟨rfl, rfl, rfl, rfl, rfl, rfl, rfl, rfl, rfl, rfl, rfl, rfl, rfl, [], rfl⟩, fun _ _ => ⟨rfl, rfl⟩⟩, rfl⟩

theorem State.modCall_byCalls (s : State) (i : SectionId) (r : Nat) (f : Call → Call) : s.ByCalls i (s.modCall r f) :=
  ⟨⟨⟨rfl, rfl, rfl, rfl, rfl, rfl, rfl, rfl, rfl, rfl, rfl, rfl, rfl, [], rfl⟩, fun _ _ => ⟨rfl, rfl⟩⟩, rfl⟩

theorem State.markDispatch_byCalls (s : State) (i : SectionId) : s.ByCalls i s.markDispatch := s.withDue_byCalls i true

theorem State.post_byCalls (s : State) (i : SectionId) (b : EventBody) : s.ByCalls i (s.post b) := (s.post_byLine i b).byCalls

theorem State.releaseChannel_byCalls (s : State) (i : SectionId) (c : Option ChanId) : s.ByCalls i (s.releaseChannel c) := by
  unfold State.releaseChannel
  split
  · split
    · exact (s.setChan_byCalls i _ _).trans (State.markDispatch_byCalls _ i)
    · exact s.setChan_byCalls i _ _
  · exact .refl i s

theorem State.dropPath_byCalls (s : State) (i j : SectionId) (r : Nat) : s.ByCalls i (s.dropPath j r) := by
  unfold State.dropPath
  split
  · exact ((s.setHolder_byCalls i _ _).trans (State.setJoin_byCalls _ i _ _)).trans (State.markDispatch_byCalls _ i)
  · exact .refl i s

theorem State.offer_byCalls (s : State) (i : SectionId) (c : Call) (ch : ChanId) : s.ByCalls i (s.offer c ch) :=
  ((((s.modCall_byCalls i _ _).trans (State.setChan_byCalls _ i _ _)).trans (State.setHolder_byCalls _ i _ _)).trans
    (State.setJoin_byCalls _ i _ _)).trans (State.post_byCalls _ i _)

theorem State.dispatch_byCalls (n : Nat) (s : State) (i : SectionId) : s.ByCalls i (State.dispatch n s) := by
  induction n generalizing s with
  | zero => exact .refl i s
  | succ n ih =>
    unfold State.dispatch
    split
    · exact (s.offer_byCalls i _ _).trans (ih _)
    · exact .refl i s

theorem State.finish_byCalls (s : State) (i : SectionId) : s.ByCalls i s.finish := by
  unfold State.finish
  split
  · split
    · exact (s.withDue_byCalls i false).trans (State.dispatch_byCalls 4 _ i)
    · exact s.withDue_byCalls i false
  · exact .refl i s

theorem State.retireCall_byCalls (s : State) (i : SectionId) (c : Call) (e : EndCause) : s.ByCalls i (s.retireCall c e) := by
  unfold State.retireCall
  exact ⟨⟨⟨by simp, by simp, by simp, by simp, by simp, by simp, by simp, by simp, by simp, by simp, by simp, by simp,
    by simp, [_], State.post_events_congr _ rfl rfl rfl⟩, fun j _ => ⟨by simp [State.sec], by simp [State.ltuOf]⟩⟩, by simp⟩

theorem State.releaseHeld_byCalls (s : State) (c : Call) : s.ByCalls c.sec (s.releaseHeld c) :=
  (s.releaseChannel_byCalls c.sec _).trans (State.dropPath_byCalls _ c.sec _ _)

theorem State.freeHeld_byCalls (s : State) (c : Call) : s.ByCalls c.sec (s.freeHeld c) := by
  unfold State.freeHeld
  split
  · exact (s.releaseHeld_byCalls c).trans (State.arbiter_byLine _ c.sec).byCalls
  · exact s.releaseHeld_byCalls c

theorem State.endCall_byCalls (s : State) (c : Call) (e : EndCause) : s.ByCalls c.sec (s.endCall c e) :=
  ((s.retireCall_byCalls c.sec c e).trans (State.offerNotice_byCalls _ c.sec _ _ _)).trans (State.freeHeld_byCalls _ c)

theorem State.endCallQuietly_byCalls (s : State) (c : Call) (e : EndCause) : s.ByCalls c.sec (s.endCallQuietly c e) :=
  ((s.retireCall_byCalls c.sec c e).trans (State.offerQuietNotice_byLine _ c.sec _ _ _).byCalls).trans (State.releaseHeld_byCalls _ c)

theorem State.endCalls_byCalls (e : EndCause) (i : SectionId) (cs : List Call) (s : State) (h : ∀ c ∈ cs, c.sec = i) :
    s.ByCalls i (State.endCalls e cs s) := by
  induction cs generalizing s with
  | nil => exact .refl i s
  | cons c cs ih =>
    have hc := h c (by simp)
    exact (hc ▸ s.endCall_byCalls c e).trans (ih _ (fun d hd => h d (by simp [hd])))

theorem State.endCallsQuietly_byCalls (e : EndCause) (i : SectionId) (cs : List Call) (s : State) (h : ∀ c ∈ cs, c.sec = i) :
    s.ByCalls i (State.endCallsQuietly e cs s) := by
  induction cs generalizing s with
  | nil => exact .refl i s
  | cons c cs ih =>
    have hc := h c (by simp)
    exact (hc ▸ s.endCallQuietly_byCalls c e).trans (ih _ (fun d hd => h d (by simp [hd])))

theorem State.addCall_byCalls (s : State) (i : SectionId) (c : Call) : s.ByCalls i (s.addCall c) := by
  unfold State.addCall
  exact ⟨⟨⟨by simp, by simp, by simp, by simp, by simp, by simp, by simp, by simp, by simp, by simp, by simp, by simp,
    by simp, [_], State.post_events_congr _ rfl rfl rfl⟩, fun j _ => ⟨by simp [State.sec], by simp [State.ltuOf]⟩⟩, by simp⟩

theorem State.connect_byCalls (s : State) (c : Call) (ch : ChanId) : s.ByCalls c.sec (s.connect c ch) :=
  (((((s.modCall_byCalls c.sec _ _).trans (State.setChan_byCalls _ c.sec _ _)).trans (State.setHolder_byCalls _ c.sec _ _)).trans
    (State.setJoin_byCalls _ c.sec _ _)).trans (State.post_byCalls _ c.sec _)).trans (State.offerNotice_byCalls _ c.sec _ _ _)

theorem State.postAnswers_byCalls (s : State) (c : Call) : s.ByCalls c.sec (s.postAnswers c) := by
  unfold State.postAnswers
  split
  · exact s.connect_byCalls c _
  · exact .refl _ s

theorem State.revive_byCalls (s : State) (i : SectionId) (c : Call) : s.ByCalls i (s.revive c) :=
  ((s.modCall_byCalls i _ _).trans (State.post_byCalls _ i _)).trans (State.markDispatch_byCalls _ i)

theorem State.withFull_byCalls (s : State) (i : SectionId) (b : Bool) : s.ByCalls i { s with fullEpisode := b } :=
  ⟨⟨⟨rfl, rfl, rfl, rfl, rfl, rfl, rfl, rfl, rfl, rfl, rfl, rfl, rfl, [], rfl⟩, fun _ _ => ⟨rfl, rfl⟩⟩, rfl⟩

theorem State.deferAlert_byCalls (s : State) (j : SectionId) (o : CallOrigin) (i : SectionId) (a : Addr) :
    s.ByCalls j (s.deferAlert o i a) := by
  unfold State.deferAlert
  split
  · exact .refl j s
  · exact (s.post_byCalls j _).trans (State.withFull_byCalls _ j true)

theorem State.createFromAlert_byCalls (s : State) (j : SectionId) (o : CallOrigin) (i : SectionId) (a : Addr) :
    s.ByCalls j (s.createFromAlert o i a).1 :=
  (s.addCall_byCalls j _).trans (State.markDispatch_byCalls _ j)

/-- An alert touches the host link, the clocks, the rosters and the directory in no case; where the table is full, the eviction
of an ABANDONED call gives a notice to that call's section (R139). -/
theorem State.newAlert_inner (s : State) (o : CallOrigin) (i : SectionId) (a : Addr) :
    s.Inner (s.newAlert o i a).1 ∧ (s.newAlert o i a).1.dir = s.dir := by
  unfold State.newAlert
  split
  · exact ⟨(s.createFromAlert_byCalls i o i a).toInner, (s.createFromAlert_byCalls i o i a).dir⟩
  · split
    · next v _ =>
      have h1 := s.endCall_byCalls v .dismissedAuto
      have h2 := (s.endCall v .dismissedAuto).createFromAlert_byCalls v.sec o i a
      exact ⟨h1.toInner.trans h2.toInner, h2.dir.trans h1.dir⟩
    · exact ⟨(s.deferAlert_byCalls i o i a).toInner, (s.deferAlert_byCalls i o i a).dir⟩

theorem State.alert_inner (s : State) (o : CallOrigin) (i : SectionId) (a : Addr) :
    s.Inner (s.alert o i a).1 ∧ (s.alert o i a).1.dir = s.dir := by
  unfold State.alert
  split
  · exact ⟨.refl s, rfl⟩
  · split
    · next c _ =>
      split
      · exact ⟨(s.postAnswers_byCalls c).toInner, (s.postAnswers_byCalls c).dir⟩
      · exact ⟨(s.revive_byCalls i c).toInner, (s.revive_byCalls i c).dir⟩
      all_goals exact ⟨.refl s, rfl⟩
    · exact s.newAlert_inner o i a

/-- An alert on a table with room, or on a live call, stays on its section. -/
theorem State.alert_byCalls (s : State) (o : CallOrigin) (i : SectionId) (a : Addr)
    (h : (s.callAt i a).isSome = true ∨ s.calls.length < Config.callDepth) : s.ByCalls i (s.alert o i a).1 := by
  unfold State.alert
  split
  · exact .refl i s
  · split
    · next c hc =>
      have hi : c.sec = i := by
        have := List.find?_some hc
        simp at this
        exact this.1
      split
      · exact hi ▸ s.postAnswers_byCalls c
      · exact s.revive_byCalls i c
      all_goals exact .refl i s
    · next hc =>
      unfold State.newAlert
      rw [if_pos (by simpa [hc] using h)]
      exact s.createFromAlert_byCalls i o i a

theorem State.abandon_byCalls (s : State) (c : Call) : s.ByCalls c.sec (s.abandon c) := by
  unfold State.abandon
  dsimp only
  have h := ((((s.modCall_byCalls c.sec c.ref (fun x => { x with state := .abandoned, channel := none, offerTimer := none })).trans
    (State.releaseChannel_byCalls _ c.sec c.channel)).trans (State.dropPath_byCalls _ c.sec c.sec c.ref)).trans
    (State.post_byCalls _ c.sec (.callAbandoned c.ref c.post c.sec c.addr c.state))).trans
    (State.offerNotice_byCalls _ c.sec c.addr .clear c.ref)
  split
  · exact h.trans (State.arbiter_byLine _ c.sec).byCalls
  · exact h

theorem State.callAt_sec {s : State} {i : SectionId} {a : Addr} {c : Call} (h : s.callAt i a = some c) : c.sec = i ∧ c.addr = a := by
  have := List.find?_some h
  simpa using this

theorem State.answerRecord_byCalls (s : State) (i : SectionId) (a : Addr) : s.ByCalls i (s.answerRecord i a) := by
  unfold State.answerRecord
  split
  · next c hc =>
    split
    · exact (s.callAt_sec hc).1 ▸ s.postAnswers_byCalls c
    · exact .refl i s
  · exact .refl i s

theorem State.onhook_byCalls (s : State) (i : SectionId) (a : Addr) : s.ByCalls i (s.onhook i a) := by
  unfold State.onhook
  split
  · next c hc =>
    have hi := (s.callAt_sec hc).1
    split
    · exact hi ▸ s.endCall_byCalls c _
    · exact hi ▸ s.abandon_byCalls c
    · exact hi ▸ s.abandon_byCalls c
    · exact hi ▸ s.abandon_byCalls c
    all_goals exact .refl i s
  · exact .refl i s

theorem State.requeue_byCalls (s : State) (c : Call) (e : RequeueCause) : s.ByCalls c.sec (s.requeue c e) :=
  (((((s.modCall_byCalls c.sec _ _).trans (State.releaseChannel_byCalls _ c.sec _)).trans (State.setJoin_byCalls _ c.sec _ _)).trans
    (State.post_byCalls _ c.sec _)).trans (State.offerNotice_byCalls _ c.sec _ _ _)).trans (State.markDispatch_byCalls _ c.sec)

theorem State.parkCall_byCalls (s : State) (c : Call) (ch : ChanId) : s.ByCalls c.sec (s.parkCall c ch) :=
  ((((s.modCall_byCalls c.sec _ _).trans (State.releaseChannel_byCalls _ c.sec _)).trans (State.setJoin_byCalls _ c.sec _ _)).trans
    (State.post_byCalls _ c.sec _)).trans (State.offerNotice_byCalls _ c.sec _ _ _)

theorem State.ring_byCalls (s : State) (c : Call) (ch : ChanId) : s.ByCalls c.sec (s.ring c ch) :=
  ((((s.modCall_byCalls c.sec _ _).trans (State.setChan_byCalls _ c.sec _ _)).trans (State.setHolder_byCalls _ c.sec _ _)).trans
    (State.setJoin_byCalls _ c.sec _ _)).trans (State.offerNotice_byCalls _ c.sec _ _ _)

end Sys2Proof.Machine
end

