-- ==== Sys2Proof/Laws/Calls.lean ====
section
/-! SUPPORT. What the call manager's operations do to the call table, the channels, the paths and the joins, and what the
dispatcher leaves alone. -/

namespace Sys2Proof.Machine

/-! ## The dispatcher -/

/-- What no offer of the dispatcher touches. -/
structure State.Offers (s t : State) : Prop where
  secs : t.secs = s.secs
  ltu : t.ltu = s.ltu
  dir : t.dir = s.dir
  history : t.history = s.history
  nextRef : t.nextRef = s.nextRef
  fullEpisode : t.fullEpisode = s.fullEpisode
  size : t.calls.length = s.calls.length

theorem State.Offers.refl (s : State) : s.Offers s := ⟨rfl, rfl, rfl, rfl, rfl, rfl, rfl⟩

theorem State.Offers.trans {s t u : State} (h1 : s.Offers t) (h2 : t.Offers u) : s.Offers u :=
  ⟨h2.secs.trans h1.secs, h2.ltu.trans h1.ltu, h2.dir.trans h1.dir, h2.history.trans h1.history, h2.nextRef.trans h1.nextRef,
    h2.fullEpisode.trans h1.fullEpisode, h2.size.trans h1.size⟩

theorem State.offer_offers (s : State) (c : Call) (ch : ChanId) : s.Offers (s.offer c ch) := by
  unfold State.offer
  exact ⟨by simp, by simp, by simp, by simp, by simp, by simp, by simp⟩

theorem State.dispatch_offers (n : Nat) (s : State) : s.Offers (State.dispatch n s) := by
  induction n generalizing s with
  | zero => exact .refl s
  | succ n ih =>
    unfold State.dispatch
    split
    · exact (s.offer_offers _ _).trans (ih _)
    · exact .refl s

theorem State.finish_offers (s : State) : s.Offers s.finish := by
  unfold State.finish
  split
  · split
    · exact ⟨(State.dispatch_offers 4 _).secs, (State.dispatch_offers 4 _).ltu, (State.dispatch_offers 4 _).dir,
        (State.dispatch_offers 4 _).history, (State.dispatch_offers 4 _).nextRef, (State.dispatch_offers 4 _).fullEpisode,
        (State.dispatch_offers 4 _).size⟩
    · exact ⟨rfl, rfl, rfl, rfl, rfl, rfl, rfl⟩
  · exact .refl s

@[simp] theorem State.finish_secs (s : State) : s.finish.secs = s.secs := s.finish_offers.secs
@[simp] theorem State.finish_ltu (s : State) : s.finish.ltu = s.ltu := s.finish_offers.ltu
@[simp] theorem State.finish_dir (s : State) : s.finish.dir = s.dir := s.finish_offers.dir
@[simp] theorem State.finish_history (s : State) : s.finish.history = s.history := s.finish_offers.history
@[simp] theorem State.finish_nextRef (s : State) : s.finish.nextRef = s.nextRef := s.finish_offers.nextRef
@[simp] theorem State.finish_fullEpisode (s : State) : s.finish.fullEpisode = s.fullEpisode := s.finish_offers.fullEpisode
@[simp] theorem State.finish_sec (s : State) (i : SectionId) : s.finish.sec i = s.sec i := by simp [State.sec]
@[simp] theorem State.finish_ltuOf (s : State) (i : SectionId) : s.finish.ltuOf i = s.ltuOf i := by simp [State.ltuOf]

/-- No occasion has come up: the end of the operation changes nothing. -/
theorem State.finish_idle {s : State} (h : s.dispatchDue = false) : s.finish = s := by
  unfold State.finish
  rw [if_neg (by simp [h])]

/-- With auto-offer off the occasion passes (R161). -/
theorem State.finish_off {s : State} (h : s.globals.autoOffer = false) : s.finish = { s with dispatchDue := false } := by
  unfold State.finish
  split
  · rw [if_neg (by simp [h])]
  · next hd =>
    cases s
    simp_all

theorem State.dispatch_due (n : Nat) (s : State) : (State.dispatch n s).dispatchDue = s.dispatchDue := by
  induction n generalizing s with
  | zero => rfl
  | succ n ih =>
    unfold State.dispatch
    split
    · rw [ih]
      unfold State.offer
      simp
    · rfl

/-- At the end of an operation no occasion is owed. -/
@[simp] theorem State.finish_due (s : State) : s.finish.dispatchDue = false := by
  unfold State.finish
  split
  · split
    · rw [State.dispatch_due]
    · rfl
  · next h => simpa using h

/-! ## Calls found by reference -/

theorem State.findCall_modCall (s : State) (r q : Nat) (f : Call → Call) (hf : ∀ c, (f c).ref = c.ref) :
    (s.modCall r f).findCall q = if q = r then (s.findCall q).map f else s.findCall q := by
  unfold State.findCall State.modCall
  dsimp only
  induction s.calls with
  | nil => simp
  | cons c cs ih =>
    rw [List.map_cons, List.find?_cons, List.find?_cons, ih]
    by_cases hc : c.ref = r
    · by_cases hq : c.ref = q
      · have : q = r := hq.symm.trans hc
        subst this
        simp [hc, hf]
      · have : ¬q = r := fun h => hq (hc.trans h.symm)
        have h1 : (r == q) = false := by simpa using fun h => this h.symm
        simp [hc, hf, h1, this]
    · by_cases hq : c.ref = q
      · subst hq
        simp [hc]
      · have h1 : (c.ref == q) = false := by simpa using hq
        simp [hc, h1]

theorem State.mem_of_findCall {s : State} {r : Nat} {c : Call} (h : s.findCall r = some c) : c ∈ s.calls ∧ c.ref = r :=
  ⟨List.mem_of_find?_eq_some h, by have := List.find?_some h; simpa using this⟩

theorem State.mem_of_callAt {s : State} {i : SectionId} {a : Addr} {c : Call} (h : s.callAt i a = some c) : c ∈ s.calls :=
  List.mem_of_find?_eq_some h

/-- With every reference distinct, a call in the table is the one its reference finds (R149). -/
theorem State.RefLaw.findCall {s : State} (h : s.RefLaw) {c : Call} (hc : c ∈ s.calls) : s.findCall c.ref = some c := by
  have hp := h.1
  unfold State.findCall
  revert hc hp
  generalize s.calls = l
  intro hc hp
  induction l with
  | nil => simp at hc
  | cons d ds ih =>
    rw [List.pairwise_cons] at hp
    rcases List.mem_cons.1 hc with rfl | hc
    · simp
    · have : d.ref ≠ c.ref := hp.1 c hc
      simp [this, ih hc hp.2]

/-- The dispatcher keeps every call's reference, place and whatever it is not offering (R163). -/
theorem State.findCall_offer (s : State) (c : Call) (ch : ChanId) (q : Nat) :
    (s.offer c ch).findCall q = if q = c.ref then (s.findCall q).map (fun x =>
      { x with state := .offered, channel := some ch, offerTimer := some ⟨s.nowMs, 1000 * s.globals.offerTimeout⟩ })
      else s.findCall q := by
  unfold State.offer
  simp [State.findCall_modCall]

/-- The call that the dispatcher chooses is an eligible call of the table (R162). -/
theorem State.bestCall_mem {s : State} {c : Call} (h : s.bestCall = some c) : c ∈ s.calls ∧ s.eligible c = true := by
  have ins : ∀ (le : Call → Call → Bool) (x y : Call) (l : List Call), y ∈ insertBy le x l → y = x ∨ y ∈ l := by
    intro le x y l
    induction l with
    | nil => simp [insertBy]
    | cons z zs ih =>
      unfold insertBy
      split
      · simp
      · intro hy
        rcases List.mem_cons.1 hy with rfl | hy
        · simp
        · rcases ih hy with rfl | hy <;> simp [*]
  have srt : ∀ (le : Call → Call → Bool) (y : Call) (l : List Call), y ∈ sortBy le l → y ∈ l := by
    intro le y l
    induction l with
    | nil => simp [sortBy]
    | cons z zs ih =>
      intro hy
      rcases ins le z y _ hy with rfl | hy
      · simp
      · simp [ih hy]
  have := srt _ c _ (List.mem_of_mem_head? (by rw [State.bestCall] at h; exact h))
  simpa using this

/-- A call the dispatcher does not find eligible is as it was after the dispatcher's acts; an eligible one is as it was or
OFFERED (R162, R163). -/
theorem State.dispatch_keeps (n : Nat) (s : State) (hr : s.RefLaw) (c : Call) (hc : c ∈ s.calls) (hs : c.state ≠ .queued) :
    (State.dispatch n s).findCall c.ref = some c := by
  induction n generalizing s with
  | zero => exact hr.findCall hc
  | succ n ih =>
    unfold State.dispatch
    split
    · next ch d _ hd =>
      obtain ⟨hm, he⟩ := State.bestCall_mem hd
      have hne : d.ref ≠ c.ref := by
        intro e
        have h1 := hr.findCall hm
        have h2 := hr.findCall hc
        rw [e, h2] at h1
        cases h1
        simp [State.eligible, hs] at he
      refine ih _ ?_ ?_
      · obtain ⟨p1, p2, p3, p4⟩ := hr
        unfold State.offer State.RefLaw
        simp only [State.post_calls, State.setJoin_calls, State.setHolder_calls, State.setChan_calls, State.modCall_calls,
          State.post_nextRef, State.setJoin_nextRef, State.setHolder_nextRef, State.setChan_nextRef, State.modCall_nextRef]
        refine ⟨?_, p2, p3, ?_⟩
        · rw [List.pairwise_map]
          refine p1.imp ?_
          intro a b hab
          split <;> split <;> exact hab
        · intro x hx
          rw [List.mem_map] at hx
          obtain ⟨y, hy, rfl⟩ := hx
          split <;> exact p4 y hy
      · unfold State.offer
        simp only [State.post_calls, State.setJoin_calls, State.setHolder_calls, State.setChan_calls, State.modCall_calls,
          List.mem_map]
        exact ⟨c, hc, by simp [Ne.symm hne]⟩
    · exact hr.findCall hc

end Sys2Proof.Machine
end

