-- ==== Sys2Proof/Laws/Check.lean ====
section
/-! SUPPORT. A Bool check for each law of the device, with the lemma that the check gives the law: what a proof about one concrete
state asks of the kernel. -/

namespace Sys2Proof.Machine

/-- A statement of every section follows from its check of the eight. -/
theorem forall_section_of_check {p : SectionId → Bool} (h : allSections.all p = true) (i : SectionId) : p i = true := by
  have h8 : i ∈ allSections := by revert i; decide
  exact List.all_eq_true.mp h i h8

/-- Check of R82's power law. -/
def SectionCtl.powerOk (x : SectionCtl) : Bool :=
  (x.power == .active || (x.line == .down && x.inFlight.isNone && x.round.isNone && x.exch.idleKind)) &&
  (x.inFlight.isNone || x.line == .owned || x.line == .foreign) &&
  x.stuckTimer.isSome == x.stuckRuns && x.breakTimer.isSome == x.breakRuns && x.quietTimer.isSome == x.quietRuns

theorem SectionCtl.powerLaw_of_ok {x : SectionCtl} (h : x.powerOk = true) : x.PowerLaw := by
  simp only [SectionCtl.powerOk, Bool.and_eq_true, Bool.or_eq_true, beq_iff_eq, Option.isNone_iff_eq_none] at h
  obtain ⟨⟨⟨⟨h1, h2⟩, h3⟩, h4⟩, h5⟩ := h
  refine ⟨fun hn => ?_, fun hf => ?_, h3, h4, h5⟩
  · obtain h1 | ⟨⟨⟨a, b⟩, c⟩, d⟩ := h1
    · exact absurd h1 hn
    · exact ⟨a, b, c, d⟩
  · obtain (h2 | h2) | h2 := h2
    · simp [h2] at hf
    · exact Or.inl h2
    · exact Or.inr h2

/-- Check of the power law of every section. -/
def State.powerOk (s : State) : Bool := allSections.all (fun i => (s.sec i).powerOk)

theorem State.powerLaw_of_ok {s : State} (h : s.powerOk = true) : s.PowerLaw :=
  fun i => SectionCtl.powerLaw_of_ok (forall_section_of_check h i)

/-- Check of R159's path law. -/
def State.pathOk (s : State) : Bool :=
  allSections.all (fun i => match s.holder i with
    | some r => s.calls.any (fun c => c.ref == r && c.sec == i && c.state != .abandoned)
    | none => true)

theorem State.pathLaw_of_ok {s : State} (h : s.pathOk = true) : s.PathLaw := by
  intro i
  have hi := forall_section_of_check h i
  revert hi
  cases s.holder i with
  | none => exact fun _ => trivial
  | some r =>
    intro hi
    obtain ⟨c, hc, hp⟩ := List.any_eq_true.mp hi
    simp only [Bool.and_eq_true, beq_iff_eq, bne_iff_ne] at hp
    exact ⟨c, hc, hp.1.1, hp.1.2, hp.2⟩

/-- Check of R160's joins. -/
def State.joinOk (s : State) : Bool :=
  allSections.all (fun i => match s.holder i with
    | some r => s.calls.all (fun c => c.ref != r || s.join i == c.joinOf)
    | none => s.join i == .nothing)

theorem State.joinLaw_of_ok {s : State} (h : s.joinOk = true) : s.JoinLaw := by
  intro i
  have hi := forall_section_of_check h i
  revert hi
  cases s.holder i with
  | none => exact fun hi => by simpa using hi
  | some r =>
    intro hi c hc hr
    have := List.all_eq_true.mp hi c hc
    simpa [hr] using this

/-- Check of R155's channel law. -/
def State.channelOk (s : State) : Bool :=
  allChannels.all (fun ch => match (s.chan ch).call with
    | some r => s.calls.any (fun c => c.ref == r && c.channel == some ch && c.state.channelState == some (s.chan ch).state)
    | none => !(s.chan ch).state.busy) &&
  s.calls.all (fun c => match c.channel with
    | some ch => (s.chan ch).call == some c.ref && c.state.channelState == some (s.chan ch).state
    | none => c.state.channelState == none)

theorem State.channelLaw_of_ok {s : State} (h : s.channelOk = true) : s.ChannelLaw := by
  simp only [State.channelOk, Bool.and_eq_true] at h
  refine ⟨fun ch => ?_, fun c hc => ?_⟩
  · have hm : ch ∈ allChannels := by revert ch; decide
    have hc := List.all_eq_true.mp h.1 ch hm
    revert hc
    cases hr : (s.chan ch).call with
    | none => exact fun hc => by simpa using hc
    | some r =>
      intro hc
      obtain ⟨c, hc, hp⟩ := List.any_eq_true.mp hc
      simp only [Bool.and_eq_true, beq_iff_eq] at hp
      exact ⟨c, hc, hp.1.1, hp.1.2, hp.2⟩
  · have hc' := List.all_eq_true.mp h.2 c hc
    revert hc'
    cases c.channel with
    | none => exact fun hc => by simpa using hc
    | some ch => exact fun hc => by simpa using hc

/-- Check of R82's law of sleeping sections. -/
def State.sleepOk (s : State) : Bool :=
  s.calls.all (fun c => match (s.sec c.sec).power with
    | .off => false
    | .hibernate | .settling _ => c.state == .abandoned
    | .waking _ | .active => true)

theorem State.sleepLaw_of_ok {s : State} (h : s.sleepOk = true) : s.SleepLaw := by
  intro c hc
  have h' := List.all_eq_true.mp h c hc
  revert h'
  cases (s.sec c.sec).power <;> simp

/-- Check of the laws of rows and rosters (R2, R3) and of what stands in an entry (R7, R13, R15). -/
def State.directoryOk (s : State) : Bool :=
  allRows.all (fun r =>
    (match s.entry r 0, s.entry r 1 with
      | some e, some f => e.post != f.post
      | _, _ => true) &&
    ([0, 1] : List (Fin 2)).all (fun c => match s.entry r c with
      | some e =>
        rowOf e.post == r && s.slotAt e.sec e.addr == some e.post && decide (e.missed ≤ Config.missedMax) &&
        e.reachable == decide (e.missed < (s.sec e.sec).timingD.unreachable) &&
        (match (s.sec e.sec).defn with
          | some d => decide (e.offset ≤ d.length)
          | none => false)
      | none => true)) &&
  allSections.all (fun i =>
    (0 :: postAddrs).all (fun a => match s.slotAt i a with
      | some p => (match s.lookup p with
        | some e => e.2.sec == i && e.2.addr == a
        | none => false)
      | none => true) &&
    decide (1 ≤ (s.sec i).timingD.unreachable) && decide ((s.sec i).timingD.unreachable ≤ 8) &&
    (s.sec i).pendingTiming.all (fun t => decide (1 ≤ t.unreachable) && decide (t.unreachable ≤ 8)))

theorem State.directoryLaw_of_ok {s : State} (h : s.directoryOk = true) : s.DirectoryLaw := by
  simp only [State.directoryOk, Bool.and_eq_true] at h
  have hrow : ∀ r : Fin 64, _ := fun r => List.all_eq_true.mp h.1 r (by revert r; decide)
  have hent : ∀ (r : Fin 64) (c : Fin 2) (e : PostEntry), s.entry r c = some e →
      rowOf e.post = r ∧ s.slotAt e.sec e.addr = some e.post ∧ e.missed ≤ Config.missedMax ∧
      e.reachable = decide (e.missed < (s.sec e.sec).timingD.unreachable) ∧
      ∃ d, (s.sec e.sec).defn = some d ∧ e.offset ≤ d.length := by
    intro r c e he
    have h1 := hrow r
    simp only [Bool.and_eq_true] at h1
    have hc : ∀ c : Fin 2, c ∈ ([0, 1] : List (Fin 2)) := by decide
    have h2 := List.all_eq_true.mp h1.2 c (hc c)
    rw [he] at h2
    simp only [Bool.and_eq_true, beq_iff_eq, decide_eq_true_eq] at h2
    obtain ⟨⟨⟨⟨a, b⟩, c'⟩, d'⟩, e'⟩ := h2
    refine ⟨a, b, c', d', ?_⟩
    revert e'
    cases (s.sec e.sec).defn with
    | none => exact fun e' => absurd e' (by simp)
    | some d => exact fun e' => ⟨d, rfl, by simpa using e'⟩
  have hsec : ∀ i : SectionId, _ := fun i => forall_section_of_check h.2 i
  simp only [Bool.and_eq_true, decide_eq_true_eq] at hsec
  refine ⟨⟨fun r c => ?_, fun r => ?_⟩, fun i a => ⟨?_, fun r c => ?_⟩, fun i => ⟨(hsec i).1.1.2, (hsec i).1.2, fun t ht => ?_⟩,
    fun r c => ?_, fun r c => ?_⟩
  · cases he : s.entry r c with
    | none => trivial
    | some e => exact (hent r c e he).1
  · have h1 := hrow r
    simp only [Bool.and_eq_true] at h1
    have h2 := h1.1
    revert h2
    cases s.entry r 0 with
    | none => exact fun _ => trivial
    | some e =>
      cases s.entry r 1 with
      | none => exact fun _ => trivial
      | some f => exact fun h2 => by simpa using h2
  · have h1 := List.all_eq_true.mp (hsec i).1.1.1 a (by revert a; decide)
    revert h1
    cases s.slotAt i a with
    | none => exact fun _ => trivial
    | some p =>
      intro h1
      dsimp only at h1 ⊢
      revert h1
      cases hl : s.lookup p with
      | none => exact fun h1 => absurd h1 (by simp)
      | some e => exact fun h1 => ⟨e, rfl, by simpa using h1⟩
  · cases he : s.entry r c with
    | none => trivial
    | some e => exact fun h1 => h1.1 ▸ h1.2 ▸ (hent r c e he).2.1
  · have h1 := (hsec i).2
    rw [Option.mem_def] at ht
    rw [ht] at h1
    simpa using h1
  · cases he : s.entry r c with
    | none => trivial
    | some e =>
      obtain ⟨-, -, h1, h2, -⟩ := hent r c e he
      refine ⟨h1, ?_⟩
      rw [h2]
      simp
  · cases he : s.entry r c with
    | none => trivial
    | some e => exact (hent r c e he).2.2.2.2

/-- Check of the laws of calls that are not checked above (R129, R132, R149, R163, R172). -/
def State.tableOk (s : State) : Bool :=
  decide (s.calls.length ≤ Config.callDepth) && decide (s.history.length ≤ Config.historyDepth) &&
  decide (s.calls.Pairwise (fun c d => ¬(c.sec = d.sec ∧ c.addr = d.addr))) &&
  decide (s.calls.Pairwise (fun c d => c.ref ≠ d.ref)) && decide (1 ≤ s.nextRef) && decide (s.nextRef ≤ Config.refMax) &&
  s.calls.all (fun c => decide (1 ≤ c.ref) && decide (c.ref ≤ Config.refMax) &&
    (c.offerTimer.isSome == decide (c.state = .offered)) && (c.ringTimer.isSome == decide (c.state = .ringing)) &&
    (!(c.state == .offered || c.state == .connected || c.state == .parked || c.state == .ringing) ||
      s.holder c.sec == some c.ref))

theorem State.refLaw_of_ok {s : State} (h : s.tableOk = true) : s.RefLaw := by
  simp only [State.tableOk, Bool.and_eq_true, decide_eq_true_eq] at h
  obtain ⟨⟨⟨⟨-, h4⟩, h5⟩, h6⟩, h7⟩ := h
  refine ⟨h4, h5, h6, fun c hc => ?_⟩
  have h8 := List.all_eq_true.mp h7 c hc
  simp only [Bool.and_eq_true, decide_eq_true_eq] at h8
  exact ⟨h8.1.1.1.1, h8.1.1.1.2⟩

/-- Check of the laws of calls together. -/
def State.callOk (s : State) : Bool :=
  s.powerOk && s.tableOk && s.channelOk && s.pathOk && s.joinOk && s.sleepOk

theorem State.callLaw_of_ok {s : State} (h : s.callOk = true) : s.CallLaw := by
  simp only [State.callOk, Bool.and_eq_true] at h
  obtain ⟨⟨⟨⟨⟨hp, ht⟩, hc⟩, hpa⟩, hj⟩, hs⟩ := h
  have hr := State.refLaw_of_ok ht
  simp only [State.tableOk, Bool.and_eq_true, decide_eq_true_eq] at ht
  obtain ⟨⟨⟨⟨⟨⟨h1, h2⟩, h3⟩, -⟩, -⟩, -⟩, h7⟩ := ht
  have h8 := fun c hc => List.all_eq_true.mp h7 c hc
  simp only [Bool.and_eq_true, Bool.or_eq_true, decide_eq_true_eq, beq_iff_eq, Bool.not_eq_true'] at h8
  refine ⟨State.powerLaw_of_ok hp, ⟨h1, h2⟩, h3, hr, State.channelLaw_of_ok hc, State.pathLaw_of_ok hpa, fun c hc hst => ?_,
    State.joinLaw_of_ok hj, State.sleepLaw_of_ok hs, fun c hc => ⟨?_, ?_⟩⟩
  · obtain h9 | h9 := (h8 c hc).2
    · rcases hst with hst | hst | hst | hst <;> simp [hst] at h9
    · exact h9
  · rw [(h8 c hc).1.1.2]; simp
  · rw [(h8 c hc).1.2]; simp

/-- Check of R74's queue law. -/
def SectionCtl.queueOk (x : SectionCtl) : Bool :=
  let origin : Txn → Bool := fun t => match t.kind, t.origin with
    | .poll, .round => true
    | .ring, .call _ | .ringStop, .call _ | .connect, .call _ | .clear, .call _ | .parked, .call _ => true
    | .lamp _, .host | .text _, .host => true
    | _, _ => false
  decide (x.queue.Pairwise (fun t u => ¬(t.kind.isNotice = true ∧ u.kind.isNotice = true ∧ t.addr = u.addr))) &&
  decide (x.hostCount ≤ Config.hostDepth) && x.queue.all (fun t => t.kind != .poll && origin t) && x.inFlight.all origin

theorem SectionCtl.queueLaw_of_ok {x : SectionCtl} (h : x.queueOk = true) : x.QueueLaw := by
  simp only [SectionCtl.queueOk, Bool.and_eq_true, decide_eq_true_eq] at h
  obtain ⟨⟨⟨h1, h2⟩, h3⟩, h4⟩ := h
  have ho : ∀ t : Txn, (match t.kind, t.origin with
      | .poll, .round => true
      | .ring, .call _ | .ringStop, .call _ | .connect, .call _ | .clear, .call _ | .parked, .call _ => true
      | .lamp _, .host | .text _, .host => true
      | _, _ => false) = true → t.OriginLaw := by
    intro t ht
    unfold Txn.OriginLaw
    revert ht
    cases t.kind <;> cases t.origin <;> simp
  refine ⟨h1, h2, fun t ht => ?_, fun t ht => ?_⟩
  · have := List.all_eq_true.mp h3 t ht
    simp only [Bool.and_eq_true, bne_iff_ne] at this
    exact ⟨this.1, ho t this.2⟩
  · rw [Option.mem_def] at ht
    rw [ht] at h4
    exact ho t (by simpa using h4)

/-- Check of the queue law of every section. -/
def State.queueOk (s : State) : Bool := allSections.all (fun i => (s.sec i).queueOk)

theorem State.queueLaw_of_ok {s : State} (h : s.queueOk = true) : s.QueueLaw :=
  fun i => SectionCtl.queueLaw_of_ok (forall_section_of_check h i)

/-- The check of `State.RingsAtHome`. -/
def State.ringsOk (s : State) (i : SectionId) : Bool :=
  ((s.sec i).inFlight.toList ++ (s.sec i).queue).all (fun q =>
    q.kind != .ring || match q.origin with
      | .call r => (s.findCall r).all (fun c => c.sec == i)
      | .round | .host => true)

theorem State.ringsAtHome_of_ok {s : State} {i : SectionId} (h : s.ringsOk i = true) : s.RingsAtHome i := by
  intro q hq hk r c ho hc
  have hx := List.all_eq_true.mp h q hq
  simpa [hk, ho, hc] using hx

end Sys2Proof.Machine
end

