-- ==== Sys2Proof/Laws/HostLink.lean ====
section
/-! SUPPORT. Taking a request: what an accepted request, and one that is not, answers, and that a refusal changes nothing. -/

namespace Sys2Proof.Machine

/-! ## Fields that taking and answering a request leave as they were -/

@[simp] theorem State.take_rx (k : ReqKind) (h : Hdr) (bs : List Byte) (s : State) : (State.take k h bs s).rx = s.rx := rfl
@[simp] theorem State.take_reply (k : ReqKind) (h : Hdr) (bs : List Byte) (s : State) : (State.take k h bs s).reply = s.reply := rfl
@[simp] theorem State.take_resetHeld (k : ReqKind) (h : Hdr) (bs : List Byte) (s : State) : (State.take k h bs s).resetHeld = s.resetHeld := rfl
@[simp] theorem State.take_poweringUp (k : ReqKind) (h : Hdr) (bs : List Byte) (s : State) : (State.take k h bs s).poweringUp = s.poweringUp := rfl
@[simp] theorem State.take_mode (k : ReqKind) (h : Hdr) (bs : List Byte) (s : State) : (State.take k h bs s).mode = s.mode := rfl
@[simp] theorem State.take_globals (k : ReqKind) (h : Hdr) (bs : List Byte) (s : State) : (State.take k h bs s).globals = s.globals := rfl
@[simp] theorem State.take_events (k : ReqKind) (h : Hdr) (bs : List Byte) (s : State) : (State.take k h bs s).events = s.events := rfl
@[simp] theorem State.take_seconds (k : ReqKind) (h : Hdr) (bs : List Byte) (s : State) : (State.take k h bs s).seconds = s.seconds := rfl
@[simp] theorem State.take_nowMs (k : ReqKind) (h : Hdr) (bs : List Byte) (s : State) : (State.take k h bs s).nowMs = s.nowMs := rfl
@[simp] theorem State.take_dir (k : ReqKind) (h : Hdr) (bs : List Byte) (s : State) : (State.take k h bs s).dir = s.dir := rfl
@[simp] theorem State.take_rosters (k : ReqKind) (h : Hdr) (bs : List Byte) (s : State) : (State.take k h bs s).rosters = s.rosters := rfl
@[simp] theorem State.take_unresolved (k : ReqKind) (h : Hdr) (bs : List Byte) (s : State) : (State.take k h bs s).unresolved = s.unresolved := rfl
@[simp] theorem State.take_secs (k : ReqKind) (h : Hdr) (bs : List Byte) (s : State) : (State.take k h bs s).secs = s.secs := rfl
@[simp] theorem State.take_ltu (k : ReqKind) (h : Hdr) (bs : List Byte) (s : State) : (State.take k h bs s).ltu = s.ltu := rfl
@[simp] theorem State.take_calls (k : ReqKind) (h : Hdr) (bs : List Byte) (s : State) : (State.take k h bs s).calls = s.calls := rfl
@[simp] theorem State.take_history (k : ReqKind) (h : Hdr) (bs : List Byte) (s : State) : (State.take k h bs s).history = s.history := rfl
@[simp] theorem State.take_nextRef (k : ReqKind) (h : Hdr) (bs : List Byte) (s : State) : (State.take k h bs s).nextRef = s.nextRef := rfl
@[simp] theorem State.take_fullEpisode (k : ReqKind) (h : Hdr) (bs : List Byte) (s : State) : (State.take k h bs s).fullEpisode = s.fullEpisode := rfl
@[simp] theorem State.take_channels (k : ReqKind) (h : Hdr) (bs : List Byte) (s : State) : (State.take k h bs s).channels = s.channels := rfl
@[simp] theorem State.take_holders (k : ReqKind) (h : Hdr) (bs : List Byte) (s : State) : (State.take k h bs s).holders = s.holders := rfl
@[simp] theorem State.take_joins (k : ReqKind) (h : Hdr) (bs : List Byte) (s : State) : (State.take k h bs s).joins = s.joins := rfl
@[simp] theorem State.take_dispatchDue (k : ReqKind) (h : Hdr) (bs : List Byte) (s : State) : (State.take k h bs s).dispatchDue = s.dispatchDue := rfl
@[simp] theorem State.take_pending (k : ReqKind) (h : Hdr) (bs : List Byte) (s : State) : (State.take k h bs s).pending = s.pending := rfl
@[simp] theorem State.silent_take (k : ReqKind) (h : Hdr) (bs : List Byte) (s : State) : (State.take k h bs s).silent = s.silent := rfl
@[simp] theorem State.sec_take (k : ReqKind) (h : Hdr) (bs : List Byte) (s : State) (j : SectionId) : (State.take k h bs s).sec j = s.sec j := rfl
@[simp] theorem State.ltuOf_take (k : ReqKind) (h : Hdr) (bs : List Byte) (s : State) (j : SectionId) : (State.take k h bs s).ltuOf j = s.ltuOf j := rfl
@[simp] theorem State.chan_take (k : ReqKind) (h : Hdr) (bs : List Byte) (s : State) (d : ChanId) : (State.take k h bs s).chan d = s.chan d := rfl
@[simp] theorem State.holder_take (k : ReqKind) (h : Hdr) (bs : List Byte) (s : State) (j : SectionId) : (State.take k h bs s).holder j = s.holder j := rfl
@[simp] theorem State.join_take (k : ReqKind) (h : Hdr) (bs : List Byte) (s : State) (j : SectionId) : (State.take k h bs s).join j = s.join j := rfl
@[simp] theorem State.entry_take (k : ReqKind) (h : Hdr) (bs : List Byte) (s : State) (r : Fin 64) (c : Fin 2) : (State.take k h bs s).entry r c = s.entry r c := rfl
@[simp] theorem State.lookup_take (k : ReqKind) (h : Hdr) (bs : List Byte) (s : State) (n : Nat) : (State.take k h bs s).lookup n = s.lookup n := rfl
@[simp] theorem State.slotAt_take (k : ReqKind) (h : Hdr) (bs : List Byte) (s : State) (j : SectionId) (b : Addr) : (State.take k h bs s).slotAt j b = s.slotAt j b := rfl
@[simp] theorem State.findCall_take (k : ReqKind) (h : Hdr) (bs : List Byte) (s : State) (n : Nat) : (State.take k h bs s).findCall n = s.findCall n := rfl
@[simp] theorem State.callAt_take (k : ReqKind) (h : Hdr) (bs : List Byte) (s : State) (j : SectionId) (b : Addr) : (State.take k h bs s).callAt j b = s.callAt j b := rfl
@[simp] theorem State.taking_rx (s : State) (f : RequestForm) : (s.taking f).rx = s.rx := rfl
@[simp] theorem State.taking_reply (s : State) (f : RequestForm) : (s.taking f).reply = s.reply := rfl
@[simp] theorem State.taking_resetHeld (s : State) (f : RequestForm) : (s.taking f).resetHeld = s.resetHeld := rfl
@[simp] theorem State.taking_poweringUp (s : State) (f : RequestForm) : (s.taking f).poweringUp = s.poweringUp := rfl
@[simp] theorem State.taking_mode (s : State) (f : RequestForm) : (s.taking f).mode = s.mode := rfl
@[simp] theorem State.taking_globals (s : State) (f : RequestForm) : (s.taking f).globals = s.globals := rfl
@[simp] theorem State.taking_events (s : State) (f : RequestForm) : (s.taking f).events = s.events := rfl
@[simp] theorem State.taking_seconds (s : State) (f : RequestForm) : (s.taking f).seconds = s.seconds := rfl
@[simp] theorem State.taking_nowMs (s : State) (f : RequestForm) : (s.taking f).nowMs = s.nowMs := rfl
@[simp] theorem State.taking_dir (s : State) (f : RequestForm) : (s.taking f).dir = s.dir := rfl
@[simp] theorem State.taking_rosters (s : State) (f : RequestForm) : (s.taking f).rosters = s.rosters := rfl
@[simp] theorem State.taking_unresolved (s : State) (f : RequestForm) : (s.taking f).unresolved = s.unresolved := rfl
@[simp] theorem State.taking_secs (s : State) (f : RequestForm) : (s.taking f).secs = s.secs := rfl
@[simp] theorem State.taking_ltu (s : State) (f : RequestForm) : (s.taking f).ltu = s.ltu := rfl
@[simp] theorem State.taking_calls (s : State) (f : RequestForm) : (s.taking f).calls = s.calls := rfl
@[simp] theorem State.taking_history (s : State) (f : RequestForm) : (s.taking f).history = s.history := rfl
@[simp] theorem State.taking_nextRef (s : State) (f : RequestForm) : (s.taking f).nextRef = s.nextRef := rfl
@[simp] theorem State.taking_fullEpisode (s : State) (f : RequestForm) : (s.taking f).fullEpisode = s.fullEpisode := rfl
@[simp] theorem State.taking_channels (s : State) (f : RequestForm) : (s.taking f).channels = s.channels := rfl
@[simp] theorem State.taking_holders (s : State) (f : RequestForm) : (s.taking f).holders = s.holders := rfl
@[simp] theorem State.taking_joins (s : State) (f : RequestForm) : (s.taking f).joins = s.joins := rfl
@[simp] theorem State.taking_dispatchDue (s : State) (f : RequestForm) : (s.taking f).dispatchDue = s.dispatchDue := rfl
@[simp] theorem State.taking_pending (s : State) (f : RequestForm) : (s.taking f).pending = s.pending := rfl
@[simp] theorem State.silent_taking (s : State) (f : RequestForm) : (s.taking f).silent = s.silent := rfl
@[simp] theorem State.sec_taking (s : State) (f : RequestForm) (j : SectionId) : (s.taking f).sec j = s.sec j := rfl
@[simp] theorem State.ltuOf_taking (s : State) (f : RequestForm) (j : SectionId) : (s.taking f).ltuOf j = s.ltuOf j := rfl
@[simp] theorem State.chan_taking (s : State) (f : RequestForm) (d : ChanId) : (s.taking f).chan d = s.chan d := rfl
@[simp] theorem State.holder_taking (s : State) (f : RequestForm) (j : SectionId) : (s.taking f).holder j = s.holder j := rfl
@[simp] theorem State.join_taking (s : State) (f : RequestForm) (j : SectionId) : (s.taking f).join j = s.join j := rfl
@[simp] theorem State.entry_taking (s : State) (f : RequestForm) (r : Fin 64) (c : Fin 2) : (s.taking f).entry r c = s.entry r c := rfl
@[simp] theorem State.lookup_taking (s : State) (f : RequestForm) (n : Nat) : (s.taking f).lookup n = s.lookup n := rfl
@[simp] theorem State.slotAt_taking (s : State) (f : RequestForm) (j : SectionId) (b : Addr) : (s.taking f).slotAt j b = s.slotAt j b := rfl
@[simp] theorem State.findCall_taking (s : State) (f : RequestForm) (n : Nat) : (s.taking f).findCall n = s.findCall n := rfl
@[simp] theorem State.callAt_taking (s : State) (f : RequestForm) (j : SectionId) (b : Addr) : (s.taking f).callAt j b = s.callAt j b := rfl
@[simp] theorem State.replied_rx (s : State) (f : RequestForm) (st : Status) (b0 : ReplyBody) : (s.replied f st b0).rx = s.rx := rfl
@[simp] theorem State.replied_buffer (s : State) (f : RequestForm) (st : Status) (b0 : ReplyBody) : (s.replied f st b0).buffer = s.buffer := rfl
@[simp] theorem State.replied_headTaken (s : State) (f : RequestForm) (st : Status) (b0 : ReplyBody) : (s.replied f st b0).headTaken = s.headTaken := rfl
@[simp] theorem State.replied_resetHeld (s : State) (f : RequestForm) (st : Status) (b0 : ReplyBody) : (s.replied f st b0).resetHeld = s.resetHeld := rfl
@[simp] theorem State.replied_poweringUp (s : State) (f : RequestForm) (st : Status) (b0 : ReplyBody) : (s.replied f st b0).poweringUp = s.poweringUp := rfl
@[simp] theorem State.replied_mode (s : State) (f : RequestForm) (st : Status) (b0 : ReplyBody) : (s.replied f st b0).mode = s.mode := rfl
@[simp] theorem State.replied_globals (s : State) (f : RequestForm) (st : Status) (b0 : ReplyBody) : (s.replied f st b0).globals = s.globals := rfl
@[simp] theorem State.replied_events (s : State) (f : RequestForm) (st : Status) (b0 : ReplyBody) : (s.replied f st b0).events = s.events := rfl
@[simp] theorem State.replied_seconds (s : State) (f : RequestForm) (st : Status) (b0 : ReplyBody) : (s.replied f st b0).seconds = s.seconds := rfl
@[simp] theorem State.replied_nowMs (s : State) (f : RequestForm) (st : Status) (b0 : ReplyBody) : (s.replied f st b0).nowMs = s.nowMs := rfl
@[simp] theorem State.replied_dir (s : State) (f : RequestForm) (st : Status) (b0 : ReplyBody) : (s.replied f st b0).dir = s.dir := rfl
@[simp] theorem State.replied_rosters (s : State) (f : RequestForm) (st : Status) (b0 : ReplyBody) : (s.replied f st b0).rosters = s.rosters := rfl
@[simp] theorem State.replied_unresolved (s : State) (f : RequestForm) (st : Status) (b0 : ReplyBody) : (s.replied f st b0).unresolved = s.unresolved := rfl
@[simp] theorem State.replied_secs (s : State) (f : RequestForm) (st : Status) (b0 : ReplyBody) : (s.replied f st b0).secs = s.secs := rfl
@[simp] theorem State.replied_ltu (s : State) (f : RequestForm) (st : Status) (b0 : ReplyBody) : (s.replied f st b0).ltu = s.ltu := rfl
@[simp] theorem State.replied_calls (s : State) (f : RequestForm) (st : Status) (b0 : ReplyBody) : (s.replied f st b0).calls = s.calls := rfl
@[simp] theorem State.replied_history (s : State) (f : RequestForm) (st : Status) (b0 : ReplyBody) : (s.replied f st b0).history = s.history := rfl
@[simp] theorem State.replied_nextRef (s : State) (f : RequestForm) (st : Status) (b0 : ReplyBody) : (s.replied f st b0).nextRef = s.nextRef := rfl
@[simp] theorem State.replied_fullEpisode (s : State) (f : RequestForm) (st : Status) (b0 : ReplyBody) : (s.replied f st b0).fullEpisode = s.fullEpisode := rfl
@[simp] theorem State.replied_channels (s : State) (f : RequestForm) (st : Status) (b0 : ReplyBody) : (s.replied f st b0).channels = s.channels := rfl
@[simp] theorem State.replied_holders (s : State) (f : RequestForm) (st : Status) (b0 : ReplyBody) : (s.replied f st b0).holders = s.holders := rfl
@[simp] theorem State.replied_joins (s : State) (f : RequestForm) (st : Status) (b0 : ReplyBody) : (s.replied f st b0).joins = s.joins := rfl
@[simp] theorem State.replied_dispatchDue (s : State) (f : RequestForm) (st : Status) (b0 : ReplyBody) : (s.replied f st b0).dispatchDue = s.dispatchDue := rfl
@[simp] theorem State.replied_pending (s : State) (f : RequestForm) (st : Status) (b0 : ReplyBody) : (s.replied f st b0).pending = s.pending := rfl
@[simp] theorem State.silent_replied (s : State) (f : RequestForm) (st : Status) (b0 : ReplyBody) : (s.replied f st b0).silent = s.silent := rfl
@[simp] theorem State.sec_replied (s : State) (f : RequestForm) (st : Status) (b0 : ReplyBody) (j : SectionId) : (s.replied f st b0).sec j = s.sec j := rfl
@[simp] theorem State.ltuOf_replied (s : State) (f : RequestForm) (st : Status) (b0 : ReplyBody) (j : SectionId) : (s.replied f st b0).ltuOf j = s.ltuOf j := rfl
@[simp] theorem State.chan_replied (s : State) (f : RequestForm) (st : Status) (b0 : ReplyBody) (d : ChanId) : (s.replied f st b0).chan d = s.chan d := rfl
@[simp] theorem State.holder_replied (s : State) (f : RequestForm) (st : Status) (b0 : ReplyBody) (j : SectionId) : (s.replied f st b0).holder j = s.holder j := rfl
@[simp] theorem State.join_replied (s : State) (f : RequestForm) (st : Status) (b0 : ReplyBody) (j : SectionId) : (s.replied f st b0).join j = s.join j := rfl
@[simp] theorem State.entry_replied (s : State) (f : RequestForm) (st : Status) (b0 : ReplyBody) (r : Fin 64) (c : Fin 2) : (s.replied f st b0).entry r c = s.entry r c := rfl
@[simp] theorem State.lookup_replied (s : State) (f : RequestForm) (st : Status) (b0 : ReplyBody) (n : Nat) : (s.replied f st b0).lookup n = s.lookup n := rfl
@[simp] theorem State.slotAt_replied (s : State) (f : RequestForm) (st : Status) (b0 : ReplyBody) (j : SectionId) (b : Addr) : (s.replied f st b0).slotAt j b = s.slotAt j b := rfl
@[simp] theorem State.findCall_replied (s : State) (f : RequestForm) (st : Status) (b0 : ReplyBody) (n : Nat) : (s.replied f st b0).findCall n = s.findCall n := rfl
@[simp] theorem State.callAt_replied (s : State) (f : RequestForm) (st : Status) (b0 : ReplyBody) (j : SectionId) (b : Addr) : (s.replied f st b0).callAt j b = s.callAt j b := rfl

/-- An accepted request is its owner's act on the state that has taken it, with the reply framed from the outcome (R189). -/
theorem State.request_accepts {s : State} {f : RequestForm} (act : State → Answered) (h : s.Accepts f) :
    s.request f.kind f.hdr f.body f.want act = (act (s.taking f)).1.replied f (act (s.taking f)).2.1 (act (s.taking f)).2.2 := by
  obtain ⟨h1, h2, h3⟩ := h
  unfold State.request
  rw [if_pos h1]
  dsimp only
  rw [if_neg (by simp [h2]), State.take_mode, if_pos h3]
  rfl

/-- A request the HLI cannot take now is passed over (log 4). -/
theorem State.request_passed {s : State} {f : RequestForm} (act : State → Answered) (h : s.takes f.kind f.hdr f.body = false) :
    s.request f.kind f.hdr f.body f.want act = s := by
  unfold State.request
  rw [if_neg (by simp [h])]

/-- A taken request with another body length is refused FRAME_BAD (R189). -/
theorem State.request_badLength {s : State} {f : RequestForm} (act : State → Answered) (h : s.takes f.kind f.hdr f.body = true)
    (hl : f.hdr.len ≠ f.want) : s.request f.kind f.hdr f.body f.want act = s.answers f .frameBad .nothing := by
  unfold State.request
  rw [if_pos h]
  dsimp only
  rw [if_pos hl]
  rfl

/-- A taken request of a kind the mode does not allow is refused WRONG_MODE (R189). -/
theorem State.request_wrongMode {s : State} {f : RequestForm} (act : State → Answered) (h : s.takes f.kind f.hdr f.body = true)
    (hl : f.hdr.len = f.want) (hm : f.kind.allowedIn s.mode = false) :
    s.request f.kind f.hdr f.body f.want act = s.answers f .wrongMode .nothing := by
  unfold State.request
  rw [if_pos h]
  dsimp only
  rw [if_neg (by simp [hl]), if_neg (by simp [hm])]
  rfl

/-- An owner's answer is sound for a state when a refusal leaves that state as it was (R189, R190). -/
def Answered.Sound (s : State) (a : Answered) : Prop := a.2.1 ≠ .ok → a.2.1 ≠ .okClamped → a.1 = s

theorem State.refuse_sound (s : State) (st : Status) : Answered.Sound s (s.refuse st) := fun _ _ => rfl

theorem State.refuseCall_sound (s : State) (st : Status) (c : Call) : Answered.Sound s (s.refuseCall st c) := fun _ _ => rfl

theorem State.refuseNamed_sound (s : State) (st : Status) (r : Nat) : Answered.Sound s (s.refuseNamed st r) := by
  unfold State.refuseNamed
  split
  · split
    · exact s.refuseCall_sound _ _
    · exact s.refuse_sound _
  · exact s.refuse_sound _

theorem Answered.sound_same (s : State) (st : Status) (b : ReplyBody) : Answered.Sound s (s, st, b) := fun _ _ => rfl

theorem Answered.sound_ok (s t : State) (b : ReplyBody) : Answered.Sound s (t, .ok, b) := fun h _ => absurd rfl h

theorem Answered.sound_okStatus (s t : State) (v : Bool) (b : ReplyBody) : Answered.Sound s (t, okStatus v, b) := by
  intro h1 h2
  cases v <;> simp [okStatus] at h1 h2

theorem State.onSection_sound (s : State) (n : Nat) (act : SectionId → Answered) (h : ∀ i, Answered.Sound s (act i)) :
    Answered.Sound s (s.onSection n act) := by
  unfold State.onSection
  split
  · split
    · exact h _
    · exact s.refuse_sound _
  · exact s.refuse_sound _

theorem State.onSectionInService_sound (s : State) (n : Nat) (act : SectionId → Answered)
    (h : ∀ i, Answered.Sound s (act i)) : Answered.Sound s (s.onSectionInService n act) := by
  refine s.onSection_sound n _ (fun i => ?_)
  split
  · exact s.refuse_sound _
  · exact h i

theorem State.onPost_sound (s : State) (p : Nat) (act : Fin 2 → PostEntry → Answered)
    (h : ∀ c e, Answered.Sound s (act c e)) : Answered.Sound s (s.onPost p act) := by
  unfold State.onPost
  split
  · split
    · exact h _ _
    · exact s.refuse_sound _
  · exact s.refuse_sound _

theorem State.onCall_sound (s : State) (r : Nat) (act : Call → Answered) (h : ∀ c, Answered.Sound s (act c)) :
    Answered.Sound s (s.onCall r act) := by
  unfold State.onCall
  split
  · split
    · exact h _
    · exact s.refuse_sound _
  · exact s.refuse_sound _

/-- A request's outcome is its kind, its tag, and an owner's answer; a refusal changes nothing (R189, R190). -/
theorem State.request_refused {s : State} {f : RequestForm} (act : State → Answered)
    (h : s.takes f.kind f.hdr f.body = true) (ha : ∀ s, Answered.Sound s (act s)) :
    ∃ (t : State) (st : Status) (b : ReplyBody), s.request f.kind f.hdr f.body f.want act = t.replied f st b ∧
      (st ≠ .ok → st ≠ .okClamped → t = s.taking f) := by
  by_cases hl : f.hdr.len = f.want
  · by_cases hm : f.kind.allowedIn s.mode = true
    · exact ⟨_, _, _, s.request_accepts act ⟨h, hl, hm⟩, ha (s.taking f)⟩
    · exact ⟨_, _, _, s.request_wrongMode act h hl (by simpa using hm), fun _ _ => rfl⟩
  · exact ⟨_, _, _, s.request_badLength act h hl, fun _ _ => rfl⟩

end Sys2Proof.Machine
end

