-- ==== Sys2Proof/Laws/Power.lean ====
section
/-! SUPPORT. The power law (R65, R82) through the operations: what each needs to keep it, and that an ACTIVE section stays ACTIVE
through everything but its own going to SETTLING or OFF. -/

namespace Sys2Proof.Machine

/-- The part of the power law that the line timers do not enter. -/
def SectionCtl.PowerCore (x : SectionCtl) : Prop :=
  (x.power ≠ .active → x.line = .down ∧ x.inFlight = none ∧ x.round = none ∧ x.exch.idleKind = true) ∧
  (x.inFlight.isSome = true → x.line = .owned ∨ x.line = .foreign)

theorem SectionCtl.PowerLaw.core {x : SectionCtl} (h : x.PowerLaw) : x.PowerCore := ⟨h.1, h.2.1⟩

theorem SectionCtl.keepTimer_isSome (run : Bool) (t : Option Timer) (now dur : Nat) :
    (SectionCtl.keepTimer run t now dur).isSome = run := by
  unfold SectionCtl.keepTimer
  split <;> simp_all

/-- Line timers that are started and stopped afresh run as their rules say. -/
theorem SectionCtl.PowerCore.retime {x : SectionCtl} (h : x.PowerCore) (now : Nat) : (x.retime now).PowerLaw :=
  ⟨h.1, h.2, SectionCtl.keepTimer_isSome _ _ _ _, SectionCtl.keepTimer_isSome _ _ _ _, SectionCtl.keepTimer_isSome _ _ _ _⟩

/-- The power law holds after an operation, and every ACTIVE section is still ACTIVE. -/
def State.PowerKept (s t : State) : Prop :=
  (s.PowerLaw → t.PowerLaw) ∧ ∀ i, (s.sec i).power = .active → (t.sec i).power = .active

theorem State.PowerKept.refl (s : State) : s.PowerKept s := ⟨id, fun _ h => h⟩

theorem State.PowerKept.trans {s t u : State} (h1 : s.PowerKept t) (h2 : t.PowerKept u) : s.PowerKept u :=
  ⟨fun h => h2.1 (h1.1 h), fun i h => h2.2 i (h1.2 i h)⟩

theorem State.PowerKept.ofSecs {s t : State} (h : t.secs = s.secs) : s.PowerKept t := by
  have e : ∀ i, t.sec i = s.sec i := fun i => by simp [State.sec, h]
  exact ⟨fun hs i => by rw [e]; exact hs i, fun i hi => by rw [e]; exact hi⟩

theorem State.setSec_power (s : State) (i : SectionId) (x : SectionCtl) (h : (s.sec i).PowerLaw → x.PowerLaw)
    (ha : (s.sec i).power = .active → x.power = .active) : s.PowerKept (s.setSec i x) := by
  refine ⟨fun hs j => ?_, fun j hj => ?_⟩
  · rw [State.sec_setSec]
    split
    · next e => exact h (hs i)
    · exact hs j
  · rw [State.sec_setSec]
    split
    · next e => exact ha (e ▸ hj)
    · exact hj

/-- A change to the line, the pair or the power state keeps the law where it keeps its core. -/
theorem State.modLine_power (s : State) (i : SectionId) (f : SectionCtl → SectionCtl)
    (h : (s.sec i).PowerLaw → (f (s.sec i)).PowerCore) (ha : (s.sec i).power = .active → (f (s.sec i)).power = .active) :
    s.PowerKept (s.modLine i f) :=
  s.setSec_power i _ (fun hx => (h hx).retime _) ha

/-- A change that touches nothing of the line, the pair and the power state keeps the law. -/
theorem State.modSec_power (s : State) (i : SectionId) (f : SectionCtl → SectionCtl)
    (hp : (f (s.sec i)).power = (s.sec i).power := by rfl) (hl : (f (s.sec i)).line = (s.sec i).line := by rfl)
    (he : (f (s.sec i)).exch = (s.sec i).exch := by rfl) (hc : (f (s.sec i)).carrier = (s.sec i).carrier := by rfl)
    (hd : (f (s.sec i)).disowned = (s.sec i).disowned := by rfl) (hs : (f (s.sec i)).space = (s.sec i).space := by rfl)
    (h1 : (f (s.sec i)).stuckTimer = (s.sec i).stuckTimer := by rfl)
    (h2 : (f (s.sec i)).breakTimer = (s.sec i).breakTimer := by rfl)
    (h3 : (f (s.sec i)).quietTimer = (s.sec i).quietTimer := by rfl)
    (hf : (f (s.sec i)).inFlight = (s.sec i).inFlight := by rfl)
    (hr : (s.sec i).round = none → (s.sec i).power ≠ .active → (f (s.sec i)).round = none := by exact fun h _ => h) :
    s.PowerKept (s.modSec i f) := by
  refine s.setSec_power i _ ?_ (by rw [hp]; exact id)
  intro hx
  obtain ⟨a1, a2, a3, a4, a5⟩ := hx
  refine ⟨?_, ?_, ?_, ?_, ?_⟩
  · intro hn
    rw [hp] at hn
    obtain ⟨b1, b2, b3, b4⟩ := a1 hn
    exact ⟨by rw [hl, b1], by rw [hf, b2], hr b3 hn, by rw [he, b4]⟩
  · rw [hf, hl]; exact a2
  · rw [h1, a3]; simp only [SectionCtl.stuckRuns, SectionCtl.pairFree, SectionCtl.isSending, hp, hl, he, hc, hd]
  · rw [h2, a4]; simp only [SectionCtl.breakRuns, hp, hl, hs]
  · rw [h3, a5]; simp only [SectionCtl.quietRuns, SectionCtl.pairFree, hp, hl, hc, hd, hs]

theorem State.post_power (s : State) (b : EventBody) : s.PowerKept (s.post b) := .ofSecs (by simp)

/-! ## The operations of a section controller -/

/-- An attempt is sent on an ACTIVE section only. -/
theorem State.sendAttempt_power (s : State) (i : SectionId) (t : Txn) (h : (s.sec i).PowerLaw → (s.sec i).power = .active) :
    s.PowerKept (s.sendAttempt i t) :=
  s.modLine_power i _ (fun hx => ⟨fun hn => absurd (h hx) hn, fun _ => Or.inl rfl⟩) id

theorem State.compareBracket_power (s : State) (i : SectionId) : s.PowerKept (s.compareBracket i) := by
  unfold State.compareBracket
  dsimp only
  split
  · exact .refl s
  · exact (s.modSec_power i _).trans (State.post_power _ _)
  · split
    · exact .refl s
    · exact (s.modSec_power i _).trans (State.post_power _ _)

theorem State.closeRound_power (s : State) (i : SectionId) : s.PowerKept (s.closeRound i) := by
  unfold State.closeRound
  split
  · refine (((s.modSec_power i _ (hr := ?_)).trans (State.post_power _ _)).trans (State.modSec_power _ i _)).trans
      (State.compareBracket_power _ i)
    exact fun _ _ => rfl
  · exact .refl s

theorem State.closeIfDone_power (s : State) (i : SectionId) : s.PowerKept (s.closeIfDone i) := by
  unfold State.closeIfDone
  split
  · split
    · exact .refl s
    · exact s.closeRound_power i
  · exact .refl s

theorem State.openRound_power (s : State) (i : SectionId) (h : (s.sec i).power = .active) : s.PowerKept (s.openRound i) := by
  unfold State.openRound
  refine (s.modSec_power i _ (hr := ?_)).trans (State.closeIfDone_power _ i)
  exact fun _ hn => absurd h hn

theorem State.pollEnded_power (s : State) (i : SectionId) (a : Addr) (f : Round → Round) : s.PowerKept (s.pollEnded i a f) := by
  unfold State.pollEnded
  split
  · next r hr =>
    refine (s.modSec_power i _ (hr := ?_)).trans (State.closeIfDone_power _ i)
    intro hn _
    rw [hr] at hn
    cases hn
  · exact .refl s

theorem State.startMeasure_power (s : State) (i : SectionId) (h : (s.sec i).line = .idle ∨ (s.sec i).line = .brk) :
    s.PowerKept (s.startMeasure i) := by
  unfold State.startMeasure
  split
  · refine (State.PowerKept.ofSecs rfl : s.PowerKept (s.setLtu i _)).trans (State.modLine_power _ i _ ?_ id)
    intro hx
    simp only [State.sec_setLtu] at hx ⊢
    refine ⟨fun hn => ?_, fun hf => ?_⟩
    · have := (hx.1 hn).1
      rcases h with h | h <;> rw [h] at this <;> cases this
    · exfalso
      rcases hx.2.1 hf with e | e <;> rcases h with h | h <;> rw [h] at e <;> cases e
  · exact .refl s

theorem State.active_of_idle {s : State} {i : SectionId} (h : (s.sec i).line ≠ .down) (hx : (s.sec i).PowerLaw) :
    (s.sec i).power = .active := by
  by_contra hn
  exact h (hx.1 hn).1

theorem State.arbitrateRound_power (s : State) (i : SectionId) (h : (s.sec i).line ≠ .down) :
    s.PowerKept (s.arbitrateRound i) := by
  unfold State.arbitrateRound
  split
  · next r hr =>
    split
    · refine (s.modSec_power i _ (hr := ?_)).trans (State.sendAttempt_power _ i _ ?_)
      · intro hn _
        rw [hr] at hn
        cases hn
      · intro hx
        exact State.active_of_idle (by simpa using h) hx
    · exact s.closeRound_power i
  · exact .refl s

theorem State.arbiter_power (s : State) (i : SectionId) : s.PowerKept (s.arbiter i) := by
  unfold State.arbiter
  split
  · next hl =>
    split
    · exact .refl s
    · split
      · exact s.startMeasure_power i (Or.inl hl)
      · split
        · exact .refl s
        · split
          · refine (s.modSec_power i _).trans (State.sendAttempt_power _ i _ ?_)
            intro hx
            exact State.active_of_idle (by simp [hl]) hx
          · exact s.arbitrateRound_power i (by simp [hl])
  · next hl =>
    split
    · exact s.startMeasure_power i (Or.inr hl)
    · exact .refl s
  all_goals exact .refl s

theorem State.workArrived_power (s : State) (i : SectionId) : s.PowerKept (s.workArrived i) := by
  unfold State.workArrived
  split
  · exact s.arbiter_power i
  · exact .refl s

theorem State.applyTiming_power (s : State) (i : SectionId) (t : Timing) : s.PowerKept (s.applyTiming i t) := by
  unfold State.applyTiming State.applyThreshold
  exact (s.modSec_power i (fun x => { x with timing := some t, pendingTiming := none, due := x.movedDue t s.seconds })).trans
    (.ofSecs (by simp))

theorem State.applyPending_power (s : State) (i : SectionId) : s.PowerKept (s.applyPending i) := by
  unfold State.applyPending
  split
  · exact s.applyTiming_power i _
  · exact .refl s

theorem State.sec_applyTiming (s : State) (i j : SectionId) (t : Timing) :
    (s.applyTiming i t).sec j =
      if i = j then { s.sec i with timing := some t, pendingTiming := none, due := (s.sec i).movedDue t s.seconds } else s.sec j := by
  have h := State.sec_modSec s i j (fun x => { x with timing := some t, pendingTiming := none, due := x.movedDue t s.seconds })
  refine Eq.trans ?_ h
  unfold State.applyTiming State.applyThreshold State.sec
  simp

/-- A pending record applied changes the section's timing and due time only. -/
theorem State.sec_applyPending (s : State) (i : SectionId) :
    ∃ d, (s.applyPending i).sec i =
      { s.sec i with timing := (s.sec i).pendingTiming.or (s.sec i).timing, pendingTiming := none, due := d } := by
  unfold State.applyPending
  split
  · next t ht => exact ⟨_, by rw [State.sec_applyTiming, if_pos rfl, ht]; rfl⟩
  · next ht => exact ⟨(s.sec i).due, by rw [ht, Option.none_or, ← ht]⟩

/-- A line enters IDLE on an ACTIVE section with nothing in flight. -/
theorem State.settleIdle_power (s : State) (i : SectionId) (hp : (s.sec i).power = .active) (hf : (s.sec i).inFlight = none) :
    s.PowerKept (s.settleIdle i) := by
  unfold State.settleIdle
  obtain ⟨d, hd⟩ := s.sec_applyPending i
  refine (s.applyPending_power i).trans (State.modLine_power _ i _ ?_ id)
  intro _
  rw [hd]
  exact ⟨fun hn => absurd hp hn, fun h => by simp [hf] at h⟩

theorem State.enterIdle_power (s : State) (i : SectionId) (hp : (s.sec i).power = .active) (hf : (s.sec i).inFlight = none) :
    s.PowerKept (s.enterIdle i) :=
  (s.settleIdle_power i hp hf).trans (State.arbiter_power _ i)

theorem State.burstEnded_power (s : State) (i : SectionId) : s.PowerKept (s.burstEnded i) := s.modSec_power i _

theorem State.modQueue_power (s : State) (i : SectionId) (f : List Txn → List Txn) : s.PowerKept (s.modQueue i f) := s.modSec_power i _

/-- A section starts to wake from HIBERNATE or OFF, where nothing is in flight and no round is open. -/
theorem State.startWake_power (s : State) (i : SectionId) (r : ReasonSet) (h : (s.sec i).power ≠ .active) :
    s.PowerKept (s.startWake i r) := by
  refine s.modLine_power i _ ?_ (fun ha => absurd ha h)
  intro hx
  obtain ⟨-, h2, h3, -⟩ := hx.1 h
  exact ⟨fun _ => ⟨rfl, h2, h3, rfl⟩, fun hf => by simp [h2] at hf⟩

theorem State.toActive_power (s : State) (i : SectionId) (h : (s.sec i).power ≠ .active) : s.PowerKept (s.toActive i) := by
  let f : SectionCtl → SectionCtl := fun x =>
    { x with power := .active, line := .idle, exch := .quiet, settleTimer := none, idleSince := some s.nowMs }
  have h1 : s.PowerKept (s.modLine i f) := by
    refine s.modLine_power i f ?_ (fun ha => absurd ha h)
    intro hx
    obtain ⟨-, h2, -, -⟩ := hx.1 h
    exact ⟨fun hn => absurd rfl hn, fun hf => by simp [f, h2] at hf⟩
  exact h1.trans (.ofSecs rfl)

theorem State.arrive_power (s : State) (i : SectionId) (w : WakeReason) : s.PowerKept (s.arrive i w) := by
  unfold State.arrive
  split
  · next h => exact s.startWake_power i _ (by simp [h])
  · exact s.modSec_power i _
  · next h => exact s.toActive_power i (by simp [h])
  · exact .refl s
  · exact .refl s

theorem State.offerNotice_power (s : State) (i : SectionId) (a : Addr) (k : TxnKind) (r : Nat) :
    s.PowerKept (s.offerNotice i a k r) := by
  unfold State.offerNotice
  split
  · exact .refl s
  all_goals exact ((s.arrive_power i .call).trans (State.modQueue_power _ i _)).trans (State.workArrived_power _ i)

theorem State.offerQuietNotice_power (s : State) (i : SectionId) (a : Addr) (k : TxnKind) (r : Nat) :
    s.PowerKept (s.offerQuietNotice i a k r) := by
  unfold State.offerQuietNotice
  split
  · exact .refl s
  all_goals exact s.modQueue_power i _

theorem State.returnTxn_power (s : State) (i : SectionId) (t : Txn) : s.PowerKept (s.returnTxn i t) := by
  unfold State.returnTxn
  split
  · refine s.modSec_power i _ (hr := ?_)
    intro h _
    simp [h]
  · exact s.modQueue_power i _

/-! ## The call manager's operations -/

theorem State.releaseChannel_secs (s : State) (c : Option ChanId) : (s.releaseChannel c).secs = s.secs := by
  unfold State.releaseChannel
  split
  · split <;> simp
  · rfl

theorem State.dropPath_secs (s : State) (i : SectionId) (r : Nat) : (s.dropPath i r).secs = s.secs := by
  unfold State.dropPath
  split <;> simp

theorem State.retireCall_secs (s : State) (c : Call) (e : EndCause) : (s.retireCall c e).secs = s.secs := by
  unfold State.retireCall
  simp

theorem State.releaseHeld_secs (s : State) (c : Call) : (s.releaseHeld c).secs = s.secs := by
  unfold State.releaseHeld
  rw [State.dropPath_secs, State.releaseChannel_secs]

theorem State.freeHeld_power (s : State) (c : Call) : s.PowerKept (s.freeHeld c) := by
  unfold State.freeHeld
  split
  · exact (State.PowerKept.ofSecs (s.releaseHeld_secs c)).trans (State.arbiter_power _ c.sec)
  · exact .ofSecs (s.releaseHeld_secs c)

theorem State.endCall_power (s : State) (c : Call) (e : EndCause) : s.PowerKept (s.endCall c e) :=
  ((State.PowerKept.ofSecs (s.retireCall_secs c e)).trans (State.offerNotice_power _ c.sec _ _ _)).trans (State.freeHeld_power _ c)

theorem State.endCallQuietly_power (s : State) (c : Call) (e : EndCause) : s.PowerKept (s.endCallQuietly c e) :=
  ((State.PowerKept.ofSecs (s.retireCall_secs c e)).trans (State.offerQuietNotice_power _ c.sec _ _ _)).trans
    (State.PowerKept.ofSecs (State.releaseHeld_secs _ c))

theorem State.endCalls_power (e : EndCause) (cs : List Call) (s : State) : s.PowerKept (State.endCalls e cs s) := by
  induction cs generalizing s with
  | nil => exact .refl s
  | cons c cs ih => exact (s.endCall_power c e).trans (ih _)

theorem State.endCallsQuietly_power (e : EndCause) (cs : List Call) (s : State) : s.PowerKept (State.endCallsQuietly e cs s) := by
  induction cs generalizing s with
  | nil => exact .refl s
  | cons c cs ih => exact (s.endCallQuietly_power c e).trans (ih _)

theorem State.finish_power (s : State) : s.PowerKept s.finish := .ofSecs (by simp)

theorem State.connect_power (s : State) (c : Call) (ch : ChanId) : s.PowerKept (s.connect c ch) := by
  unfold State.connect
  exact (State.PowerKept.ofSecs (by simp)).trans (State.offerNotice_power _ c.sec _ _ _)

theorem State.postAnswers_power (s : State) (c : Call) : s.PowerKept (s.postAnswers c) := by
  unfold State.postAnswers
  split
  · exact s.connect_power c _
  · exact .refl s

theorem State.requeue_power (s : State) (c : Call) (e : RequeueCause) : s.PowerKept (s.requeue c e) := by
  unfold State.requeue
  exact ((State.PowerKept.ofSecs (by simp [State.releaseChannel_secs])).trans (State.offerNotice_power _ c.sec _ _ _)).trans
    (.ofSecs rfl)

theorem State.parkCall_power (s : State) (c : Call) (ch : ChanId) : s.PowerKept (s.parkCall c ch) := by
  unfold State.parkCall
  exact (State.PowerKept.ofSecs (by simp [State.releaseChannel_secs])).trans (State.offerNotice_power _ c.sec _ _ _)

theorem State.ring_power (s : State) (c : Call) (ch : ChanId) : s.PowerKept (s.ring c ch) := by
  unfold State.ring
  exact (State.PowerKept.ofSecs (by simp)).trans (State.offerNotice_power _ c.sec _ _ _)

theorem State.addCall_secs (s : State) (c : Call) : (s.addCall c).secs = s.secs := by
  unfold State.addCall
  simp

theorem State.createFromAlert_power (s : State) (o : CallOrigin) (i : SectionId) (a : Addr) :
    s.PowerKept (s.createFromAlert o i a).1 := by
  unfold State.createFromAlert
  exact .ofSecs (by simp [State.addCall_secs])

theorem State.deferAlert_power (s : State) (o : CallOrigin) (i : SectionId) (a : Addr) : s.PowerKept (s.deferAlert o i a) := by
  unfold State.deferAlert
  split
  · exact .refl s
  · exact .ofSecs (by simp)

theorem State.alert_power (s : State) (o : CallOrigin) (i : SectionId) (a : Addr) : s.PowerKept (s.alert o i a).1 := by
  unfold State.alert
  split
  · exact .refl s
  · split
    · split
      · exact s.postAnswers_power _
      · unfold State.revive
        exact .ofSecs (by simp)
      all_goals exact .refl s
    · unfold State.newAlert
      split
      · exact s.createFromAlert_power o i a
      · split
        · exact (s.endCall_power _ _).trans (State.createFromAlert_power _ o i a)
        · exact s.deferAlert_power o i a

theorem State.abandon_power (s : State) (c : Call) : s.PowerKept (s.abandon c) := by
  unfold State.abandon
  dsimp only
  have h : s.PowerKept (State.offerNotice c.sec c.addr .clear c.ref
      (State.post (.callAbandoned c.ref c.post c.sec c.addr c.state) (State.dropPath c.sec c.ref (State.releaseChannel c.channel
        (s.modCall c.ref (fun x => { x with state := .abandoned, channel := none, offerTimer := none })))))) :=
    (State.PowerKept.ofSecs (by simp [State.dropPath_secs, State.releaseChannel_secs])).trans (State.offerNotice_power _ c.sec _ _ _)
  split
  · exact h.trans (State.arbiter_power _ c.sec)
  · exact h

theorem State.answerRecord_power (s : State) (i : SectionId) (a : Addr) : s.PowerKept (s.answerRecord i a) := by
  unfold State.answerRecord
  split
  · split
    · exact s.postAnswers_power _
    · exact .refl s
  · exact .refl s

theorem State.onhook_power (s : State) (i : SectionId) (a : Addr) : s.PowerKept (s.onhook i a) := by
  unfold State.onhook
  split
  · split
    · exact s.endCall_power _ _
    · exact s.abandon_power _
    · exact s.abandon_power _
    · exact s.abandon_power _
    all_goals exact .refl s
  · exact .refl s

theorem State.impliedAlert_power (s : State) (i : SectionId) (a : Addr) (st : StatusFields) :
    s.PowerKept (s.impliedAlert i a st) := by
  unfold State.impliedAlert
  split
  · exact (s.alert_power _ i a).trans (State.finish_power _)
  · exact .refl s

theorem State.noticeFailed_power (s : State) (k : TxnKind) (r : Nat) : s.PowerKept (s.noticeFailed k r) := by
  unfold State.noticeFailed
  split
  · split
    · exact s.endCall_power _ _
    · exact .refl s
  · exact .refl s

/-! ## Transactions and bursts -/

theorem State.modEntry_secs (s : State) (p : Nat) (f : PostEntry → PostEntry) : (s.modEntry p f).secs = s.secs := by
  unfold State.modEntry
  split <;> simp

theorem State.missedReport_secs (s : State) (i : SectionId) (a : Addr) : (s.missedReport i a).secs = s.secs := by
  unfold State.missedReport
  dsimp only
  split
  · split <;> simp [State.modEntry_secs]
  · rfl

theorem State.statusReport_secs (s : State) (i : SectionId) (a : Addr) (st : StatusFields) : (s.statusReport i a st).secs = s.secs := by
  unfold State.statusReport
  split <;> simp [State.modEntry_secs]

theorem State.pollFailed_power (s : State) (i : SectionId) (a : Addr) (r : FailReason) : s.PowerKept (s.pollFailed i a r) := by
  unfold State.pollFailed
  split
  · exact (State.PowerKept.ofSecs (s.missedReport_secs i a)).trans (State.pollEnded_power _ i a _)
  · exact s.pollEnded_power i a _
  all_goals exact .refl s

theorem State.reportFailed_power (s : State) (i : SectionId) (t : Txn) (r : FailReason) : s.PowerKept (s.reportFailed i t r) := by
  unfold State.reportFailed
  dsimp only
  split
  · exact (s.post_power _).trans (State.pollFailed_power _ i _ r)
  · exact s.post_power _
  · exact (s.post_power _).trans (State.noticeFailed_power _ _ _)

theorem State.clearFlight_power (s : State) (i : SectionId) : s.PowerKept (s.clearFlight i) := by
  refine s.modLine_power i _ ?_ id
  intro hx
  exact ⟨fun hn => ⟨(hx.1 hn).1, rfl, (hx.1 hn).2.2.1, rfl⟩, nofun⟩

/-- A waiting transaction that has an attempt left is held while the post's burst is received (log 13). -/
theorem State.burstInWait_of_unspent {s : State} {i : SectionId} {t : Txn} (h : (s.sec i).inFlight = some t)
    (hb : (s.sec i).spent t = false) : s.burstInWait i = s.receivePost i := by
  simp [State.burstInWait, h, hb]

/-- A waiting transaction whose budget is spent fails NO_REPLY, and a line left in IDLE receives the post's burst (R47, log 52). -/
theorem State.burstInWait_of_spent {s : State} {i : SectionId} {t : Txn} (h : (s.sec i).inFlight = some t)
    (hb : (s.sec i).spent t = true) (hl : ((s.failFlight i t .noReply).sec i).line = .idle) :
    s.burstInWait i = (s.failFlight i t .noReply).receivePost i := by
  simp [State.burstInWait, h, hb, hl]

/-- A MEASURE that is aborted leaves the line as it is. -/
theorem State.abortMeasure_power (s : State) (i : SectionId) : s.PowerKept (s.abortMeasure i) := by
  unfold State.abortMeasure
  split
  · exact ((State.PowerKept.ofSecs (by simp)).trans (State.modSec_power _ i _)).trans (State.post_power _ _)
  · split
    · exact (s.modSec_power i _).trans (State.post_power _ _)
    · exact .refl s

theorem State.abortQueue_power (s : State) (i : SectionId) : s.PowerKept (s.abortQueue i) := by
  refine (s.modLine_power i _ ?_ id).trans (State.abortMeasure_power _ i)
  exact fun hx => ⟨fun hn => ⟨(hx.1 hn).1, rfl, (hx.1 hn).2.2.1, rfl⟩, nofun⟩

/-- An abort of the queue leaves queue and line with no transaction, nothing on the pair, and the MEASURE slot empty (R80). -/
theorem State.abortQueue_clears (s : State) (i : SectionId) :
    ((s.abortQueue i).sec i).inFlight = none ∧ ((s.abortQueue i).sec i).queue = [] ∧ ((s.abortQueue i).sec i).exch = .quiet ∧
    ((s.abortQueue i).sec i).line = (s.sec i).line ∧ ((s.abortQueue i).sec i).slot = none := by
  unfold State.abortQueue State.abortMeasure
  split
  · simp [State.modLine, State.modSec, SectionCtl.retime]
  · split
    · simp [State.modLine, State.modSec, SectionCtl.retime]
    · next h => simpa [State.modLine, State.modSec, SectionCtl.retime] using h

end Sys2Proof.Machine
end

