-- ==== Sys2Proof/Laws/Wire.lean ====
section
/-! SUPPORT. What stands on the wires: the record part of a burst with its FILLER, and the packed body of a LIST CALLS reply. -/

namespace Sys2Proof.Machine

/-! ## Bursts -/

theorem Filler.isFiller_of_admits {f : Filler} {r : LineRec} (h : f.admits r = true) : r.isFiller = true := by
  simp only [Filler.admits, Bool.and_eq_true] at h; exact h.1.1.1

/-- A burst whose records are all FILLER is judged as one with no records (R41). -/
theorem readBurst_of_isFiller {rs : List LineRec} (h : ∀ r ∈ rs, r.isFiller = true) : readBurst rs = some [] := by
  have : rs.filter (fun r => !r.isFiller) = [] := by simpa [List.filter_eq_nil_iff] using h
  rw [readBurst, this, checkAll]

/-- A burst of FILLER only may have on the pair one record or more of its FILLER, and nothing else. -/
theorem Burst.admits_fillerOnly (w : SyncWord) (a : Addr) (rs : List LineRec) :
    (⟨w, .addressed a, []⟩ : Burst).admits rs = (rs.all (Filler.addressed a).admits && !rs.isEmpty) := by
  have e : (Filler.addressed a == Filler.absent) = false := by simp
  simp [Burst.admits, e]

/-- A burst without FILLER has its own records on the pair. -/
theorem Burst.admits_absent (w : SyncWord) (os : List OutRec) (rs : List LineRec) :
    (⟨w, .absent, os⟩ : Burst).admits rs = true ↔ rs = os.map OutRec.line := by
  constructor
  · intro h
    simp only [Burst.admits, Bool.and_eq_true, beq_iff_eq] at h
    have e : rs.take (rs.length - os.length) = [] := by simpa using h.1.2
    have d := List.take_append_drop (rs.length - os.length) rs
    rw [e, List.nil_append] at d
    exact d.symm.trans h.2
  · rintro rfl; simp [Burst.admits]

/-! ## The body of a LIST CALLS reply -/

@[simp] theorem CallBrief.bytes_length (b : CallBrief) : b.bytes.length = 6 := rfl

@[simp] theorem callListBody_length (n : Nat) (l : List CallBrief) : (callListBody n l).length = 2 + 6 * l.length := by
  simp [callListBody, byte1, List.length_flatMap]; omega

/-- "192 bytes, plus the status and the count, 194 bytes", which a frame's body has room for (R189). -/
theorem callListBody_fits (n : Nat) (l : List CallBrief) (h : l.length ≤ Config.callDepth) :
    (callListBody n l).length ≤ 194 ∧ (callListBody n l).length ≤ Config.bodyMax := by
  simp at h ⊢; omega

end Sys2Proof.Machine
end

