-- ==== Sys2Proof/Tests/Slice0.lean ====
section
/-! SUPPORT. The model's own tests: ill-formed commands refused, the spec's worked values, and for each statement of
Certificates/Slice0/Obligations.lean states and operands that meet its hypotheses, with what the command then does. The part they
share is the spec's: section 5 of 11_the_host_link.md (From setup to service) with post 1203 at address 4. -/

namespace Sys2Proof.Tests
set_option Elab.async false

open Sys2Proof.Machine

/-! ## A small part -/

/-- A request's header: a tag, and the length of its body. -/
def hd (n : Nat) : Hdr := ⟨0x21#8, n⟩

/-- The state a command answers. -/
def after (c : Instr) (s : State) : State :=
  match exec c s with
  | .next t => t
  | _ => s

/-- The definition of section 5. -/
def defn : SectionDef := ⟨84200, .minus, 9000, 5600, 35, 0x4D35#16, true, true⟩

/-- Section 5 ACTIVE and IDLE, its next poll due at 900 s. -/
def on : SectionCtl :=
  { SectionCtl.reset with defn := some defn, timing := some Timing.default, power := .active, line := .idle, idleSince := some 0,
                          anchor := some 0, due := some 900 }

/-- Section 5 in another power state. -/
def resting (p : Power) : SectionCtl := { on with power := p, line := .down, idleSince := none }

/-- The entry of post 1203. -/
def entry : PostEntry := ⟨1203, 5, 4, 8000, .tunnel, .a, .inService, none, none, 0, true, false⟩

/-- The part in SERVICE at 100 s, section 5 as given, post 1203 defined on it, channel 0 FREE. -/
def part (x : SectionCtl) : State :=
  ((({ State.reset with mode := .service, seconds := 100, nowMs := 100000 }.setSec 5 x).setEntry (rowOf 1203) 0
    (some entry)).setSlot 5 4 (some 1203)).setChan 0 ⟨.free, true, none⟩

/-- The same part in SETUP, section 5 OFF. -/
def bench : State := { part (resting .off) with mode := .setup }

/-- Auto-offer off. -/
def quietly (s : State) : State := { s with globals := { s.globals with autoOffer := false } }

/-- Call 7 of post 1203, with the timers of its state. -/
def call (st : CallState) : Call :=
  { ref := 7, direction := .inbound, origin := .alert, post := 1203, sec := 5, addr := 4, cls := .tunnel, state := st,
    arrival := 60, boost := 0, channel := if st.channelState.isSome then some 0 else none,
    location := ⟨76200, .a, .directory, false⟩, connectedSince := if st = .connected then some 80 else none,
    connectedTotal := 0, offerTimer := if st = .offered then some ⟨90000, 20000⟩ else none,
    ringTimer := if st = .ringing then some ⟨70000, 60000⟩ else none }

/-- The part with call 7 in a state, its channel, path and join as that state has them. -/
def calling (x : SectionCtl) (st : CallState) : State :=
  let s := { part x with calls := [call st], nextRef := 8 }
  let s := match st.channelState with
    | some c => s.setChan 0 ⟨c, true, some 7⟩
    | none => s
  match st with
  | .queued | .abandoned => s
  | .offered | .connected | .parked | .ringing => (s.setHolder 5 (some 7)).setJoin 5 (call st).joinOf

/-- A record of a post, its check good. -/
def rec (a kind : Byte) (payload : List Byte) : LineRec :=
  ⟨a, kind, BitVec.ofNat 8 payload.length, payload, crc8 (a :: kind :: BitVec.ofNat 8 payload.length :: payload)⟩

/-- The burst of an attempt. -/
def burst (t : Txn) : Burst := ⟨0x4D35#16, .lead, [t.stepRecord]⟩

/-- A poll of address 4 in flight. -/
def poll4 : Txn := ⟨.poll, 4, .round, 0, 0, 0, false⟩

/-- A LAMP for address 4. -/
def lamp4 : Txn := ⟨.lamp .steady, 4, .host, 0, 0, 0, false⟩

/-- A RING of call 7. -/
def ring4 : Txn := ⟨.ring, 4, .call 7, 0, 0, 0, false⟩

/-- A TEXT of twelve characters. -/
def text4 : Txn := ⟨.text (List.replicate 12 0x41#8), 4, .host, 0, 0, 0, false⟩

/-- Section 5 with a transaction in flight and this exchange. -/
def flying (t : Txn) (e : Exchange) : SectionCtl := { on with line := .owned, exch := e, inFlight := some t }

/-- Section 5 with a LAMP queued behind an OWNED line, so that a notice waits. -/
def owned : SectionCtl := { on with line := .owned, queue := [lamp4] }

/-! ## The laws hold of the part and of its calls -/

theorem test_part_lawful : (part on).CallLaw ∧ (part on).DirectoryLaw ∧ (part on).QueueLaw :=
  ⟨State.callLaw_of_ok (by decide +kernel), State.directoryLaw_of_ok (by decide +kernel), State.queueLaw_of_ok (by decide +kernel)⟩

theorem test_queued_lawful : (calling on .queued).CallLaw := State.callLaw_of_ok (by decide +kernel)
theorem test_offered_lawful : (calling on .offered).CallLaw := State.callLaw_of_ok (by decide +kernel)
theorem test_connected_lawful : (calling on .connected).CallLaw := State.callLaw_of_ok (by decide +kernel)
theorem test_parked_lawful : (calling on .parked).CallLaw := State.callLaw_of_ok (by decide +kernel)
theorem test_ringing_lawful : (calling on .ringing).CallLaw := State.callLaw_of_ok (by decide +kernel)
theorem test_abandoned_lawful : (calling on .abandoned).CallLaw := State.callLaw_of_ok (by decide +kernel)

/-- A state that a run of the part does not reach fails the check: a queued call on a section that is OFF. -/
theorem test_lawless_is_found : (calling (resting .off) .queued).callOk = false := by decide +kernel

/-! ## Ill-formed commands -/

theorem test_header_too_long : (Instr.start (hd 251)).wellFormed = false ∧ (Instr.start (hd 250)).wellFormed = true := by decide
theorem test_globals_byte : (Instr.setGlobals (hd 9) ⟨256, 20, 60, 8, 6, 4, 0, 110, 1⟩).wellFormed = false := by decide
theorem test_section_base : (Instr.defineSection (hd 15) 5 ⟨16777216, 1, 9000, 5600, 35, 0, 1, 1⟩).wellFormed = false := by decide
theorem test_section_byte : (Instr.forceIdle (hd 1) 256).wellFormed = false := by decide
theorem test_timing_word : (Instr.setSectionTiming (hd 13) 5 ⟨65536, 2, 60, 900, 0, 3, 3, 2⟩).wellFormed = false := by decide
theorem test_post_word : (Instr.definePost (hd 8) ⟨65536, 5, 4, 8000, 0, 0⟩).wellFormed = false ∧
    (Instr.removePost (hd 2) 65536).wellFormed = false := by decide
theorem test_lamp_byte : (Instr.lamp (hd 3) 1203 256).wellFormed = false := by decide
theorem test_message_length : (Instr.message (hd 5) 1203 2 [0x41#8]).wellFormed = false := by decide
theorem test_service_direction : (Instr.sectionServiceIn (hd 3) 5 1 0).wellFormed = false ∧
    (Instr.sectionServiceOut (hd 3) 5 0 0).wellFormed = false := by decide
theorem test_channel_direction : (Instr.setChannelOut (hd 2) 0 0).wellFormed = false ∧
    (Instr.setChannelIn (hd 2) 0 1).wellFormed = false := by decide
theorem test_reference_word : (Instr.answer (hd 2) 65536).wellFormed = false ∧ (Instr.offerTimeout 65536).wellFormed = false := by
  decide
theorem test_channel_byte : (Instr.pick (hd 3) 7 256).wellFormed = false ∧ (Instr.callPost (hd 3) 1203 256).wellFormed = false := by
  decide
theorem test_record_length : (Instr.postBurstEnd 5 [⟨4, 0x41, 1, [], 0⟩]).wellFormed = false ∧
    (Instr.postBurstEnd 5 [⟨4, 0x41, 9, [0], 0⟩]).wellFormed = false := by decide

/-! ## The spec's worked values -/

/-- The nine characters "123456789" give 0x29B1 (11, after the frame table). -/
theorem test_crc16 : crc16 [0x31, 0x32, 0x33, 0x34, 0x35, 0x36, 0x37, 0x38, 0x39] = 0x29B1#16 := by decide +kernel

/-- The rows worked out in full under R2. -/
theorem test_rows : [4172, 832, 76, 1201, 1203, 1205].map (fun p => (rowOf p).val) = [13, 13, 13, 35, 33, 39] := by decide

/-- The divisions worked under R23. -/
theorem test_rounding : roundDiv 8257 2 = 4129 ∧ roundDiv 9000 2 = 4500 ∧ roundDiv 9001 2 = 4501 ∧
    roundDiv 40940000 5600 = 7311 ∧ roundDiv 10400000 5600 = 1857 := by decide

/-- The chainages worked under R24. -/
theorem test_chainages : defn.chainage 8000 = (76200, false) ∧ defn.chainage 6000 = (78200, false) ∧
    ({ defn with base := 3000 }.chainage 5000) = (0, true) ∧ ({ defn with base := 3000 }.chainage 2500) = (500, false) ∧
    ({ defn with base := 995000, sign := .plus }.chainage 6500) = (999999, true) := by decide

/-- The fault distance worked under R30, and the ends of the range (R30, R31). -/
theorem test_distances : defn.distance 4129 = (7311, false) ∧ defn.distance 35 = (0, false) ∧ defn.distance 60000 = (9000, true) := by
  decide

/-- The scores worked under R34: the boost and waiting time of each row. -/
theorem test_scores :
    (part on).score { call .queued with arrival := 53, boost := 2 } = 14 ∧
    (part on).score { call .queued with cls := .openRoad, arrival := 5 } = 11 ∧
    (part on).score { call .queued with arrival := 30, boost := 4 } = 15 ∧
    (part on).score { call .queued with cls := .service, arrival := 100 } = 0 ∧
    (part on).score { call .queued with cls := .bridge, arrival := 91, boost := 6 } = 12 := by decide +kernel

/-- No row of the table gives bits: no word is a command, and the queue stays as it is. -/
theorem test_no_word : decodeTableWord 16 0x5A01 = none ∧ State.reset.withFetchWord 16 0x5A01 = State.reset := by decide +kernel

/-- A record with a bad CRC-8, an address above 15 or a wrong payload is bad (R40); FILLER is discarded first (R41). -/
theorem test_record_checks :
    readBurst [rec 4 0x41 []] = some [⟨4, .alert, none⟩] ∧ readBurst [{ rec 4 0x41 [] with check := 0 }] = none ∧
    readBurst [rec 16 0x41 []] = none ∧ readBurst [rec 4 0x41 [0]] = none ∧ readBurst [rec 0 0x0C [], rec 15 0x46 []] =
      some [⟨15, .ack, none⟩] ∧
    readBurst [rec 4 0x45 [0x03, 118, 2]] = some [⟨4, .status, some ⟨true, true, false, false, 118, .slow⟩⟩] ∧
    readBurst [rec 4 0x45 [0x10, 118, 2]] = none ∧ readBurst [rec 4 0x45 [0x03, 151, 2]] = none ∧
    readBurst [rec 4 0x45 [0x03, 150, 4]] = none := by decide +kernel

/-! ## Witnesses: the step and the host link -/

theorem test_step_takes_the_front : step { part on with pending := [.secondsTick, .identify (hd 0)] } =
    .next { part on with pending := [.identify (hd 0)], seconds := 101, nowMs := 101000 } := rfl

/-- Requests checked for length and then mode: each clause at a state of its own. -/
theorem test_request_checks :
    requestOf (.lamp (hd 3) 1203 1) = some ⟨.lamp, hd 3, byte2 1203 ++ byte1 1, 3⟩ ∧
    { part on with resetHeld := true }.takes .lamp (hd 3) (byte2 1203 ++ byte1 1) = false ∧
    (part on).takes .lamp (hd 3) (byte2 1203 ++ byte1 1) = true ∧
    (part on).takes .lamp (hd 2) (byte2 1203 ++ byte1 1) = true ∧
    (after (.lamp (hd 2) 1203 1) (part on)).reply = some ⟨0xA4, 0x21, .frameBad, .nothing⟩ ∧
    ReqKind.lamp.allowedIn bench.mode = false ∧
    (after (.lamp (hd 3) 1203 1) bench).reply = some ⟨0xA4, 0x21, .wrongMode, .nothing⟩ := by decide +kernel

/-- A request refused by its owning block. -/
theorem test_refusal_changes_nothing :
    (part on).takes .lamp (hd 3) (byte2 1201 ++ byte1 1) = true ∧
    after (.lamp (hd 3) 1201 1) (part on) = (part on).answers ⟨.lamp, hd 3, byte2 1201 ++ byte1 1, 3⟩ .noSuchPost .nothing := by
  decide +kernel

theorem test_table_reads :
    (part on).Accepts ⟨.identify, hd 0, [], 0⟩ ∧ (part on).Accepts ⟨.listCalls, hd 0, [], 0⟩ ∧
    (part on).Accepts ⟨.readChannels, hd 0, [], 0⟩ ∧ (part on).Accepts ⟨.readHistory, hd 1, byte1 15, 1⟩ ∧
    (part on).Accepts ⟨.readHistory, hd 1, byte1 16, 1⟩ ∧
    (after (.identify (hd 0)) (part on)).reply = some ⟨0x81, 0x21, .ok, .identity 0x0816 1 .service 100 [5] 0⟩ ∧
    (after (.readHistory (hd 1) 15) (part on)).reply = some ⟨0xD7, 0x21, .ok, .history none 0⟩ ∧
    (after (.readHistory (hd 1) 16) (part on)).reply = some ⟨0xD7, 0x21, .badField, .nothing⟩ := by
  unfold State.Accepts; decide +kernel

theorem test_list_and_channels :
    (after (.listCalls (hd 0)) (calling on .connected)).reply =
      some ⟨0xD1, 0x21, .ok, .callList 1 [⟨7, .connected, 5, 4, 1203, some 0⟩] [⟨76200, .a, .directory, false⟩]⟩ ∧
    (after (.readChannels (hd 0)) (calling on .connected)).reply = some ⟨0xD5, 0x21, .ok, .channels
      [⟨.connected, true, some 7⟩, ⟨.down, false, none⟩, ⟨.down, false, none⟩, ⟨.down, false, none⟩]
      [none, none, none, none, none, some 7, none, none]
      [.nothing, .nothing, .nothing, .nothing, .nothing, .channel 0, .nothing, .nothing] true⟩ := by decide +kernel

/-- An entry of LIST CALLS at the ends of its ranges, and the body of a list of 32: 194 bytes. -/
theorem test_call_list_body :
    (⟨260, .connected, 5, 4, 1203, some 0⟩ : CallBrief).bytes = [0x01, 0x04, 0x04, 0xB3, 0x54, 0x20] ∧
    (⟨65535, .abandoned, 7, 15, 59999, none⟩ : CallBrief).bytes = [0xFF, 0xFF, 0xEA, 0x5F, 0x7F, 0x5F] ∧
    (⟨1, .queued, 0, 1, 0, some 3⟩ : CallBrief).bytes = [0x00, 0x01, 0x00, 0x00, 0x01, 0x03] ∧
    (callListBody 32 (List.replicate 32 (call .queued).brief)).length = 194 ∧ callListBody 0 [] = [0x00, 0x00] := by decide +kernel

theorem test_read_call :
    (calling on .queued).Accepts ⟨.readCall, hd 2, byte2 0, 2⟩ ∧ (calling on .queued).Accepts ⟨.readCall, hd 2, byte2 8, 2⟩ ∧
    (calling on .queued).Accepts ⟨.readCall, hd 2, byte2 7, 2⟩ ∧ (calling on .queued).findCall 8 = none ∧
    (calling on .queued).findCall 7 = some (call .queued) ∧
    (after (.readCall (hd 2) 7) (calling on .queued)).reply =
      some ⟨0xD2, 0x21, .ok, .call (call .queued) (some 12) (some true) none⟩ ∧
    (after (.readCall (hd 2) 7) (calling on .connected)).reply =
      some ⟨0xD2, 0x21, .ok, .call (call .connected) none none (some 20)⟩ := by unfold State.Accepts; decide +kernel

theorem test_read_post :
    (part on).Accepts ⟨.readPost, hd 2, byte2 0, 2⟩ ∧ (part on).Accepts ⟨.readPost, hd 2, byte2 60000, 2⟩ ∧
    (part on).Accepts ⟨.readPost, hd 2, byte2 59999, 2⟩ ∧ (part on).Accepts ⟨.readPost, hd 2, byte2 1, 2⟩ ∧
    (part on).lookup 59999 = none ∧ (part on).lookup 1 = none ∧ (part on).Accepts ⟨.readPost, hd 2, byte2 1203, 2⟩ ∧
    (part on).lookup 1203 = some (0, entry) ∧
    (after (.readPost (hd 2) 60000) (part on)).reply = some ⟨0xD3, 0x21, .badField, .nothing⟩ ∧
    (after (.readPost (hd 2) 59999) (part on)).reply = some ⟨0xD3, 0x21, .noSuchPost, .nothing⟩ ∧
    (after (.readPost (hd 2) 1203) (calling on .queued)).reply = some ⟨0xD3, 0x21, .ok, .post entry 33 0 (some 7)⟩ := by
  unfold State.Accepts; decide +kernel

theorem test_read_section :
    (part on).Accepts ⟨.readSection, hd 1, byte1 8, 1⟩ ∧ (part on).Accepts ⟨.readSection, hd 1, byte1 7, 1⟩ ∧
    ((part on).sec 7).defn = none ∧ (part on).Accepts ⟨.readSection, hd 1, byte1 5, 1⟩ ∧ ((part on).sec 5).defn = some defn ∧
    (after (.readSection (hd 1) 5) (part on)).reply = some ⟨0xD4, 0x21, .ok, .sectionView
      ⟨defn, .default, none, .active, .empty, false, .idle, false, none, 0, 0, [], none, false, some 0, some 900, none, false,
       none⟩⟩ := by unfold State.Accepts; decide +kernel

/-- READ SECTION in the middle of a round: a poll in flight, a queue, and the round's record. -/
theorem test_read_section_of_a_round :
    (let x := { on with line := .owned, exch := .window ⟨99900, 400⟩, inFlight := some { poll4 with attempts := 1 },
                        queue := [text4, ring4], round := some ⟨4, none, 2, 1, 0⟩, overrun := true }
     (part x).Accepts ⟨.readSection, hd 1, byte1 5, 1⟩ ∧
     (after (.readSection (hd 1) 5) (part x)).reply = some ⟨0xD4, 0x21, .ok, .sectionView
       ⟨defn, .default, none, .active, .empty, false, .owned, false, some ⟨.poll, 4, .round, 1, 0, 0⟩, 1, 2,
        [⟨.text, 4, .host, 0⟩, ⟨.ring, 4, .call 7, 0⟩], none, false, some 0, some 900, some ⟨4, some 4, 2, 1, 0⟩, true, none⟩⟩) := by
  unfold State.Accepts; decide +kernel

/-- The part with a measurement running on section 5, this many samples taken. -/
def measuring (samples : List Nat) : State :=
  (part { on with line := .testing }).setLtu 5 ⟨some ⟨.host, 99, 99000, samples⟩, none⟩

theorem test_read_measurement :
    (part on).Accepts ⟨.readMeasurement, hd 1, byte1 8, 1⟩ ∧ (part on).Accepts ⟨.readMeasurement, hd 1, byte1 7, 1⟩ ∧
    ((part on).sec 7).defn = none ∧ (part on).Accepts ⟨.readMeasurement, hd 1, byte1 5, 1⟩ ∧ ((part on).sec 5).defn ≠ none ∧
    (after (.readMeasurement (hd 1) 5) (part on)).reply = some ⟨0xD8, 0x21, .ok, .measurement none .idle⟩ ∧
    (after (.readMeasurement (hd 1) 5) (measuring [4000])).reply =
      some ⟨0xD8, 0x21, .ok, .measurement none (.running .host [4000])⟩ ∧
    (after (.readMeasurement (hd 1) 5) (calling { on with line := .owned, slot := some .host } .connected)).reply =
      some ⟨0xD8, 0x21, .ok, .measurement none (.pending .host true)⟩ := by unfold State.Accepts; decide +kernel

/-- An event record, and the part with this many of them in its queue. -/
def ev : Event := ⟨.lineStuck 5, 90, 0⟩
def events (n : Nat) : State := { part on with events := List.replicate n ev }

theorem test_get_event :
    (events 32).takes .getEvent (hd 0) [] = true ∧ (hd 0).len = 0 ∧ (events 32).events = ev :: List.replicate 31 ev ∧
    (events 0).takes .getEvent (hd 0) [] = true ∧ (events 0).events = [] ∧
    (after (.getEvent (hd 0)) (events 32)).reply = some ⟨0xD0, 0x21, .ok, .event (some ev) 31 100⟩ ∧
    (after (.getEvent (hd 0)) (events 1)).attn = false ∧ (after (.getEvent (hd 0)) (events 2)).attn = true ∧
    (after (.getEvent (hd 0)) (events 0)).reply = some ⟨0xD0, 0x21, .ok, .event none 0 100⟩ := by decide +kernel

/-- Each row of R183's table: empty, one record, 31 records, 32 records, and two requests with one record. -/
theorem test_get_event_meets_posting :
    (events 0).events = [] ∧ (events 1).events = [ev] ∧ (events 31).events = ev :: List.replicate 30 ev ∧
    (List.replicate 30 ev).length < 31 ∧ (events 32).events = ev :: List.replicate 30 ev ++ [ev] ∧
    (List.replicate 30 ev).length = 30 ∧
    (after (.getEvent (hd 0)) ((events 32).post (.lineStuck 5))).events = List.replicate 30 ev ++ [{ ev with lostAfter := 1 }] ∧
    ((after (.getEvent (hd 0)) (events 32)).post (.lineStuck 5)).events = List.replicate 31 ev ++ [⟨.lineStuck 5, 100, 0⟩] ∧
    { events 1 with buffer := [.request 0x50#8 0x21#8 [], .request 0x50#8 0x22#8 []] }.takes .getEvent (hd 0) [] = true ∧
    (events 1).headTaken = false ∧ (events 1).reply = none := by decide +kernel

theorem test_read_unresolved :
    { part on with unresolved := some ⟨5, 6, .alert, 90, 2⟩ }.Accepts ⟨.readUnresolved, hd 0, [], 0⟩ ∧
    (after (.readUnresolved (hd 0)) { part on with unresolved := some ⟨5, 6, .alert, 90, 2⟩ }).reply =
      some ⟨0xD6, 0x21, .ok, .unresolved (some ⟨5, 6, .alert, 90, 2⟩)⟩ ∧
    (after (.readUnresolved (hd 0)) { part on with unresolved := some ⟨5, 6, .alert, 90, 2⟩ }).unresolved = none := by
  unfold State.Accepts; decide +kernel

/-- A POLL NOW frame for section 5 with tag 0x21: the CRC computed over length, kind, tag and body. -/
def frame (crc : Byte × Byte) : List Byte := [0x5A, 0x01, 0x26, 0x21, 0x05, crc.1, crc.2]
def crcOf (bs : List Byte) : Byte × Byte := (crc16High bs, crc16Low bs)

theorem test_frames :
    (part on).silent = false ∧ (part on).rx = .hunting ∧ (0x01#8).toNat = [(0x05#8 : Byte)].length ∧
    ReqKind.pollNow.code = (0x26#8).toNat ∧
    (after (.frameReceived (frame (crcOf [0x01, 0x26, 0x21, 0x05]))) (part on)).buffer = [.request 0x26 0x21 [0x05]] ∧
    ((0x00#8, 0x00#8) ≠ crcOf [0x01, 0x26, 0x21, 0x05]) ∧
    (after (.frameReceived (frame (0x00, 0x00))) (part on)).buffer = [.notice .frameBad (some 0x21)] ∧
    (ReqKind.all.all (fun k => k.code != (0x05#8).toNat)) = true ∧
    (after (.frameReceived [0x5A, 0x00, 0x05, 0x21, (crcOf [0x00, 0x05, 0x21]).1, (crcOf [0x00, 0x05, 0x21]).2]) (part on)).buffer =
      [.notice .unknownKind (some 0x21)] ∧
    250 < (251#8).toNat ∧ (after (.frameReceived [0x5A, 251]) (part on)).buffer = [.notice .frameBad none] := by decide +kernel

/-- A full buffer takes nothing more. -/
theorem test_full_buffer :
    (after (.frameReceived (frame (crcOf [0x01, 0x26, 0x21, 0x05])))
      { part on with buffer := [.notice .frameBad none, .notice .frameBad none] }).buffer =
    [.notice .frameBad none, .notice .frameBad none] := by decide +kernel

/-- The receiver in a frame with these bytes, the last at 100,000 ms. -/
def inFrame (got : List Byte) : State := { part on with rx := .inFrame got ⟨100000, 100⟩ }

theorem test_bytes :
    { part on with resetHeld := true }.silent = true ∧ (part on).rx = .hunting ∧ (0x59#8 : Byte) ≠ 0x5A#8 ∧
    (after (.byteReceived 0x5A) (part on)).rx = .inFrame [] ⟨100000, 100⟩ ∧
    (inFrame [250]).rx = .inFrame [250] ⟨100000, 100⟩ ∧ ([250] ++ [0x50#8] : List Byte).head? = some 250 ∧
    (250#8).toNat ≤ 250 ∧ ([250] ++ [0x50#8] : List Byte).length < (250#8).toNat + 5 ∧
    (after (.byteReceived 0x50) (inFrame [250])).rx = .inFrame [250, 0x50] ⟨100000, 100⟩ ∧
    ([] ++ [251#8] : List Byte).head? = some 251 ∧ 250 < (251#8).toNat ∧
    (after (.byteReceived 251) (inFrame [])).buffer = [.notice .frameBad none] ∧
    (after .frameByteGap (inFrame [1, 0x26])).buffer = [.notice .frameBad none] ∧
    (after .frameByteGap (inFrame [1, 0x26, 0x21])).buffer = [.notice .frameBad (some 0x21)] ∧
    (after .frameByteGap (inFrame [1])).nowMs = 100100 := by decide +kernel

theorem test_notices_and_replies :
    (let s := { part on with buffer := [.notice .frameBad none, .request 0x50 0x21 []] }
     s.headTaken = false ∧ s.silent = false ∧
     (after .discardNoticeReply s).reply = some ⟨0xFF, 0x00, .frameBad, .errorReply false⟩ ∧ s.reply = none) ∧
    (let s := { part on with buffer := [.notice .frameBad none], headTaken := true,
                             reply := some ⟨0xFF, 0x00, .frameBad, .errorReply false⟩ }
     s.reply ≠ none ∧ after .discardNoticeReply s = s ∧ (after .replySent s).buffer = [] ∧
     (after .replySent s).headTaken = false) ∧
    (after .replySent { part on with reply := some ⟨0x81, 0, .ok, .nothing⟩ }).reply = none := by decide +kernel

theorem test_resets :
    (after .resetInputAsserted (inFrame [1])).ready = false ∧ (after .resetInputAsserted (inFrame [1])).rx = .hunting ∧
    (part on).resetHeld = false ∧ { part on with resetHeld := true }.resetHeld = true ∧
    (after .powerSteady { part on with poweringUp := true }).chan 0 = ⟨.free, true, none⟩ ∧
    (after .powerSteady { part on with poweringUp := true }).ready = true ∧
    (after .powerSteady { part on with resetHeld := true }).ready = false ∧
    ((after .resetInputReleased { part on with resetHeld := true }).sec 5).defn = none ∧
    (after .resetInputReleased { part on with resetHeld := true }).ready = true ∧
    after .resetInputReleased (part on) = part on ∧
    after .resetInputAsserted { part on with resetHeld := true } = { part on with resetHeld := true } ∧
    after (.byteReceived 0x5A) { part on with poweringUp := true } = { part on with poweringUp := true } := by decide +kernel

/-- A request that comes to an empty buffer holds its place until its reply's last byte, and the entry behind it waits (R188,
R189). -/
theorem test_entry_stays_until_its_reply_is_sent :
    (let t := after (.forceIdle (hd 1) 5) (part on)
     t.buffer = [.request 0x14 0x21 [5]] ∧ t.headTaken = true ∧
     (let u := after (.frameReceived (frame (crcOf [0x01, 0x26, 0x21, 0x05]))) t
      u.buffer.length = 2 ∧ u.ready = false ∧ after (.pollNow (hd 1) 5) u = u ∧
      (let v := after .replySent u
       v.buffer = [.request 0x26 0x21 [5]] ∧ v.ready = true ∧
       (after (.pollNow (hd 1) 5) v).reply = some ⟨0xA6, 0x21, .ok, .pollNow .opened⟩))) := by decide +kernel

/-- A MESSAGE row of another length than the frame in the buffer is not that frame (R196). -/
theorem test_message_of_another_length :
    (let s := { part on with buffer := [.request 0x25 0x21 (byte2 1203 ++ byte1 2 ++ [0x41, 0x42])] }
     after (.message (hd 5) 1203 1 [0x41]) s = s ∧ s.takes .message (hd 5) (byte2 1203 ++ byte1 2 ++ [0x41, 0x42]) = true) := by
  decide +kernel

theorem test_reset_request :
    (part on).takes .reset (hd 0) [] = true ∧ (hd 0).len = 0 ∧
    (after .replySent { part on with reply := some ⟨0x82, 0x21, .ok, .resetAt 100⟩ }).seconds = 0 := by decide +kernel

/-- START with section 5 defined and OFF, and with no section defined. -/
theorem test_start :
    bench.Accepts ⟨.start, hd 0, [], 0⟩ ∧ (bench.sec 5).defn ≠ none ∧
    State.reset.Accepts ⟨.start, hd 0, [], 0⟩ ∧ (∀ i, (State.reset.sec i).defn = none) ∧
    (after (.start (hd 0)) bench).reply = some ⟨0x83, 0x21, .ok, .started [5]⟩ ∧
    ((after (.start (hd 0)) bench).sec 5).power = .waking .powerUp ∧
    (after (.start (hd 0)) State.reset).reply = some ⟨0x83, 0x21, .noSuchSection, .nothing⟩ := by
  unfold State.Accepts; decide +kernel

/-- SET GLOBALS as in From setup to service: ageing 4 and ring 200 are clamped. -/
theorem test_set_globals :
    (part on).Accepts ⟨.setGlobals, hd 9, (RawGlobals.mk 4 20 200 8 6 4 0 110 1).body, 9⟩ ∧
    (part on).Accepts ⟨.setGlobals, hd 9, (RawGlobals.mk 4 20 200 8 6 4 0 110 2).body, 9⟩ ∧
    (after (.setGlobals (hd 9) ⟨4, 20, 200, 8, 6, 4, 0, 110, 1⟩) (part on)).reply =
      some ⟨0x84, 0x21, .okClamped, .globals ⟨5, 20, 180, 8, 6, 4, 0, 110, true⟩⟩ ∧
    (after (.setGlobals (hd 9) ⟨4, 20, 200, 8, 6, 4, 0, 110, 2⟩) (part on)).reply = some ⟨0x84, 0x21, .badField, .nothing⟩ := by
  unfold State.Accepts; decide +kernel

/-! ## Witnesses: the laws kept by a step -/

/-- Each law holds of a state whose next step answers a next state. -/
theorem test_laws_before_a_step :
    let s := { calling on .queued with pending := [.getEvent (hd 0)], events := List.replicate 32 ev }
    s.EventLaw ∧ s.BufferLaw ∧ s.dispatchDue = false ∧ s.QueueLaw ∧ s.DirectoryLaw ∧ s.PowerLaw ∧ s.CallLaw ∧
    ∃ t, step s = .next t :=
  ⟨by unfold State.EventLaw; decide +kernel, by unfold State.BufferLaw; decide +kernel, rfl,
   State.queueLaw_of_ok (by decide +kernel), State.directoryLaw_of_ok (by decide +kernel), State.powerLaw_of_ok (by decide +kernel),
   State.callLaw_of_ok (by decide +kernel), ⟨_, rfl⟩⟩

/-! ## Witnesses: posts and sections -/

/-- A further entry of row 13 (832, 76 and 4172 share it) and another post's slot. -/
def other (p : Nat) (a : Addr) (o : Nat) : PostEntry := { entry with post := p, addr := a, offset := o }
def crowded : State :=
  ((((part on).setEntry 13 0 (some (other 4172 1 500))).setSlot 5 1 (some 4172)).setEntry 13 1 (some (other 832 2 1400))).setSlot 5 2
    (some 832)

/-- A DEFINE POST request as the link sees it. -/
def definePost (p : RawPost) : RequestForm := ⟨.definePost, hd 8, p.body, 8⟩
/-- The status and fields a DEFINE POST is answered with. -/
def defined (p : RawPost) (s : State) : Option (Status × ReplyBody) :=
  (after (.definePost (hd 8) p) s).reply.map (fun r => (r.status, r.body))

/-- In SETUP every section is OFF: so it is of a part just reset and of one whose section 5 is defined (R191). -/
theorem test_setup_law : State.reset.SetupLaw ∧ bench.SetupLaw ∧ bench.CallLaw ∧
    ∃ t, step { bench with pending := [.start (hd 0)] } = .next t :=
  ⟨fun _ => by decide +kernel, fun _ => by decide +kernel, State.callLaw_of_ok (by decide +kernel), ⟨_, rfl⟩⟩

theorem test_rows_kept : (part on).RowLaw ∧ ∃ t, step { part on with pending := [.removePost (hd 2) 1203] } = .next t :=
  ⟨test_part_lawful.2.1.1, ⟨_, rfl⟩⟩

theorem test_define_post_fields :
    (∀ p ∈ [RawPost.mk 0 5 4 0 0 0, ⟨60000, 5, 4, 0, 0, 0⟩, ⟨1201, 8, 4, 0, 0, 0⟩, ⟨1201, 5, 0, 0, 0, 0⟩, ⟨1201, 5, 16, 0, 0, 0⟩,
        ⟨1201, 5, 3, 0, 4, 0⟩, ⟨1201, 5, 3, 0, 0, 2⟩, ⟨1201, 5, 3, 9001, 0, 0⟩, ⟨1201, 7, 3, 20001, 0, 0⟩],
      (part on).takes .definePost (hd 8) p.body = true ∧ defined p (part on) = some (.badField, .nothing)) ∧
    (part on).Accepts (definePost ⟨1201, 7, 3, 20000, 3, 1⟩) ∧ ((part on).sec 7).defn = none ∧
    defined ⟨1201, 7, 3, 20000, 3, 1⟩ (part on) = some (.noSuchSection, .nothing) := by unfold State.Accepts; decide +kernel

theorem test_define_post_busy :
    (calling on .abandoned).Accepts (definePost ⟨1203, 5, 6, 9000, 0, 0⟩) ∧ (calling on .abandoned).lookup 1203 = some (0, entry) ∧
    ((calling on .abandoned).callAt 5 4).isSome = true ∧
    defined ⟨1203, 5, 6, 9000, 0, 0⟩ (calling on .abandoned) = some (.postBusy, .nothing) := by unfold State.Accepts; decide +kernel

theorem test_define_post_address_and_row :
    (part on).Accepts (definePost ⟨1205, 5, 4, 8500, 2, 0⟩) ∧ (part on).lookup 1205 = none ∧ (part on).slotAt 5 4 = some 1203 ∧
    defined ⟨1205, 5, 4, 8500, 2, 0⟩ (part on) = some (.addressTaken, .nothing) ∧
    crowded.Accepts (definePost ⟨76, 5, 3, 2600, 1, 0⟩) ∧ crowded.lookup 76 = none ∧ crowded.slotAt 5 3 = none ∧
    (crowded.entry (rowOf 76) 0).isSome = true ∧ (crowded.entry (rowOf 76) 1).isSome = true ∧
    defined ⟨76, 5, 3, 2600, 1, 0⟩ crowded = some (.dirRowFull, .nothing) := by unfold State.Accepts; decide +kernel

/-- A new post in the free column of a row, and a redefinition that keeps row and column. -/
theorem test_define_post_places :
    (let s := (crowded.setEntry 13 0 none).setSlot 5 1 none
     s.Accepts (definePost ⟨76, 5, 1, 9000, 1, 0⟩) ∧ s.lookup 76 = none ∧ s.slotAt 5 1 = none ∧ s.entry (rowOf 76) 0 = none ∧
     (s.sec 5).defn = some defn ∧ defined ⟨76, 5, 1, 9000, 1, 0⟩ s = some (.ok, .placed 13 0)) ∧
    (let s := (crowded.setEntry 13 1 none).setSlot 5 2 none
     s.Accepts (definePost ⟨76, 5, 15, 9000, 1, 0⟩) ∧ s.lookup 76 = none ∧ s.entry (rowOf 76) 1 = none ∧
     (s.entry (rowOf 76) 0).isSome = true ∧ s.slotAt 5 15 = none ∧
     defined ⟨76, 5, 15, 9000, 1, 0⟩ s = some (.ok, .placed 13 1)) ∧
    (part on).lookup 1203 = some (0, entry) ∧ (part on).callAt 5 4 = none ∧ (part on).slotAt 5 6 = none ∧
    (after (.definePost (hd 8) ⟨1203, 5, 6, 8000, 0, 0⟩) (part on)).lookup 1203 = some (0, { entry with addr := 6 }) ∧
    (after (.definePost (hd 8) ⟨1203, 5, 6, 8000, 0, 0⟩) (part on)).slotAt 5 4 = none ∧
    (after (.definePost (hd 8) ⟨1203, 5, 6, 8000, 0, 0⟩) (part on)).slotAt 5 6 = some 1203 := by
  unfold State.Accepts; decide +kernel

theorem test_remove_post :
    (part on).Accepts ⟨.removePost, hd 2, byte2 0, 2⟩ ∧ (part on).Accepts ⟨.removePost, hd 2, byte2 60000, 2⟩ ∧
    (part on).Accepts ⟨.removePost, hd 2, byte2 59999, 2⟩ ∧ (part on).lookup 59999 = none ∧
    (part on).Accepts ⟨.removePost, hd 2, byte2 1203, 2⟩ ∧ (part on).callAt 5 4 = none ∧
    (calling on .queued).Accepts ⟨.removePost, hd 2, byte2 1203, 2⟩ ∧ ((calling on .queued).callAt 5 4).isSome = true ∧
    (after (.removePost (hd 2) 1203) (part on)).lookup 1203 = none ∧ (after (.removePost (hd 2) 1203) (part on)).slotAt 5 4 = none ∧
    ((after (.removePost (hd 2) 1203) (calling on .queued)).reply.map Reply.status) = some .postBusy := by
  unfold State.Accepts; decide +kernel

theorem test_suspend_and_resume :
    (part on).Accepts ⟨.suspendPost, hd 2, byte2 60000, 2⟩ ∧ (part on).Accepts ⟨.suspendPost, hd 2, byte2 1, 2⟩ ∧
    (part on).lookup 1 = none ∧ (part on).Accepts ⟨.suspendPost, hd 2, byte2 1203, 2⟩ ∧
    (part on).Accepts ⟨.resumePost, hd 2, byte2 1203, 2⟩ ∧
    (after (.suspendPost (hd 2) 1203) (part on)).lookup 1203 = some (0, { entry with service := .suspended }) ∧
    (after (.resumePost (hd 2) 1203) (after .replySent (after (.suspendPost (hd 2) 1203) (part on)))).lookup 1203 = some (0, entry) := by
  unfold State.Accepts; decide +kernel

/-- A DEFINE SECTION request for section 5 as the link sees it. -/
def defineSection (d : RawSection) : RequestForm := ⟨.defineSection, hd 15, byte1 5 ++ d.body, 15⟩

theorem test_define_section :
    (part on).Accepts (defineSection ⟨999999, 1, 9000, 5600, 35, 0x4D35, 1, 0⟩) ∧ ((part on).sec 5).power ≠ .off ∧
    ((after (.defineSection (hd 15) 5 ⟨999999, 1, 9000, 5600, 35, 0x4D35, 1, 0⟩) (part on)).reply.map Reply.status) =
      some .sectionActive ∧
    bench.Accepts (defineSection ⟨84200, 1, 7999, 5600, 35, 0x4D35, 1, 0⟩) ∧ bench.mode = .setup ∧
    bench.entry (rowOf 1203) 0 = some entry ∧ 7999 < entry.offset ∧
    ((after (.defineSection (hd 15) 5 ⟨84200, 1, 7999, 5600, 35, 0x4D35, 1, 0⟩) bench).reply.map Reply.status) = some .badField ∧
    bench.Accepts (defineSection ⟨84200, 0, 8000, 50000, 35, 0x4D35, 0, 0⟩) ∧
    (∀ r : Fin 64, ∀ c : Fin 2, (bench.entry r c).all (fun e => decide (e.sec = 5 → e.offset ≤ 8000)) = true) ∧
    ((after (.defineSection (hd 15) 5 ⟨84200, 0, 8000, 50000, 35, 0x4D35, 0, 0⟩) bench).reply.map (fun r => (r.status, r.body))) =
      some (.okClamped, .definition ⟨84200, .plus, 8000, 40000, 35, 0x4D35, false, false⟩) := by
  unfold State.Accepts; decide +kernel

/-- A SET SECTION TIMING request for section 5 as the link sees it. -/
def setTiming (t : RawTiming) : RequestForm := ⟨.setSectionTiming, hd 13, byte1 5 ++ t.body, 13⟩
/-- Post 1203 after three missed polls, unreachable at the default threshold. -/
def missing (x : SectionCtl) : State := (part x).setEntry (rowOf 1203) 0 (some { entry with missed := 3, reachable := false })

theorem test_set_section_timing :
    (part { on with line := .owned }).Accepts (setTiming ⟨99, 2, 60, 59, 60, 3, 3, 2⟩) ∧
    ((after (.setSectionTiming (hd 13) 5 ⟨99, 2, 60, 59, 60, 3, 3, 2⟩) (part { on with line := .owned })).sec 5).pendingTiming =
      some ⟨100, 2, 60, 60, 59, 3, 3, 2⟩ ∧
    (missing on).Accepts (setTiming ⟨400, 2, 60, 60, 30, 5, 3, 2⟩) ∧ ((missing on).sec 5).anchor = some 0 ∧
    (let t := after (.setSectionTiming (hd 13) 5 ⟨400, 2, 60, 60, 30, 5, 3, 2⟩) (missing on)
     (t.sec 5).timing = some ⟨400, 2, 60, 60, 30, 5, 3, 2⟩ ∧ (t.sec 5).due = some 150 ∧
     t.events = [⟨.postReachable 1203 5 4 3, 100, 0⟩] ∧ t.lookup 1203 = some (0, { entry with missed := 3 })) ∧
    (missing (resting .hibernate)).Accepts (setTiming ⟨400, 2, 60, 900, 0, 3, 3, 2⟩) ∧
    (after (.setSectionTiming (hd 13) 5 ⟨400, 2, 60, 900, 0, 3, 3, 2⟩) (missing (resting .hibernate))).events = [] := by
  unfold State.Accepts; decide +kernel

theorem test_section_service_in :
    (part on).Accepts ⟨.sectionService, hd 3, byte1 7 ++ byte1 0 ++ byte1 1, 3⟩ ∧ ((part on).sec 7).defn = none ∧
    (part on).Accepts ⟨.sectionService, hd 3, byte1 5 ++ byte1 0 ++ byte1 0, 3⟩ ∧ ((part on).sec 5).power ≠ .off ∧
    (part (resting .off)).Accepts ⟨.sectionService, hd 3, byte1 5 ++ byte1 0 ++ byte1 0, 3⟩ ∧
    ((part (resting .off)).sec 5).power = .off ∧
    (let t := after (.sectionServiceIn (hd 3) 5 0 0) (part (resting .off))
     (t.sec 5).power = .waking .powerUp ∧ (t.sec 5).due = some 1000 ∧ (t.sec 5).roundDue = true) := by
  unfold State.Accepts; decide +kernel

theorem test_path_law_of_a_call : (calling on .connected).PathLaw ∧ (calling (resting (.waking .powerUp)) .queued).PathLaw :=
  ⟨State.pathLaw_of_ok (by decide +kernel), State.pathLaw_of_ok (by decide +kernel)⟩

/-- Section 5 with a CONNECTED call, a LAMP in flight and a MEASURE that waits for the path. -/
def busy : State := calling { flying lamp4 (.window ⟨99900, 400⟩) with slot := some .host } .connected

theorem test_section_service_out :
    (part (resting .off)).Accepts ⟨.sectionService, hd 3, byte1 5 ++ byte1 1 ++ byte1 0, 3⟩ ∧
    busy.Accepts ⟨.sectionService, hd 3, byte1 5 ++ byte1 1 ++ byte1 0, 3⟩ ∧ busy.callsOn 5 ≠ [] ∧
    ((after (.sectionServiceOut (hd 3) 5 1 0) busy).reply.map (fun r => (r.status, r.body))) =
      some (.callsPresent, .callCount 1) ∧
    busy.Accepts ⟨.sectionService, hd 3, byte1 5 ++ byte1 1 ++ byte1 1, 3⟩ ∧
    (part on).callsOn 5 = [] ∧
    (let t := after (.sectionServiceOut (hd 3) 5 1 1) busy
     (t.sec 5).power = .off ∧ t.calls = [] ∧ t.holder 5 = none ∧ t.chan 0 = ⟨.free, true, none⟩ ∧
     t.events.map Event.body = [.measureAborted 5 .host 0 false, .sectionState 5 .off .empty,
       .callEnded 7 1203 5 4 .inbound .sectionOff 20, .transactionFailed 5 4 1203 .lamp .aborted none none]) := by
  unfold State.Accepts; decide +kernel

theorem test_section_service_out_path_law : busy.PathLaw ∧ busy.PlaceLaw ∧ busy.RingsAtHome 5 :=
  ⟨State.pathLaw_of_ok (by decide +kernel), by unfold State.PlaceLaw; decide +kernel, State.ringsAtHome_of_ok (by decide +kernel)⟩

/-- The call and its RING go together: the report of the aborted RING ends no call, for it has ended already (R80). -/
theorem test_aborted_ring :
    (let s := calling (flying ring4 (.window ⟨99900, 400⟩)) .ringing
     s.ringsOk 5 = true ∧ s.Accepts ⟨.sectionReset, hd 1, byte1 5, 1⟩ ∧
     (let t := after (.sectionReset (hd 1) 5) s
      t.events.map Event.body = [.callEnded 7 1203 5 4 .inbound .sectionReset 0, .transactionFailed 5 4 1203 .ring .aborted (some 7) none] ∧
      (t.sec 5).queue = [⟨.ringStop, 4, .call 7, 0, 0, 0, false⟩] ∧
      t.history = [⟨7, 1203, 5, 4, .inbound, 60, 100, .sectionReset, 0⟩])) := by
  unfold State.Accepts; decide +kernel

/-- A reset in BREAK or TESTING starts the line timers with the timing that it applies (R64, R81), and keeps a running one (R64). -/
theorem test_reset_timers :
    (let slow : Timing := { Timing.default with brk := 7, stuck := 8, unreachable := 1 }
     let reset (x : SectionCtl) : SectionCtl := (after (.sectionReset (hd 1) 5) (part { x with pendingTiming := some slow })).sec 5
     (reset { on with line := .brk, space := true, episode := true }).breakTimer = some ⟨100000, 7000⟩ ∧
     (reset { on with line := .testing, carrier := true }).stuckTimer = some ⟨100000, 8000⟩ ∧
     (reset { on with line := .brk }).breakTimer = none ∧ (reset { on with line := .testing }).stuckTimer = none ∧
     (reset { on with line := .unknown, space := true, breakTimer := some ⟨99000, 2000⟩ }).breakTimer = some ⟨99000, 2000⟩) := by
  decide +kernel

theorem test_section_reset :
    (part (resting .off)).Accepts ⟨.sectionReset, hd 1, byte1 5, 1⟩ ∧ busy.Accepts ⟨.sectionReset, hd 1, byte1 5, 1⟩ ∧
    (let t := after (.sectionReset (hd 1) 5) busy
     (t.sec 5).line = .unknown ∧ (t.sec 5).queue = [⟨.clear, 4, .call 7, 0, 0, 0, false⟩] ∧ t.calls = [] ∧ t.holder 5 = none) ∧
    (calling (resting (.waking .powerUp)) .queued).Accepts ⟨.sectionReset, hd 1, byte1 5, 1⟩ ∧
    (let t := after (.sectionReset (hd 1) 5) (calling (resting (.waking .powerUp)) .queued)
     (t.sec 5).power = .waking .powerUp ∧ (t.sec 5).reasons.reset = true ∧ t.calls = []) := by
  unfold State.Accepts; decide +kernel

theorem test_force_idle :
    (part (resting .off)).Accepts ⟨.forceIdle, hd 1, byte1 5, 1⟩ ∧ (part on).Accepts ⟨.forceIdle, hd 1, byte1 5, 1⟩ ∧
    (part { on with line := .unknown }).Accepts ⟨.forceIdle, hd 1, byte1 5, 1⟩ ∧
    { on with line := .unknown, carrier := true }.pairFree = false ∧
    ((after (.forceIdle (hd 1) 5) (part { on with line := .unknown })).sec 5).line = .idle ∧
    ((after (.forceIdle (hd 1) 5) (part { on with line := .unknown, carrier := true })).sec 5).line = .idle := by
  unfold State.Accepts; decide +kernel

/-- A request that names section 5 only, accepted. -/
def accepts5 (k : ReqKind) (s : State) : Prop := s.Accepts ⟨k, hd 1, byte1 5, 1⟩

theorem test_poll_now :
    accepts5 .pollNow (part (resting .off)) ∧ accepts5 .pollNow (part { on with round := some ⟨4, none, 0, 0, 0⟩ }) ∧
    accepts5 .pollNow (part on) ∧ (part on).eligibleAddr 5 4 = true ∧
    (∀ b : Addr, 1 ≤ b.val → b < 4 → (part on).eligibleAddr 5 b = false) ∧ on.pairFree = true ∧
    (let t := after (.pollNow (hd 1) 5) (part on)
     (t.sec 5).inFlight = some poll4 ∧ (t.sec 5).round = some ⟨4, none, 0, 0, 0⟩ ∧ (t.sec 5).exch = .lead (burst poll4) ⟨100000, 20⟩) ∧
    (∀ a : Addr, 1 ≤ a.val → (after (.suspendPost (hd 2) 1203) (part on)).eligibleAddr 5 a = false) ∧
    (let s := after .replySent (after (.suspendPost (hd 2) 1203) (part on))
     s.takes .pollNow (hd 1) (byte1 5) = true ∧ (after (.pollNow (hd 1) 5) s).events.map Event.body = [.roundDone 5 false 0 0 0]) ∧
    accepts5 .pollNow (part { on with line := .owned }) ∧ accepts5 .pollNow (part (resting (.settling .settle))) ∧
    ((after (.pollNow (hd 1) 5) (part (resting (.settling .settle)))).sec 5).power = .active ∧
    accepts5 .pollNow (part (resting .hibernate)) ∧ accepts5 .pollNow (part (resting (.waking .announce))) ∧
    ((after (.pollNow (hd 1) 5) (part (resting .hibernate))).sec 5).reasons = ⟨false, true, false, false, false⟩ := by
  unfold accepts5 State.Accepts; decide +kernel

theorem test_measure :
    accepts5 .measure (part (resting .off)) ∧ accepts5 .measure (part { on with slot := some .auto }) ∧
    accepts5 .measure (measuring []) ∧ ((measuring []).ltuOf 5).running ≠ none ∧
    ((after (.measure (hd 1) 5) (measuring [])).reply.map Reply.status) = some .measurePending ∧
    accepts5 .measure (calling on .parked) ∧ (calling on .parked).holder 5 ≠ none ∧
    ((after (.measure (hd 1) 5) (calling on .parked)).reply.map Reply.body) = some (.measure .waitsForPath) ∧
    accepts5 .measure (part on) ∧ (part on).holder 5 = none ∧ ((part on).ltuOf 5).running = none ∧
    (after (.measure (hd 1) 5) (part on)).testSource 5 = true ∧
    accepts5 .measure (part { on with line := .brk }) ∧ (after (.measure (hd 1) 5) (part { on with line := .brk })).testSource 5 = true ∧
    accepts5 .measure (part owned) ∧ ((after (.measure (hd 1) 5) (part owned)).sec 5).slot = some .host ∧
    ((after (.measure (hd 1) 5) (part owned)).reply.map Reply.body) = some (.measure .startsAtOnce) ∧
    accepts5 .measure (part { on with carrier := true }) ∧
    ((after (.measure (hd 1) 5) (part { on with carrier := true })).sec 5).slot = some .host ∧
    accepts5 .measure (part (resting (.settling .settle))) ∧
    ((after (.measure (hd 1) 5) (part (resting (.settling .settle)))).sec 5).line = .testing ∧
    (let s := part { resting (.settling .shutdown) with carrier := true }
     ((after (.measure (hd 1) 5) s).sec 5).line = .idle ∧ ((after (.measure (hd 1) 5) s).sec 5).slot = some .host) ∧
    (let s := (part (resting (.settling .settle))).setHolder 5 (some 7)
     accepts5 .measure s ∧ ((after (.measure (hd 1) 5) s).reply.map Reply.body) = some (.measure .waitsForPath)) ∧
    accepts5 .measure (part (resting .hibernate)) ∧ accepts5 .measure (part (resting (.waking .powerUp))) ∧
    ((after (.measure (hd 1) 5) (part (resting .hibernate))).reply.map Reply.body) = some (.measure .waitsForActive) := by
  unfold accepts5 State.Accepts; decide +kernel

/-- A LAMP request for post 1203 with pattern STEADY, accepted. -/
def acceptsLamp (s : State) : Prop := s.Accepts ⟨.lamp, hd 3, byte2 1203 ++ byte1 1, 3⟩

theorem test_lamp :
    (part on).lookup 1203 = some (0, entry) ∧ acceptsLamp (part (resting .off)) ∧
    acceptsLamp (part { on with line := .owned, queue := List.replicate 6 text4 }) ∧
    6 ≤ { on with line := .owned, queue := List.replicate 6 text4 }.hostCount ∧
    ((after (.lamp (hd 3) 1203 1) (part { on with line := .owned, queue := List.replicate 6 text4 })).reply.map Reply.status) =
      some .queueFull ∧
    acceptsLamp (part { on with line := .owned, queue := List.replicate 5 text4 ++ [lamp4] }) ∧
    ((after (.lamp (hd 3) 1203 1) (part { on with line := .owned, queue := List.replicate 5 text4 ++ [lamp4] })).reply.map
      Reply.body) = some (.lampTaken 5 4 true) ∧
    acceptsLamp (part (resting (.waking .powerUp))) ∧ acceptsLamp (part (resting .hibernate)) ∧
    acceptsLamp (part (resting (.settling .shutdown))) ∧ acceptsLamp (part on) ∧
    ((after (.lamp (hd 3) 1203 1) (part on)).sec 5).inFlight = some lamp4 := by
  unfold acceptsLamp State.Accepts; decide +kernel

theorem test_message :
    (part on).Accepts ⟨.message, hd 5, byte2 1203 ++ byte1 2 ++ [0x41, 0x07], 5⟩ ∧
    (part { on with queue := List.replicate 5 text4, line := .owned }).Accepts ⟨.message, hd 3, byte2 1203 ++ byte1 0 ++ [], 3⟩ ∧
    ((after (.message (hd 5) 1203 2 [0x41, 0x07]) (part on)).reply.map (fun r => (r.status, r.body))) =
      some (.okClamped, .textTaken 5 4 [0x41, 0x3F] 1) ∧
    ((after (.message (hd 3) 1203 0 []) (part { on with queue := List.replicate 5 text4, line := .owned })).sec 5).hostCount = 6 := by
  unfold State.Accepts; decide +kernel

/-! ## Witnesses: channels and calls -/

theorem test_set_channel :
    (let f : RequestForm := ⟨.setChannel, hd 2, byte1 0 ++ byte1 1, 2⟩
     (part on).Accepts f ∧ (part on).chan 0 = ⟨.free, true, none⟩ ∧ (calling on .offered).Accepts f ∧
     ((calling on .offered).chan 0).state.busy = true ∧ ((calling on .offered).chan 0).call = some 7 ∧
     ((part on).setChan 0 ⟨.out, true, none⟩).Accepts f) ∧
    ((after (.setChannelOut (hd 2) 0 1) (part on)).reply.map Reply.body) = some (.channelMove .free .out) ∧
    ((after (.setChannelOut (hd 2) 0 1) (calling on .offered)).reply.map (fun r => (r.status, r.body))) =
      some (.channelBusy, .channelBusy 7 .offering .offering) ∧
    (let f : RequestForm := ⟨.setChannel, hd 2, byte1 0 ++ byte1 0, 2⟩
     (part on).Accepts f ∧ ((part on).setChan 0 ⟨.out, false, none⟩).Accepts f ∧
     ((calling on .queued).setChan 0 ⟨.out, true, none⟩).Accepts f) ∧
    ((after (.setChannelIn (hd 2) 0 0) ((part on).setChan 0 ⟨.out, false, none⟩)).chan 0) = ⟨.down, false, none⟩ ∧
    ((after (.setChannelIn (hd 2) 0 0) ((calling on .queued).setChan 0 ⟨.out, true, none⟩)).events.map Event.body) =
      [.channelState 0 .free true .setIn, .callOffered 7 0 12 1203 5 ⟨76200, .a, .directory, false⟩] := by
  unfold State.Accepts; decide +kernel

theorem test_answer_pick_retrieve :
    (calling on .offered).Accepts ⟨.answer, hd 2, byte2 7, 2⟩ ∧ (calling on .offered).findCall 7 = some (call .offered) ∧
    (call .offered).channel = some 0 ∧ (calling on .queued).Accepts ⟨.answer, hd 2, byte2 7, 2⟩ ∧
    ((after (.answer (hd 2) 7) (calling on .queued)).reply.map (fun r => (r.status, r.body))) =
      some (.wrongCallState, .callFound .queued) ∧
    (calling on .queued).Accepts ⟨.pick, hd 3, byte2 7 ++ byte1 0xFF, 3⟩ ∧ (calling on .queued).holder 5 = none ∧
    (calling on .queued).ChannelFor 0xFF 0 ∧ (calling owned .queued).Accepts ⟨.pick, hd 3, byte2 7 ++ byte1 0, 3⟩ ∧
    (calling owned .queued).ChannelFor 0 0 ∧
    (calling on .parked).Accepts ⟨.retrieve, hd 3, byte2 7 ++ byte1 0xFF, 3⟩ ∧ (calling on .parked).ChannelFor 0xFF 0 ∧
    ((calling on .parked).findCall 7).map Call.state = some .parked ∧
    (let t := after (.answer (hd 2) 7) (calling on .offered)
     (t.findCall 7).map Call.state = some .connected ∧ t.join 5 = .channel 0 ∧
     (t.sec 5).inFlight = some ⟨.connect, 4, .call 7, 0, 0, 0, false⟩) ∧
    (let t := after (.pick (hd 3) 7 0) (calling owned .queued)
     t.holder 5 = some 7 ∧ (t.sec 5).queue = [lamp4, ⟨.connect, 4, .call 7, 0, 0, 0, false⟩]) ∧
    (after (.retrieve (hd 3) 7 0xFF) (calling on .parked)).chan 0 = ⟨.connected, true, some 7⟩ := by
  unfold State.Accepts State.ChannelFor; decide +kernel

/-- The refusals of ANSWER, PICK and RETRIEVE, in the order of R165 and R167. -/
theorem test_call_request_refusals :
    (let said (c : Instr) (s : State) : Option (Status × ReplyBody) := (after c s).reply.map (fun r => (r.status, r.body))
     let full := (calling on .parked).setChan 0 ⟨.down, false, none⟩
     (calling on .queued).Accepts ⟨.pick, hd 3, byte2 0 ++ byte1 0xFF, 3⟩ ∧
     said (.pick (hd 3) 0 0xFF) (calling on .queued) = some (.badField, .nothing) ∧
     (calling on .queued).Accepts ⟨.pick, hd 3, byte2 8 ++ byte1 0xFF, 3⟩ ∧
     said (.pick (hd 3) 8 3) (calling on .queued) = some (.noSuchCall, .nothing) ∧
     said (.pick (hd 3) 8 4) (calling on .queued) = some (.badField, .nothing) ∧
     said (.retrieve (hd 3) 7 4) (calling on .parked) = some (.badField, .callFound .parked) ∧
     said (.pick (hd 3) 7 0) (calling (resting .hibernate) .queued) = some (.pathBusy, .callFound .queued) ∧
     said (.pick (hd 3) 7 0) ((calling on .queued).setHolder 5 (some 9)) = some (.pathBusy, .callFound .queued) ∧
     said (.pick (hd 3) 7 3) (calling on .queued) = some (.channelBusy, .callFound .queued) ∧
     full.Accepts ⟨.retrieve, hd 3, byte2 7 ++ byte1 0xFF, 3⟩ ∧ (∀ d, (full.chan d).state ≠ .free) ∧
     said (.retrieve (hd 3) 7 0xFF) full = some (.noChannel, .callFound .parked) ∧
     said (.retrieve (hd 3) 7 0) full = some (.channelBusy, .callFound .parked)) := by
  unfold State.Accepts; decide +kernel

theorem test_park :
    (calling owned .connected).Accepts ⟨.park, hd 2, byte2 7, 2⟩ ∧ (calling owned .connected).holder 5 = some 7 ∧
    (calling owned .connected).findCall 7 = some (call .connected) ∧ (call .connected).channel = some 0 ∧
    (quietly (calling on .queued)).Accepts ⟨.park, hd 2, byte2 7, 2⟩ ∧
    (let t := after (.park (hd 2) 7) (quietly (calling owned .connected))
     t.join 5 = .tone ∧ (t.findCall 7).map Call.connectedTotal = some 20 ∧ t.chan 0 = ⟨.free, true, none⟩ ∧
     (t.sec 5).queue = [lamp4, ⟨.parked, 4, .call 7, 0, 0, 0, false⟩]) := by unfold State.Accepts; decide +kernel

theorem test_clear_and_dismiss :
    (calling owned .ringing).Accepts ⟨.clear, hd 2, byte2 7, 2⟩ ∧ (calling owned .ringing).findCall 7 = some (call .ringing) ∧
    (calling on .abandoned).Accepts ⟨.clear, hd 2, byte2 7, 2⟩ ∧ (calling on .abandoned).Accepts ⟨.dismiss, hd 2, byte2 7, 2⟩ ∧
    (calling on .queued).Accepts ⟨.dismiss, hd 2, byte2 7, 2⟩ ∧
    (let t := after (.clear (hd 2) 7) (quietly (calling owned .ringing))
     t.calls = [] ∧ t.holder 5 = none ∧ (t.sec 5).queue = [lamp4, ⟨.ringStop, 4, .call 7, 0, 0, 0, false⟩] ∧
     t.history = [⟨7, 1203, 5, 4, .inbound, 60, 100, .clearedByControl, 0⟩]) ∧
    ((after (.dismiss (hd 2) 7) (calling on .abandoned)).reply.map Reply.body) = some (.callOver 0) ∧
    ((after (.clear (hd 2) 7) (calling on .abandoned)).reply.map Reply.body) = some (.callFound .abandoned) := by
  unfold State.Accepts; decide +kernel

/-- A CALL POST of post 1203 that names no channel, accepted. -/
def acceptsCall (s : State) : Prop := s.Accepts ⟨.callPost, hd 3, byte2 1203 ++ byte1 0xFF, 3⟩
/-- Thirty-two QUEUED calls on section 4. -/
def fullTable : State :=
  { (part on).setSec 4 on with calls := (List.range 32).map (fun n => { call .queued with ref := n + 100, sec := 4 }) }

theorem test_call_post :
    acceptsCall (part (resting .off)) ∧ acceptsCall (calling on .queued) ∧ (calling on .queued).callAt 5 4 = some (call .queued) ∧
    ((after (.callPost (hd 3) 1203 0xFF) (calling on .queued)).reply.map (fun r => (r.status, r.body))) =
      some (.postHasCall, .callRef 7) ∧
    acceptsCall ((part on).setHolder 5 (some 9)) ∧ (part on).callAt 5 4 = none ∧
    ((after (.callPost (hd 3) 1203 0xFF) ((part on).setHolder 5 (some 9))).reply.map Reply.status) = some .pathBusy ∧
    acceptsCall ((part on).setChan 0 ⟨.down, false, none⟩) ∧
    (∀ d, (((part on).setChan 0 ⟨.down, false, none⟩).chan d).state ≠ .free) ∧
    (part on).Accepts ⟨.callPost, hd 3, byte2 1203 ++ byte1 3, 3⟩ ∧ ((part on).chan 3).state ≠ .free ∧
    ((after (.callPost (hd 3) 1203 3) (part on)).reply.map Reply.status) = some .channelBusy ∧
    acceptsCall fullTable ∧ 32 ≤ fullTable.calls.length ∧ (∀ d ∈ fullTable.calls, d.state ≠ .abandoned) ∧
    fullTable.holder 5 = none ∧ fullTable.ChannelFor 0xFF 0 ∧ fullTable.callAt 5 4 = none ∧
    ((after (.callPost (hd 3) 1203 0xFF) fullTable).reply.map Reply.status) = some .tableFull ∧
    acceptsCall (part (resting .hibernate)) ∧ (part (resting .hibernate)).ChannelFor 0xFF 0 ∧
    (let t := after (.callPost (hd 3) 1203 0xFF) (part (resting .hibernate))
     (t.calls.map Call.ref) = [1] ∧ t.nextRef = 2 ∧ (t.sec 5).queue = [⟨.ring, 4, .call 1, 0, 0, 0, false⟩] ∧
     (t.sec 5).reasons = ⟨false, false, true, false, false⟩) ∧
    acceptsCall (calling on .abandoned) ∧ (calling on .abandoned).holder 5 = none ∧
    ((after (.callPost (hd 3) 1203 0xFF) (calling on .abandoned)).reply.map Reply.body) = some (.ringing 7 false) := by
  unfold acceptsCall State.Accepts State.ChannelFor; decide +kernel

/-- RING given to the post of the new call: on a busy line, on a waking section, on a settling one and on a free IDLE line; and of
the turned ABANDONED call. -/
theorem test_call_post_gives_ring :
    (let ring : Txn := ⟨.ring, 4, .call 1, 0, 0, 0, false⟩
     acceptsCall (part owned) ∧ ((after (.callPost (hd 3) 1203 0xFF) (part owned)).sec 5) = { owned with queue := [lamp4, ring] } ∧
     acceptsCall (part (resting (.waking .announce))) ∧
     ((after (.callPost (hd 3) 1203 0xFF) (part (resting (.waking .announce)))).sec 5) =
       { resting (.waking .announce) with reasons := ⟨false, false, true, false, false⟩, queue := [ring] } ∧
     acceptsCall (part (resting (.settling .settle))) ∧
     ((after (.callPost (hd 3) 1203 0xFF) (part (resting (.settling .settle)))).sec 5).inFlight = some ring ∧
     acceptsCall (part on) ∧
     ((after (.callPost (hd 3) 1203 0xFF) (part on)).sec 5).exch = .lead (burst ring) ⟨100000, 20⟩) ∧
    ((after (.callPost (hd 3) 1203 0xFF) (calling on .abandoned)).sec 5).inFlight = some ring4 := by
  unfold acceptsCall State.Accepts; decide +kernel

/-- The oldest ABANDONED call of a full table, on section 2. -/
def oldest : Call := { call .abandoned with ref := 100, sec := 2 }

/-- A full table whose ABANDONED call gives its place to a new call (R139): the other thirty-one are QUEUED on sections 2 to 4. -/
def evictable (x : SectionCtl) : State :=
  { (((part x).setSec 2 on).setSec 3 on).setSec 4 on with
    calls := oldest :: (List.range 31).map (fun n =>
      { call .queued with ref := n + 101, sec := if n < 15 then 3 else if n < 30 then 4 else 2, addr := Fin.ofNat 16 (n % 15 + 1) }) }

theorem test_evictable_lawful : (evictable on).CallLaw ∧ (evictable { on with line := .foreign, exch := .post }).CallLaw :=
  ⟨State.callLaw_of_ok (by decide +kernel), State.callLaw_of_ok (by decide +kernel)⟩

theorem test_eviction :
    (evictable on).OldestAbandoned oldest ∧ (evictable on).callAt 5 4 = none ∧ 32 ≤ (evictable on).calls.length ∧
    acceptsCall (evictable on) ∧ (evictable on).ChannelFor 0xFF 0 ∧ (evictable on).holder 5 = none ∧
    (let t := after (.callPost (hd 3) 1203 0xFF) (evictable on)
     t.events.map Event.body = [.callEnded 100 1203 2 4 .inbound .dismissedAuto 0,
       .callNew 1 .outbound .host 1203 5 4 .tunnel ⟨76200, .a, .directory, false⟩] ∧
     t.calls.length = 32 ∧ (t.sec 2).inFlight = some ⟨.clear, 4, .call 100, 0, 0, 0, false⟩) := by
  unfold State.OldestAbandoned acceptsCall State.Accepts State.ChannelFor; decide +kernel

/-- The wrap of the reference counter: 65,535 and then 1, past the references in use (R149). -/
theorem test_references_wrap :
    State.newRef { part on with nextRef := 65535 } = 65535 ∧ refAfter 65535 = 1 ∧
    State.newRef { calling on .queued with nextRef := 7 } = 8 := by decide +kernel

theorem test_call_timers :
    (calling on .queued).findCall 7 = some (call .queued) ∧ (call .queued).state ≠ .offered ∧
    (calling on .offered).findCall 7 = some (call .offered) ∧ (call .offered).channel = some 0 ∧
    (call .offered).offerTimer = some ⟨90000, 20000⟩ ∧ (calling on .offered).holder 5 = some 7 ∧
    (let t := after (.offerTimeout 7) (quietly (calling owned .offered))
     t.nowMs = 110000 ∧ t.join 5 = .tone ∧ (t.findCall 7).map Call.boost = some 2 ∧
     t.events.map Event.body = [.callRequeued 7 .offerTimeout 2 (some 0)]) ∧
    (let t := after (.offerTimeout 7) (calling owned .offered)
     (t.findCall 7).map Call.state = some .offered ∧ t.events.length = 2) ∧
    (call .ringing).ringTimer = some ⟨70000, 60000⟩ ∧ (calling on .ringing).findCall 7 = some (call .ringing) ∧
    (let t := after (.ringTimeout 7) (calling owned .ringing)
     t.nowMs = 130000 ∧ t.calls = [] ∧ (t.history.map HistRec.cause) = [.noAnswer]) := by decide +kernel

theorem test_ready_levels :
    (part on).chan 0 = ⟨.free, true, none⟩ ∧ (part on).chan 1 = ⟨.down, false, none⟩ ∧
    (calling on .ringing).chan 0 = ⟨.ringing, true, some 7⟩ ∧ (calling on .ringing).findCall 7 = some (call .ringing) ∧
    (calling on .connected).chan 0 = ⟨.connected, true, some 7⟩ ∧ (calling on .connected).dispatchDue = false ∧
    (after (.readyLost 0) (part on)).events.map Event.body = [.channelState 0 .down false .readyLost] ∧
    (after (.readyLost 0) ((part on).setChan 0 ⟨.out, true, none⟩)).chan 0 = ⟨.out, false, none⟩ ∧
    (after (.readyLost 0) (calling on .ringing)).events.map Event.body =
      [.callEnded 7 1203 5 4 .inbound .channelLost 0, .channelState 0 .down false .readyLost] ∧
    (after (.readyLost 0) (calling on .connected)).events.map Event.body =
      [.callRequeued 7 .channelLost 2 (some 0), .channelState 0 .down false .readyLost] ∧
    (let t := after (.readyLost 0) (quietly (calling owned .connected))
     (t.findCall 7).map (fun c => (c.state, c.boost, c.channel, c.connectedTotal)) = some (.queued, 2, none, 20) ∧
     t.join 5 = .tone ∧ t.holder 5 = some 7 ∧ (t.sec 5).queue = [lamp4, ⟨.parked, 4, .call 7, 0, 0, 0, false⟩]) ∧
    ((after (.readyLost 0) (calling owned .ringing)).sec 5).queue = [lamp4, ⟨.ringStop, 4, .call 7, 0, 0, 0, false⟩] ∧
    (after (.readyRegained 1) (part on)).chan 1 = ⟨.free, true, none⟩ ∧
    (after (.readyRegained 1) ((part on).setChan 1 ⟨.out, false, none⟩)).chan 1 = ⟨.out, true, none⟩ := by decide +kernel

theorem test_ageing_step :
    (calling on .queued).findCall 7 = some (call .queued) ∧ (calling on .queued).dispatchDue = false ∧
    (calling on .queued).seconds = (call .queued).arrival + 4 * (calling on .queued).globals.ageing ∧
    (calling on .queued).eligible (call .queued) = true ∧ ((calling on .queued).chan 0).state = .free ∧
    (after (.ageingStep 7) (calling on .queued)).events.map Event.body =
      [.callOffered 7 0 12 1203 5 ⟨76200, .a, .directory, false⟩] ∧
    (quietly (calling on .queued)).globals.autoOffer = false ∧
    (∀ d, (((calling on .queued).setChan 0 ⟨.down, false, none⟩).chan d).state ≠ .free) ∧
    (calling (resting (.waking .announce)) .queued).eligible (call .queued) = false ∧
    (¬({ calling on .queued with seconds := 131 }.seconds = (call .queued).arrival + 7 * 10)) ∧
    after (.ageingStep 7) { calling on .queued with seconds := 101 } = { calling on .queued with seconds := 101 } := by decide +kernel

/-! ## Witnesses: time and power -/

theorem test_seconds :
    (part on).seconds < 4294967295 ∧ { part on with seconds := 4294967295 }.seconds = 4294967295 ∧
    (after .secondsTick { part on with seconds := 4294967294 }).seconds = 4294967295 ∧
    (after .secondsTick { part on with seconds := 4294967295 }).seconds = 4294967295 ∧ (part on).pending = [] := by decide +kernel

/-- The part at the due time of its next poll. -/
def due (x : SectionCtl) : State := { part x with seconds := 900 }

theorem test_poll_countdown :
    ((due on).sec 5).due = some 900 ∧ after (.pollCountdownExpiry 5) { due on with seconds := 899 } = { due on with seconds := 899 } ∧
    ((after (.pollCountdownExpiry 5) (due { on with round := some ⟨4, none, 0, 0, 0⟩ })).sec 5).overrun = true ∧
    (due on).eligibleAddr 5 4 = true ∧
    ((after (.pollCountdownExpiry 5) (due { on with line := .owned })).sec 5).round = some ⟨1, none, 0, 0, 0⟩ ∧
    ((after (.pollCountdownExpiry 5) (due (resting (.settling .shutdown)))).sec 5).power = .active ∧
    ((after (.pollCountdownExpiry 5) (due (resting .hibernate))).sec 5).reasons = ⟨false, false, false, true, false⟩ ∧
    ((after (.pollCountdownExpiry 5) (due { resting (.waking .powerUp) with roundDue := true })).sec 5).overrun = true ∧
    ((after (.pollCountdownExpiry 5) (due on)).sec 5).due = some 1800 := by decide +kernel

theorem test_settling :
    (let s := part on
     (s.sec 5).defn = some defn ∧ defn.hibernate = true ∧ s.silent = false ∧ on.pairFree = true ∧ s.holder 5 = none ∧
     s.calls = [] ∧ on.idleSince = some 0 ∧ 0 + 1000 * on.timingD.idleHold ≤ s.nowMs) ∧
    ((after (.enterSettling 5) { part on with nowMs := 60000 }).sec 5).exch =
      .shutdown ⟨0x4D35#16, .absent, [⟨0, .shutdown⟩]⟩ ∧
    after (.enterSettling 5) { part on with nowMs := 59999 } = { part on with nowMs := 59999 } ∧
    after (.enterSettling 5) (calling on .queued) = calling on .queued ∧
    after (.enterSettling 5) (part { on with defn := some { defn with hibernate := false } }) =
      part { on with defn := some { defn with hibernate := false } } ∧
    ((after (.shutdownSent 5) (part { resting (.settling .shutdown) with exch := .shutdown ⟨0x4D35#16, .absent, [⟨0, .shutdown⟩]⟩ })).sec
      5).settleTimer = some ⟨100000, 1000⟩ := by decide +kernel

theorem test_settle_ends :
    (let s := part { resting (.settling .settle) with settleTimer := some ⟨99500, 1000⟩ }
     ((after (.settleTimerExpiry 5 false) s).sec 5).power = .hibernate ∧
     ((after (.settleTimerExpiry 5 true) s).sec 5).power = .waking .powerUp ∧
     (after (.settleTimerExpiry 5 true) s).nowMs = 100500 ∧
     (after (.settleTimerExpiry 5 true) s).events.map Event.body = [.sectionState 5 .hibernate .empty]) ∧
    ((after (.offHookDetected 5) (part (resting .hibernate))).sec 5).reasons = ⟨true, false, false, false, false⟩ ∧
    after (.offHookDetected 5) (part on) = part on := by decide +kernel

theorem test_wake_sequence :
    (let x := { resting (.waking .powerUp) with wakeTimer := some ⟨99800, 300⟩ }
     ((after (.powerUpEnd 5) (part x)).sec 5).power = .waking .announce ∧
     ((after (.powerUpEnd 5) (part x)).sec 5).wakeTimer = some ⟨100100, 200⟩) ∧
    (let x := { resting (.waking .announce) with wakeTimer := some ⟨99900, 200⟩, roundDue := true, queue := [lamp4],
                                                 reasons := ⟨false, true, true, false, false⟩,
                                                 exch := .announce ⟨0x4D35#16, .addressed 0, []⟩ }
     x.pairFree = true ∧
     (let t := after (.announceEnd 5) (part x)
      (t.sec 5).power = .active ∧ (t.sec 5).inFlight = some lamp4 ∧ (t.sec 5).round = some ⟨1, none, 0, 0, 0⟩ ∧
      t.events.map Event.body = [.sectionState 5 .active ⟨false, true, true, false, false⟩])) ∧
    ((after (.announceEnd 5) (part { resting (.waking .announce) with
        wakeTimer := some ⟨99900, 200⟩, pendingTiming := some { Timing.default with retries := 0 } })).sec 5).timing =
      some { Timing.default with retries := 0 } := by decide +kernel

/-- FILLER on the pair: records addressed to 0 and nothing else in the announce burst, any address before a POLL, none in SHUTDOWN. -/
theorem test_filler_on_the_pair :
    (let all : Burst := ⟨0x4D35#16, .addressed 0, []⟩
     let bye : Burst := ⟨0x4D35#16, .absent, [⟨0, .shutdown⟩]⟩
     all.admits [rec 0 0x0C [], rec 0 0x0C (List.replicate 8 0xFF#8)] = true ∧ all.admits [] = false ∧
     all.admits [rec 3 0x0C []] = false ∧ all.admits [rec 0 0x0C (List.replicate 9 0#8)] = false ∧
     all.admits [rec 0 0x0C [], rec 4 0x01 []] = false ∧
     (burst poll4).admits [rec 15 0x0C [1], rec 4 0x01 []] = true ∧ (burst poll4).admits [rec 4 0x01 []] = false ∧
     bye.admits [rec 0 0x0B []] = true ∧ bye.admits [rec 0 0x0C [], rec 0 0x0B []] = false) := by decide +kernel

/-! ## Witnesses: the pair -/

theorem test_burst_and_window :
    (let lead := part (flying poll4 (.lead (burst poll4) ⟨99990, 20⟩))
     ((after (.leadWindowEnd 5) lead).sec 5).exch = .sending (burst poll4) ⟨99990, 20⟩ ∧
     (after (.leadWindowEnd 5) lead).nowMs = 100010 ∧ after (.transactionBurstSent 5) lead = lead) ∧
    ((after (.transactionBurstSent 5) (part (flying poll4 (.lead (burst poll4) ⟨99980, 20⟩)))).sec 5).exch =
      .window ⟨100000, 400⟩ ∧
    after (.leadWindowEnd 5) (part on) = part on ∧
    ((after (.transactionBurstSent 5) (part (flying poll4 (.sending (burst poll4) ⟨99960, 20⟩)))).sec 5).exch =
      .window ⟨100000, 400⟩ ∧
    (let c := part (flying { poll4 with attempts := 2 } (.collided (burst poll4)))
     ((after (.transactionBurstSent 5) c).sec 5).exch = .lead (burst poll4) ⟨100000, 20⟩) ∧
    (let c := part (flying { lamp4 with attempts := 3 } (.collided (burst lamp4)))
     ((after (.transactionBurstSent 5) c).sec 5).line = .idle ∧ ((after (.transactionBurstSent 5) c).sec 5).inFlight = none ∧
     (after (.transactionBurstSent 5) c).events.map Event.body = [.transactionFailed 5 4 1203 .lamp .noReply none none]) ∧
    ((after (.transactionBurstSent 5) (part { flying poll4 (.collided (burst poll4)) with carrier := true })).sec 5).exch =
      .retryWait ∧ { flying poll4 (.collided (burst poll4)) with carrier := true }.pairFree = false := by decide +kernel

theorem test_reply_window :
    (let s := part { flying { poll4 with attempts := 1 } (.window ⟨99700, 400⟩) with round := some ⟨4, none, 0, 0, 0⟩ }
     1 < (s.sec 5).timingD.retries ∧ (s.sec 5).pairFree = true ∧
     ((after (.replyWindowExpiry 5) s).sec 5).inFlight = some { poll4 with attempts := 2 }) ∧
    (let s := (missing { flying { poll4 with attempts := 2 } (.window ⟨99700, 400⟩) with
       round := some ⟨4, none, 0, 0, 0⟩ }).setEntry (rowOf 1203) 0 (some { entry with missed := 2 })
     (s.sec 5).timingD.retries ≤ 2 ∧ s.entryAt 5 4 = some { entry with missed := 2 } ∧
     s.lookup 1203 = some (0, { entry with missed := 2 }) ∧
     (after (.replyWindowExpiry 5) s).lookup 1203 = some (0, { entry with missed := 3, reachable := false }) ∧
     (after (.replyWindowExpiry 5) s).nowMs = 100100 ∧
     (∀ b, 4 < b → s.eligibleAddr 5 b = false) ∧ s.dispatchDue = false ∧ ((after (.replyWindowExpiry 5) s).sec 5).inFlight = none ∧
     ((after (.replyWindowExpiry 5) s).sec 5).bracket = some ⟨.cabinet, 1203⟩ ∧
     (after (.replyWindowExpiry 5) s).events.map Event.body =
       [.transactionFailed 5 4 1203 .poll .noReply none none, .postUnreachable 1203 5 4 3, .roundDone 5 false 0 1 0,
        .openSuspected 5 ⟨.cabinet, 1203⟩ 80200 false]) ∧
    (let s := calling (flying { ring4 with attempts := 2 } (.window ⟨99700, 400⟩)) .ringing
     s.findCall 7 = some (call .ringing) ∧ (after (.replyWindowExpiry 5) s).calls = [] ∧
     ((after (.replyWindowExpiry 5) s).history.map HistRec.cause) = [.postUnreached] ∧
     ((after (.replyWindowExpiry 5) s).sec 5).inFlight = some ⟨.ringStop, 4, .call 7, 0, 0, 0, false⟩) ∧
    (let s := part { flying { lamp4 with attempts := 2 } (.window ⟨99700, 400⟩) with queue := [text4] }
     ((after (.replyWindowExpiry 5) s).sec 5).exch = .lead (burst text4) ⟨100100, 20⟩) := by decide +kernel

/-- The section of 06's worked example: posts 1197, 1199, 1201 and 1203, with whether each is reachable, a bracket stored, and the
round at the poll of 1203, which is answered. -/
def cut (r1 r2 r3 r4 : Bool) (b : Option OpenBracket) : State :=
  let put (s : State) (p : Nat) (a : Addr) (o : Nat) (r : Bool) : State :=
    (s.setEntry (rowOf p) 0 (some { entry with post := p, addr := a, offset := o, missed := if r then 0 else 3, reachable := r })).setSlot
      5 a (some p)
  put (put (put (put (part { flying poll4 .reply with round := some ⟨4, none, 3, 0, 0⟩, bracket := b }) 1197 1 1500 r1) 1199 2 3800 r2)
    1201 3 6000 r3) 1203 4 8000 r4

/-- What stands in the queue and in the bracket after 1203's answer. -/
def closes (s : State) : List EventBody × Option OpenBracket :=
  let t := after (.replyBurstEnd 5 [rec 4 0x45 [0, 124, 0]]) s
  (t.events.map Event.body, (t.sec 5).bracket)

/-- The rows of R114, and the scattered pattern of R113: nothing, a bracket gone, the same bracket, another, and a pattern with an
unreachable post before a reachable one. -/
theorem test_bracket_rows :
    closes (cut true true true true none) = ([.roundDone 5 false 4 0 0], none) ∧
    closes (cut true true true false (some ⟨.post 1201, 1203⟩)) =
      ([.postReachable 1203 5 4 0, .roundDone 5 false 4 0 0, .openCleared 5 ⟨.post 1201, 1203⟩], none) ∧
    closes (cut true true false true none) = ([.roundDone 5 false 4 0 0], none) ∧
    candidateBracket ((cut true true true false none).postsOn 5) = some (⟨.post 1201, 1203⟩, 6000, 8000) ∧
    candidateBracket ((cut false true true false none).postsOn 5) = none ∧
    (defn.chainage (roundDiv (6000 + 8000) 2)) = (77200, false) := by decide +kernel

theorem test_post_burst_start :
    (0x4D34#16 : SyncWord) ≠ defn.sync ∧ after (.postBurstStart 5 0x4D34) (part on) = part on ∧
    after (.postBurstStart 5 0x4D35) (part (resting .hibernate)) = part (resting .hibernate) ∧
    after (.postBurstStart 5 0x4D35) (part { on with line := .unknown }) = part { on with line := .unknown } ∧
    ((after (.postBurstStart 5 0x4D35) (part (resting (.settling .settle)))).sec 5).exch = .post ∧
    ((after (.postBurstStart 5 0x4D35) (part on)).sec 5).line = .foreign ∧
    (let t := after (.postBurstStart 5 0x4D35) (part (flying ring4 (.lead (burst ring4) ⟨99980, 20⟩)))
     (t.sec 5).inFlight = some ring4 ∧ (t.sec 5).line = .foreign) ∧
    ((after (.postBurstStart 5 0x4D35) (part (flying ring4 (.sending (burst ring4) ⟨99980, 20⟩)))).sec 5).line = .foreign ∧
    ((after (.postBurstStart 5 0x4D35) (part (flying ring4 (.lead (burst ring4) ⟨99979, 20⟩)))).sec 5).exch =
      .collided (burst ring4) ∧
    ((after (.postBurstStart 5 0x4D35) (part (flying ring4 (.sending (burst ring4) ⟨99979, 20⟩)))).sec 5).exch =
      .collided (burst ring4) ∧
    ((after (.postBurstStart 5 0x4D35) (part (flying ring4 (.window ⟨100000, 400⟩)))).sec 5).exch = .reply := by decide +kernel

/-- A post burst while a failed attempt waits: held with an attempt left; failed NO_REPLY with the budget spent, and received (R47). -/
theorem test_post_burst_in_the_wait :
    (let start := fun x => after (.postBurstStart 5 0x4D35) (part x)
     let waiting := fun (q : Txn) n => { flying { q with attempts := n } .retryWait with carrier := true }
     (waiting lamp4 3).pairFree = false ∧ (waiting lamp4 3).timingD.retries = 2 ∧
     ((start (waiting lamp4 2)).sec 5).inFlight = some { lamp4 with attempts := 2 } ∧
     ((start (waiting lamp4 2)).sec 5).line = .foreign ∧
     ((start (flying { lamp4 with attempts := 4 } (.sending (burst lamp4) ⟨99979, 20⟩))).sec 5).inFlight =
       some { lamp4 with attempts := 4 } ∧
     (let t := start (waiting lamp4 3)
      (t.sec 5).inFlight = none ∧ (t.sec 5).line = .foreign ∧ (t.sec 5).exch = .post ∧ (t.sec 5).queue = [] ∧
      t.events.map Event.body = [.transactionFailed 5 4 1203 .lamp .noReply none none]) ∧
     (let t := start { waiting poll4 3 with round := some ⟨4, none, 0, 0, 0⟩ }
      (t.sec 5).inFlight = none ∧ (t.sec 5).line = .foreign ∧ (t.sec 5).exch = .post)) := by decide +kernel

/-- A status: ON, CLOSED, NONE, PASS, 10.9 V, lamp OFF (01, Worked example: supervision fields of one post). -/
def st109 : StatusFields := ⟨false, false, false, false, 109, .off⟩

theorem test_reply_burst_acks :
    readBurst [rec 4 0x46 []] = some [⟨4, .ack, none⟩] ∧
    ((after (.replyBurstEnd 5 [rec 4 0x46 []]) (part (flying lamp4 .reply))).sec 5).line = .idle ∧
    ((after (.replyBurstEnd 5 [rec 4 0x46 []]) (part { flying lamp4 .reply with queue := [text4] })).sec 5).inFlight = some text4 ∧
    ((after (.replyBurstEnd 5 [rec 4 0x46 []]) (part (flying text4 .reply))).sec 5).inFlight =
      some { text4 with headerDone := true } ∧
    0 + 1 < (12 + 7) / 8 ∧
    ((after (.replyBurstEnd 5 [rec 4 0x46 []]) (part (flying { text4 with headerDone := true } .reply))).sec 5).exch =
      .lead ⟨0x4D35#16, .lead, [⟨4, .textRecord (List.replicate 4 0x41#8)⟩]⟩ ⟨100000, 20⟩ ∧
    (12 + 7) / 8 ≤ 1 + 1 ∧
    ((after (.replyBurstEnd 5 [rec 4 0x46 []]) (part (flying { text4 with headerDone := true, progress := 1 } .reply))).sec 5).line =
      .idle ∧
    readBurst [rec 4 0x47 []] = some [⟨4, .nack, none⟩] ∧
    (after (.replyBurstEnd 5 [rec 4 0x47 []]) (part (flying { text4 with headerDone := true, progress := 1 } .reply))).events.map
      Event.body = [.transactionFailed 5 4 1203 .text .lengthShort none (some 1)] := by decide +kernel

theorem test_reply_burst_status :
    readBurst [rec 4 0x45 [0, 109, 0]] = some [⟨4, .status, some st109⟩] ∧
    (let s := (calling { flying poll4 .reply with round := some ⟨4, none, 0, 0, 0⟩ } .queued).setEntry (rowOf 1203) 0
       (some { entry with missed := 3, reachable := false })
     s.entryAt 5 4 = some { entry with missed := 3, reachable := false } ∧ (s.callAt 5 4).isSome = true ∧
     (after (.replyBurstEnd 5 [rec 4 0x45 [0, 109, 0]]) s).lookup 1203 =
       some (0, { entry with lastStatus := some st109, lastReply := some 100, lowBattery := true }) ∧
     (after (.replyBurstEnd 5 [rec 4 0x45 [0, 109, 0]]) s).events.map Event.body =
       [.postReachable 1203 5 4 0, .postStatus 1203 5 4 ⟨false, false, false, false⟩ (some .downward) st109,
        .roundDone 5 false 1 0 0]) ∧
    readBurst [{ rec 4 0x45 [0, 109, 0] with check := 0 }] = none ∧
    ((after (.replyBurstEnd 5 [{ rec 4 0x45 [0, 109, 0] with check := 0 }]) (part (flying poll4 .reply))).sec 5).inFlight =
      some { poll4 with attempts := 1 } := by decide +kernel

/-- Failed attempts: another address, another kind than the step expects, a NACK to a LAMP, and the budget spent (R46, R47). -/
theorem test_reply_burst_fails :
    readBurst [rec 3 0x46 []] = some [⟨3, .ack, none⟩] ∧
    ((after (.replyBurstEnd 5 [rec 3 0x46 []]) (part (flying lamp4 .reply))).sec 5).inFlight = some { lamp4 with attempts := 1 } ∧
    ((after (.replyBurstEnd 5 [rec 4 0x46 []]) (part (flying poll4 .reply))).sec 5).inFlight = some { poll4 with attempts := 1 } ∧
    ((after (.replyBurstEnd 5 [rec 4 0x47 []]) (part { flying lamp4 .reply with carrier := true })).sec 5).exch = .retryWait ∧
    ((after (.replyBurstEnd 5 [rec 4 0x41 []]) (part (flying text4 .reply))).sec 5).inFlight = some { text4 with attempts := 1 } ∧
    (let t := after (.replyBurstEnd 5 [rec 4 0x47 []]) (part (flying { lamp4 with attempts := 2 } .reply))
     (t.sec 5).inFlight = none ∧ (t.sec 5).line = .idle ∧
     t.events.map Event.body = [.transactionFailed 5 4 1203 .lamp .noReply none none]) := by decide +kernel

/-- A poll answered with hook OFF where no live call stands: the implied alert's call stands before ROUND_DONE (R105, R111). -/
theorem test_poll_with_hook_off :
    (let s := part { flying poll4 .reply with round := some ⟨4, none, 0, 0, 0⟩ }
     s.callAt 5 4 = none ∧ s.calls.length < 32 ∧
     (after (.replyBurstEnd 5 [rec 4 0x45 [1, 124, 0]]) (quietly s)).events.map Event.body =
       [.postStatus 1203 5 4 ⟨true, false, false, false⟩ none ⟨true, false, false, false, 124, .off⟩,
        .callNew 1 .inbound .poll 1203 5 4 .tunnel ⟨76200, .a, .directory, false⟩, .roundDone 5 false 1 0 0]) := by decide +kernel

/-- Section 5 receiving a post-started burst. -/
def hearing : SectionCtl := { on with line := .foreign, exch := .post }

theorem test_post_burst :
    readBurst [{ rec 4 0x41 [] with check := 1 }] = none ∧
    ((after (.postBurstEnd 5 [{ rec 4 0x41 [] with check := 1 }]) (part { hearing with carrier := true })).sec 5).exch =
      .discarded ∧
    readBurst [rec 4 0x41 []] = some [⟨4, .alert, none⟩] ∧ (part hearing).callAt 5 4 = none ∧ (part hearing).slotAt 5 4 = some 1203 ∧
    (let t := after (.postBurstEnd 5 [rec 4 0x41 []]) (part hearing)
     (t.calls.map (fun c => (c.ref, c.location.chainage, c.state))) = [(1, 76200, .offered)] ∧
     (t.sec 5).exch = .answering ⟨0x4D35#16, .absent, [⟨4, .alertRegistered 1⟩]⟩ [.good]) ∧
    ((after (.postBurstEnd 5 [rec 4 0x41 []]) (part { hearing with carrier := true })).sec 5).exch =
      .answerDue [⟨4, .alertRegistered 1⟩] [.good] ∧
    readBurst [rec 4 0x43 []] = some [⟨4, .onhook, none⟩] ∧
    ((after (.postBurstEnd 5 [rec 4 0x43 []]) (calling hearing .queued)).findCall 7).map Call.state = some .abandoned ∧
    (after (.postBurstEnd 5 [rec 4 0x43 []]) (calling hearing .connected)).events.map Event.body =
      [.callEnded 7 1203 5 4 .inbound .clearedByPost 20] ∧
    (after (.postBurstEnd 5 [rec 4 0x43 []]) (calling hearing .ringing)).findCall 7 = some (call .ringing) ∧
    readBurst [rec 4 0x42 []] = some [⟨4, .answer, none⟩] ∧ (call .ringing).channel = some 0 ∧
    (after (.postBurstEnd 5 [rec 4 0x42 []]) (calling hearing .ringing)).join 5 = .channel 0 := by decide +kernel

/-- What a post-started burst is answered with. -/
def answered (recs : List LineRec) (s : State) : List OutKind :=
  match ((after (.postBurstEnd 5 recs) s).sec 5).exch with
  | .answering b _ => b.recs.map OutRec.kind
  | _ => []

/-- Each row of R134: REGISTERED under the call that is live, the answer of a RINGING call, a revival, and DEFERRED from address 0;
in a full table a deferral, told once in the episode, or an eviction (R136, R137, R139, R140). -/
theorem test_alerts :
    answered [rec 4 0x41 []] (calling hearing .connected) = [.alertRegistered 7] ∧
    (after (.postBurstEnd 5 [rec 4 0x41 []]) (calling hearing .connected)).calls = [call .connected] ∧
    answered [rec 4 0x41 []] (calling hearing .ringing) = [.alertRegistered 7] ∧
    (after (.postBurstEnd 5 [rec 4 0x41 []]) (calling hearing .ringing)).join 5 = .channel 0 ∧
    answered [rec 4 0x41 []] (calling hearing .abandoned) = [.alertRegistered 7] ∧
    (after (.postBurstEnd 5 [rec 4 0x41 []]) (quietly (calling hearing .abandoned))).events.map Event.body =
      [.callRequeued 7 .revived 0 none] ∧
    answered [rec 0 0x41 []] (part hearing) = [.alertDeferred] ∧ (after (.postBurstEnd 5 [rec 0 0x41 []]) (part hearing)).calls = [] ∧
    (let full := { fullTable with secs := (part hearing).secs }
     answered [rec 4 0x41 []] full = [.alertDeferred] ∧
     (after (.postBurstEnd 5 [rec 4 0x41 []]) full).events.map Event.body = [.callTableFull 5 4 1203 .alert] ∧
     (after (.postBurstEnd 5 [rec 4 0x41 []]) full).fullEpisode = true ∧
     (after (.postBurstEnd 5 [rec 4 0x41 []]) { full with fullEpisode := true }).events = []) ∧
    (let s := quietly (evictable hearing)
     answered [rec 4 0x41 []] s = [.alertRegistered 1] ∧
     (after (.postBurstEnd 5 [rec 4 0x41 []]) s).events.map Event.body = [.callEnded 100 1203 2 4 .inbound .dismissedAuto 0,
       .callNew 1 .inbound .alert 1203 5 4 .tunnel ⟨76200, .a, .directory, false⟩]) := by decide +kernel

/-- Records from empty slots (R18, R26): the first fills the unresolved-post record or raises its count, once for a burst; an ALERT
makes a call at the middle of the section, a NOTICE only an ACK. -/
theorem test_empty_slots :
    (let t := after (.postBurstEnd 5 [rec 6 0x41 []]) (quietly (part hearing))
     t.unresolved = some ⟨5, 6, .alert, 100, 0⟩ ∧ t.events.map Event.body = [.unresolvedPost 5 6 .alert,
       .callNew 1 .inbound .alert 0 5 6 .service ⟨79700, .both, .sectionOnly, false⟩]) ∧
    (let t := after (.postBurstEnd 5 [rec 4 0x43 [], rec 7 0x43 []]) { part hearing with unresolved := some ⟨2, 1, .alert, 50, 255⟩ }
     t.unresolved = some ⟨2, 1, .alert, 50, 255⟩ ∧ t.events = []) ∧
    (let t := after (.postBurstEnd 5 [rec 6 0x43 [], rec 7 0x43 []]) (part hearing)
     t.unresolved = some ⟨5, 6, .onhook, 100, 0⟩ ∧ t.events.map Event.body = [.unresolvedPost 5 6 .onhook] ∧
     (t.sec 5).exch = .answering ⟨0x4D35#16, .absent, [⟨6, .ack⟩, ⟨7, .ack⟩]⟩ [.good, .good]) ∧
    answered [rec 6 0x44 [1, 124, 0]] (part hearing) = [.ack] ∧
    (after (.postBurstEnd 5 [rec 6 0x44 [1, 124, 0]]) (part hearing)).calls = [] := by decide +kernel

/-- 06's worked example of a handset knocked off its hook: POST_STATUS, an implied call, and the ACK (R108, R109, R111). -/
theorem test_notice :
    readBurst [rec 4 0x44 [5, 124, 0]] = some [⟨4, .notice, some ⟨true, false, true, false, 124, .off⟩⟩] ∧
    answered [rec 4 0x44 [5, 124, 0]] (part hearing) = [.ack] ∧
    (after (.postBurstEnd 5 [rec 4 0x44 [5, 124, 0]]) (quietly (part hearing))).events.map Event.body =
      [.postStatus 1203 5 4 ⟨true, false, true, false⟩ none ⟨true, false, true, false, 124, .off⟩,
       .callNew 1 .inbound .poll 1203 5 4 .tunnel ⟨76200, .a, .directory, false⟩] ∧
    (after (.postBurstEnd 5 [rec 4 0x44 [5, 124, 0]]) (calling hearing .abandoned)).calls = [call .abandoned] ∧
    entry.told ⟨true, false, true, false, 124, .off⟩ 110 =
      [.postStatus 1203 5 4 ⟨true, false, true, false⟩ none ⟨true, false, true, false, 124, .off⟩] ∧
    entry.told st109 110 = [.postStatus 1203 5 4 ⟨false, false, false, false⟩ (some .downward) st109] := by decide +kernel

/-- An ONHOOK abandons an OFFERED call and a PARKED one; an ANSWER of a call that does not ring changes nothing. -/
theorem test_hang_ups :
    (after (.postBurstEnd 5 [rec 4 0x43 []]) (calling hearing .offered)).findCall 7 =
      some { call .offered with state := .abandoned, channel := none, offerTimer := none } ∧
    (after (.postBurstEnd 5 [rec 4 0x43 []]) (calling hearing .offered)).events.map Event.body =
      [.callAbandoned 7 1203 5 4 .offered] ∧
    ((after (.postBurstEnd 5 [rec 4 0x43 []]) (calling hearing .parked)).findCall 7).map Call.state = some .abandoned ∧
    (after (.postBurstEnd 5 [rec 4 0x42 []]) (calling hearing .queued)).calls = [call .queued] ∧
    answered [rec 4 0x42 []] (calling hearing .queued) = [.ack] ∧ answered [rec 4 0x42 []] (calling hearing .ringing) = [.ack] ∧
    ((after (.postBurstEnd 5 [{ rec 4 0x41 [] with check := 1 }]) (part hearing)).sec 5).line = .idle := by decide +kernel

/-- Section 5 sending an ACK to the post at address 4, a transaction held after its yield. -/
def answering (held : Option Txn) : SectionCtl :=
  { on with line := .foreign, exch := .answering ⟨0x4D35#16, .absent, [⟨4, .ack⟩]⟩ [.good], inFlight := held }

theorem test_answer_burst_sent :
    ((after (.answerBurstSent 5) (part (answering none))).sec 5).line = .idle ∧
    ((after (.answerBurstSent 5) (part (answering (some { lamp4 with losses := 1 })))).sec 5).inFlight =
      some { lamp4 with losses := 2 } ∧
    ((after (.answerBurstSent 5) (part { answering (some lamp4) with slot := some .auto })).sec 5).queue =
      [{ lamp4 with losses := 1 }] ∧
    (after (.answerBurstSent 5) (part (answering (some { lamp4 with losses := 2 })))).events.map Event.body =
      [.transactionFailed 5 4 1203 .lamp .arbLost none none] := by decide +kernel

theorem test_carrier :
    after (.carrierAppears 5) (part { on with carrier := true }) = part { on with carrier := true } ∧ on.carrier = false ∧
    ((after (.carrierAppears 5) (part on)).sec 5).stuckTimer = some ⟨100000, 3000⟩ ∧
    after (.carrierDrops 5) (part on) = part on ∧
    ((after (.carrierDrops 5) (part { hearing with carrier := true, exch := .discarded })).sec 5).line = .idle ∧
    ((after (.carrierDrops 5) (part { hearing with carrier := true, exch := .answerDue [⟨4, .ack⟩] [.good] })).sec 5).exch =
      .answering ⟨0x4D35#16, .absent, [⟨4, .ack⟩]⟩ [.good] ∧
    (let t := after (.stuckLimit 5) (part { on with carrier := true, stuckTimer := some ⟨98000, 3000⟩, queue := [lamp4] })
     t.nowMs = 101000 ∧ (t.sec 5).disowned = true ∧ (t.sec 5).inFlight = some lamp4 ∧ t.events.map Event.body = [.lineStuck 5]) := by
  decide +kernel

/-- Carrier drops in a wait for the pair, in a reply burst and in a post burst (R39, R46, R53). -/
theorem test_carrier_drops :
    (let dropped (x : SectionCtl) : State := after (.carrierDrops 5) (part { x with carrier := true })
     ((dropped (flying { lamp4 with attempts := 2 } .retryWait)).sec 5).exch = .lead (burst lamp4) ⟨100000, 20⟩ ∧
     (dropped (flying { lamp4 with attempts := 3 } .retryWait)).events.map Event.body =
       [.transactionFailed 5 4 1203 .lamp .noReply none none] ∧
     ((dropped (flying { lamp4 with attempts := 1 } .reply)).sec 5).inFlight = some { lamp4 with attempts := 2 } ∧
     ((dropped { flying { lamp4 with attempts := 2 } .reply with queue := [text4] }).sec 5).inFlight = some text4 ∧
     ((dropped hearing).sec 5).line = .idle ∧ ((dropped hearing).sec 5).exch = .quiet ∧
     ((dropped { hearing with inFlight := some lamp4 }).sec 5).inFlight = some { lamp4 with losses := 1 }) := by decide +kernel

/-- The rows of R70 for UNKNOWN, OWNED and FOREIGN: the attempt has failed and is retried at once, or its transaction fails; the burst is
discarded, and a yielded transaction is returned. -/
theorem test_stuck_rows :
    (let stuck (x : SectionCtl) : State := after (.stuckLimit 5) (part { x with carrier := true, stuckTimer := some ⟨98000, 3000⟩ })
     ((stuck { on with line := .unknown }).sec 5).quietTimer = some ⟨101000, 500⟩ ∧
     ((stuck { on with line := .unknown, space := true }).sec 5).quietTimer = none ∧
     ((stuck (flying lamp4 .reply)).sec 5).exch = .lead (burst lamp4) ⟨101000, 20⟩ ∧
     ((stuck (flying lamp4 (.window ⟨100900, 400⟩))).sec 5).inFlight = some { lamp4 with attempts := 1 } ∧
     ((stuck (flying { lamp4 with attempts := 1 } .retryWait)).sec 5).inFlight = some { lamp4 with attempts := 1 } ∧
     (stuck (flying { lamp4 with attempts := 2 } .reply)).events.map Event.body =
       [.lineStuck 5, .transactionFailed 5 4 1203 .lamp .noReply none none] ∧
     ((stuck hearing).sec 5).line = .idle ∧ (stuck hearing).events.map Event.body = [.lineStuck 5] ∧
     ((stuck { hearing with inFlight := some lamp4 }).sec 5).inFlight = some { lamp4 with losses := 1 } ∧
     ((stuck { hearing with exch := .answerDue [⟨4, .ack⟩] [.good] }).sec 5).exch = .quiet) := by decide +kernel

/-- The break time with a poll in flight and with a transaction held after a yield (R71, R78, R50). -/
theorem test_break_with_a_transaction :
    (let broken (x : SectionCtl) : State := after (.breakTime 5) (part { x with space := true, breakTimer := some ⟨98500, 2000⟩ })
     ((broken { flying { poll4 with attempts := 1 } .reply with round := some ⟨4, none, 2, 0, 0⟩ }).sec 5).round =
       some ⟨4, some ⟨4, 1, 0⟩, 2, 0, 0⟩ ∧
     ((broken { hearing with inFlight := some lamp4 }).sec 5).queue = [{ lamp4 with losses := 1 }] ∧
     ((broken { hearing with inFlight := some poll4, round := some ⟨4, none, 0, 0, 0⟩ }).sec 5).round =
       some ⟨4, some ⟨4, 0, 1⟩, 0, 0, 0⟩ ∧
     (broken { hearing with inFlight := some { lamp4 with losses := 2 } }).events.map Event.body =
       [.transactionFailed 5 4 1203 .lamp .arbLost none none, .lineBreakStart 5]) := by decide +kernel

theorem test_space :
    after (.spaceAppears 5) (part { on with space := true }) = part { on with space := true } ∧
    ((after (.spaceAppears 5) (part on)).sec 5).breakTimer = some ⟨100000, 2000⟩ ∧
    (let x := { on with space := true, breakTimer := some ⟨98500, 2000⟩ }
     (let t := after (.breakTime 5) (part x)
      (t.sec 5).line = .testing ∧ t.nowMs = 100500 ∧ t.events.map Event.body = [.lineBreakStart 5]) ∧
     ((after (.breakTime 5) (part { x with episode := true })).sec 5).line = .brk ∧
     ((after (.breakTime 5) (part { x with line := .owned, inFlight := some lamp4, exch := .window ⟨99900, 400⟩ })).sec 5).queue =
       [lamp4]) ∧
    after (.spaceEnds 5) (part on) = part on ∧
    (let t := after (.spaceEnds 5) (part { on with space := true, line := .brk, episode := true })
     (t.sec 5).line = .unknown ∧ t.events.map Event.body = [.lineBreakEnd 5]) := by decide +kernel

/-- Section 5 in UNKNOWN, its settle quiet running. -/
def settling : SectionCtl := { on with line := .unknown, quietTimer := some ⟨99800, 500⟩ }

theorem test_entering_idle :
    (after (.settleQuiet 5) (part settling)).nowMs = 100300 ∧ ((after (.settleQuiet 5) (part settling)).sec 5).idleSince = some 100300 ∧
    ((after (.endMarkObserved 5) (part { settling with carrier := true, queue := [lamp4] })).sec 5).line = .idle ∧
    ((after (.endMarkObserved 5) (part { settling with slot := some .host })).sec 5).line = .testing ∧
    ((after (.endMarkObserved 5) (calling { settling with slot := some .host, queue := [lamp4] } .parked)).sec 5).inFlight =
      some lamp4 ∧
    (part { settling with round := some ⟨2, none, 0, 0, 0⟩ }).eligibleAddr 5 4 = true ∧
    ((after (.settleQuiet 5) (part { settling with round := some ⟨2, none, 0, 0, 0⟩ })).sec 5).inFlight = some poll4 ∧
    after (.endMarkObserved 5) (part on) = part on := by decide +kernel

/-- The short worked in 07 and 02: Rm 4,129 lies 7,311 m from the cabinet at km 76.889. -/
theorem test_measurement :
    ((after (.sampleTaken 5 70000) (measuring [4128, 4129])).ltuOf 5).running = some ⟨.host, 99, 99000, [4128, 4129, 60000]⟩ ∧
    (after (.sampleTaken 5 4000) (measuring [4128, 4129, 60000])).events.map Event.body =
      [.faultLocated 5 .host 7311 76889 false false false (some 1203) .cabinet (.post 1203)] ∧
    (after (.sampleTaken 5 60000) (measuring [4128, 4129, 60000])).events.map Event.body = [.lineClear 5 .host 2] ∧
    ((after (.sampleTaken 5 60000) (measuring [4128, 4129, 60000])).sec 5).line = .unknown ∧
    (measuring [4128, 4129, 60000]).ltuOf 5 = ⟨some ⟨.host, 99, 99000, [4128, 4129, 60000]⟩, none⟩ ∧
    ([4128, 4129, 60000, 4000] : List Nat).Perm [4000, 4128, 4129, 60000] ∧
    ((after (.sampleTaken 5 4000) (measuring [4128, 4129, 60000])).ltuOf 5).last =
      some ⟨5, 100, .host, [4128, 4129, 60000, 4000], .short, some 4129, some 7311, false, false, some 76889, false, some 1203,
        some (.cabinet, .post 1203)⟩ := by decide +kernel

/-- The bounds of the arithmetic statements at their edges. -/
theorem test_arithmetic_edges :
    (0 : Nat) ≤ 1 ∧ unsteady 0 1 = true ∧ unsteady 10 11 = false ∧ unsteady 10 12 = true ∧
    roundDiv 1 2 = 1 ∧ roundDiv 0 1 = 0 ∧ roundDiv 1 3 = 0 ∧ ageingSteps 79 10 = 7 ∧ ageingSteps 9 10 = 0 := by decide

end Sys2Proof.Tests
end

section
/-! SUPPORT. DEFINE POST check by check (R7): the fields, each check on a state that has passed those before it, and the statement
that the first check that fails is reported. -/

namespace Sys2Proof.Machine

/-! ## The fields and the conditions of the checks -/

theorem PostClass.ofCode_eq_none_iff (n : Nat) : PostClass.ofCode n = none ↔ 3 < n := by
  match n with
  | 0 | 1 | 2 | 3 => simp [PostClass.ofCode]
  | n + 4 => simp [PostClass.ofCode]

theorem Carriageway.ofCode_eq_none_iff (n : Nat) : Carriageway.ofCode n = none ↔ 1 < n := by
  match n with
  | 0 | 1 => simp [Carriageway.ofCode]
  | n + 2 => simp [Carriageway.ofCode]

theorem PostClass.exists_ofCode {n : Nat} (h : n ≤ 3) : ∃ cls, PostClass.ofCode n = some cls :=
  Option.ne_none_iff_exists'.1 (fun hn => absurd ((PostClass.ofCode_eq_none_iff n).1 hn) (by omega))

theorem Carriageway.exists_ofCode {n : Nat} (h : n ≤ 1) : ∃ cw, Carriageway.ofCode n = some cw :=
  Option.ne_none_iff_exists'.1 (fun hn => absurd ((Carriageway.ofCode_eq_none_iff n).1 hn) (by omega))

theorem sectionOf_eq_none {n : Nat} (h : 7 < n) : sectionOf n = none := dif_neg (by omega)

@[simp] theorem sectionOf_val (i : SectionId) : sectionOf i.val = some i := dif_pos i.isLt

theorem addrOf_eq_none {n : Nat} (h : n = 0 ∨ 15 < n) : addrOf n = none := dif_neg (by omega)

theorem addrOf_val {a : Addr} (h : 1 ≤ a.val) : addrOf a.val = some a := dif_pos ⟨h, a.isLt⟩

theorem isPostNumber_iff (n : Nat) : isPostNumber n = true ↔ 1 ≤ n ∧ n ≤ 59999 :=
  decide_eq_true_iff

/-- Check 4 of R7 stops a request exactly when its slot names another post. -/
theorem State.addressTaken_iff (s : State) (i : SectionId) (a : Addr) (p : Nat) :
    s.addressTaken i a p = true ↔ ∃ q, s.slotAt i a = some q ∧ q ≠ p := by
  unfold State.addressTaken
  split <;> simp_all

theorem State.addressTaken_eq_false {s : State} {i : SectionId} {a : Addr} {p : Nat}
    (h : ∀ q, s.slotAt i a = some q → q = p) : s.addressTaken i a p = false := by
  rw [Bool.eq_false_iff, Ne, State.addressTaken_iff]
  exact fun ⟨q, hq, hne⟩ => hne (h q hq)

/-- Check 5 of R7 stops a new post exactly when both entries of its row are valid. -/
theorem State.openColumn_eq_none_iff (s : State) (p : Nat) :
    s.openColumn p = none ↔ (s.entry (rowOf p) 0).isSome = true ∧ (s.entry (rowOf p) 1).isSome = true := by
  unfold State.openColumn
  split
  · next h => simp_all
  · split <;> simp_all [Option.isSome_iff_ne_none]

/-- Check 1 of R7, the fields that no section's length enters. -/
theorem State.definePostAct_badField {p : RawPost} (s : State)
    (h : p.post = 0 ∨ 59999 < p.post ∨ 7 < p.sec ∨ p.addr = 0 ∨ 15 < p.addr ∨ 3 < p.cls ∨ 1 < p.cway) :
    s.definePostAct p = s.refuse .badField := by
  unfold State.definePostAct
  split
  · next i a cls cw hi ha hc hw =>
    have hpost : isPostNumber p.post = false := by
      rw [Bool.eq_false_iff, Ne, isPostNumber_iff]
      intro hp
      rcases h with h | h | h | h | h | h | h
      · omega
      · omega
      · exact absurd (sectionOf_eq_none h) (by simp [hi])
      · exact absurd (addrOf_eq_none (.inl h)) (by simp [ha])
      · exact absurd (addrOf_eq_none (.inr h)) (by simp [ha])
      · exact absurd ((PostClass.ofCode_eq_none_iff _).2 h) (by simp [hc])
      · exact absurd ((Carriageway.ofCode_eq_none_iff _).2 h) (by simp [hw])
    simp [hpost]
  · rfl

/-- The fields of a DEFINE POST that check 1 of R7 judges without a section's length lie in their ranges, and name section `i`
and address `a`. -/
structure DefinesAt (p : RawPost) (i : SectionId) (a : Addr) : Prop where
  post : 1 ≤ p.post ∧ p.post ≤ 59999
  sec : p.sec = i.val
  addr : p.addr = a.val
  addrPos : 1 ≤ p.addr
  cls : p.cls ≤ 3
  cway : p.cway ≤ 1

/-- With its fields in range a DEFINE POST has its offset judged, and then goes through the other checks of R7. -/
theorem DefinesAt.definePostAct {p : RawPost} {i : SectionId} {a : Addr} (hp : DefinesAt p i a) :
    ∃ cls cw, ∀ s : State, s.definePostAct p =
      if p.offset ≤ s.offsetLimit i then s.defineChecked (newEntry p.post i a p.offset cls cw) else s.refuse .badField := by
  obtain ⟨cls, hcls⟩ := PostClass.exists_ofCode hp.cls
  obtain ⟨cw, hcw⟩ := Carriageway.exists_ofCode hp.cway
  have haddr : addrOf a.val = some a := addrOf_val (hp.addr ▸ hp.addrPos)
  have hpost := (isPostNumber_iff p.post).2 hp.post
  refine ⟨cls, cw, fun s => ?_⟩
  simp [State.definePostAct, hp.sec, hp.addr, haddr, hcls, hcw, hpost]

/-! ## The checks 2 to 5, each on a state that has passed those before it -/

section checks
variable {s : State} {e : PostEntry}

theorem State.defineChecked_noSuchSection (hsec : (s.sec e.sec).defn = none) :
    s.defineChecked e = s.refuse .noSuchSection := by
  simp [State.defineChecked, hsec]

theorem State.defineChecked_postBusy {d : SectionDef} {c : Fin 2} {old : PostEntry} (hsec : (s.sec e.sec).defn = some d)
    (hold : s.lookup e.post = some (c, old)) (hcall : (s.callAt old.sec old.addr).isSome = true) :
    s.defineChecked e = s.refuse .postBusy := by
  simp [State.defineChecked, hsec, hold, hcall]

theorem State.defineChecked_addressTaken {d : SectionDef} (hsec : (s.sec e.sec).defn = some d)
    (hfree : ∀ c old, s.lookup e.post = some (c, old) → s.callAt old.sec old.addr = none)
    (htaken : s.addressTaken e.sec e.addr e.post = true) : s.defineChecked e = s.refuse .addressTaken := by
  unfold State.defineChecked
  split
  · simp_all
  · split
    · next c old hold => simp [hfree c old hold]
    · simp

theorem State.defineChecked_dirRowFull {d : SectionDef} (hsec : (s.sec e.sec).defn = some d) (hnew : s.lookup e.post = none)
    (hslot : s.addressTaken e.sec e.addr e.post = false) (hrow : s.openColumn e.post = none) :
    s.defineChecked e = s.refuse .dirRowFull := by
  simp [State.defineChecked, hsec, hnew, hslot, hrow]

/-- A post whose checks have all passed is placed or redefined, and the reply tells its row and column (R7, R8, R9). -/
theorem State.defineChecked_ok {d : SectionDef} (hsec : (s.sec e.sec).defn = some d)
    (hfree : ∀ c old, s.lookup e.post = some (c, old) → s.callAt old.sec old.addr = none)
    (hslot : s.addressTaken e.sec e.addr e.post = false) (hrow : s.lookup e.post = none → s.openColumn e.post ≠ none) :
    ∃ (t : State) (c : Fin 2), s.defineChecked e = (t, .ok, .placed (rowOf e.post) c) := by
  unfold State.defineChecked
  rw [if_neg (by simp [hsec])]
  split
  · next c old hold => exact ⟨s.redefinePost old c e, c, by simp [hfree c old hold, hslot]⟩
  · next hnew =>
    obtain ⟨c, hc⟩ := Option.ne_none_iff_exists'.1 (hrow hnew)
    exact ⟨s.placePost e c, c, by simp [hslot, hc]⟩

end checks

/-! ## The request -/

/-- An accepted DEFINE POST is answered with what its owner's act answers. -/
theorem exec_definePost_of_accepts {h : Hdr} {p : RawPost} {s t : State} {st : Status} {b : ReplyBody}
    (ha : s.Accepts ⟨.definePost, h, p.body, 8⟩)
    (hact : (s.taking ⟨.definePost, h, p.body, 8⟩).definePostAct p = (t, st, b)) :
    exec (.definePost h p) s = .next (t.replied ⟨.definePost, h, p.body, 8⟩ st b) := by
  have hexec : exec (.definePost h p) s =
      .next (s.request .definePost h p.body 8 (State.definePostAct p)) := rfl
  rw [hexec, State.request_accepts _ ha, hact]

/-- Settles O24: the request's act is put in the form that has check 1 in front, and each clause is the check it names. -/
theorem definePostChecksInOrder : Obligations.DefinePostChecksInOrder := by
  unfold Obligations.DefinePostChecksInOrder
  rintro h p s f rfl hacc
  refine ⟨fun hbad => exec_definePost_of_accepts hacc (State.definePostAct_badField _ hbad), ?_⟩
  intro i a hpost hmax hsec haddr hpos hcls hcway
  obtain ⟨cls, cw, hact⟩ := DefinesAt.definePostAct ⟨⟨hpost, hmax⟩, hsec, haddr, hpos, hcls, hcway⟩
  have answer : ∀ {t st b}, p.offset ≤ s.offsetLimit i →
      (s.taking ⟨.definePost, h, p.body, 8⟩).defineChecked (newEntry p.post i a p.offset cls cw) = (t, st, b) →
      exec (.definePost h p) s = .next (t.replied ⟨.definePost, h, p.body, 8⟩ st b) :=
    fun hoff hck => exec_definePost_of_accepts hacc (by rw [hact, ← hck]; exact if_pos hoff)
  refine ⟨fun hoff => ?_, fun hnone hoff => ?_, fun d hd hoff => ?_⟩
  · have hlimit : s.offsetLimit i < p.offset := by
      unfold State.offsetLimit
      cases hd : (s.sec i).defn <;> simpa [hd] using hoff
    exact exec_definePost_of_accepts hacc (by rw [hact]; exact if_neg (Nat.not_le.2 hlimit))
  · have hlimit : p.offset ≤ s.offsetLimit i := by simpa [State.offsetLimit, hnone] using hoff
    exact answer hlimit (State.defineChecked_noSuchSection hnone)
  · have hlimit : p.offset ≤ s.offsetLimit i := by simpa [State.offsetLimit, hd] using hoff
    refine ⟨fun c e hold hcall => answer hlimit (State.defineChecked_postBusy hd hold hcall), fun hfree => ⟨?_, ?_, ?_⟩⟩
    · intro q hq hne
      exact answer hlimit (State.defineChecked_addressTaken hd hfree ((State.addressTaken_iff _ _ _ _).2 ⟨q, hq, hne⟩))
    · intro hslot hnew h0 h1
      refine answer hlimit (State.defineChecked_dirRowFull hd hnew ?_ ((State.openColumn_eq_none_iff _ _).2 ⟨h0, h1⟩))
      exact State.addressTaken_eq_false hslot
    · intro hslot hrow
      have hopen : s.lookup p.post = none → s.openColumn p.post ≠ none := by
        intro hnew hfull
        obtain ⟨h0, h1⟩ := (s.openColumn_eq_none_iff p.post).1 hfull
        rcases hrow hnew with hc | hc
        · simp [hc] at h0
        · simp [hc] at h1
      obtain ⟨t, c, hok⟩ := State.defineChecked_ok (s := s.taking ⟨.definePost, h, p.body, 8⟩)
        (e := newEntry p.post i a p.offset cls cw) hd hfree (State.addressTaken_eq_false hslot) hopen
      exact ⟨t, c, answer hlimit hok⟩

end Sys2Proof.Machine
end

section
/-! SUPPORT. The rows of the directory (R2): what each operation of the part does to the post numbers that stand in them. -/

namespace Sys2Proof.Machine

/-! ## Where a post number stands -/

/-- The post number that stands at a row and column, none where the entry is invalid. -/
def State.postAt (s : State) (r : Fin 64) (c : Fin 2) : Option Nat := (s.entry r c).map PostEntry.post

theorem State.postAt_eq_some {s : State} {r : Fin 64} {c : Fin 2} {p : Nat} :
    s.postAt r c = some p ↔ ∃ e, s.entry r c = some e ∧ e.post = p := Option.map_eq_some_iff

theorem State.postAt_ofDir {s t : State} (h : t.dir = s.dir) (r : Fin 64) (c : Fin 2) : t.postAt r c = s.postAt r c := by
  simp only [State.postAt, State.entry, h]

theorem State.postAt_setEntry (s : State) (r q : Fin 64) (c d : Fin 2) (e : Option PostEntry) :
    (s.setEntry r c e).postAt q d = if r = q ∧ c = d then e.map PostEntry.post else s.postAt q d := by
  unfold State.postAt
  rw [State.entry_setEntry]
  split <;> rfl

/-- The rows' law (R2) said of the post numbers alone. -/
theorem State.rowLaw_iff (s : State) :
    s.RowLaw ↔
      (∀ r c p, s.postAt r c = some p → rowOf p = r) ∧ ∀ r p, s.postAt r 0 = some p → s.postAt r 1 ≠ some p := by
  unfold State.RowLaw State.postAt
  refine and_congr (forall_congr' fun r => forall_congr' fun c => ?_) (forall_congr' fun r => ?_)
  · cases s.entry r c <;> simp
  · cases s.entry r 0 <;> cases s.entry r 1 <;> simp [eq_comm]

/-- No post number stands in both columns of a row (R2). -/
theorem State.RowLaw.column_eq {s : State} (h : s.RowLaw) {r : Fin 64} {c d : Fin 2} {p : Nat}
    (hc : s.postAt r c = some p) (hd : s.postAt r d = some p) : c = d := by
  have hrow := (s.rowLaw_iff.1 h).2 r p
  match c, d with
  | 0, 0 => rfl
  | 1, 1 => rfl
  | 0, 1 => exact absurd hd (hrow hc)
  | 1, 0 => exact absurd hc (hrow hd)

/-- The lookup by post number (R4) finds an entry of that number in its row. -/
theorem State.entry_of_lookup {s : State} {p : Nat} {c : Fin 2} {e : PostEntry} (h : s.lookup p = some (c, e)) :
    s.entry (rowOf p) c = some e ∧ e.post = p := by
  unfold State.lookup at h
  grind

theorem State.postAt_of_lookup {s : State} {p : Nat} {c : Fin 2} {e : PostEntry} (h : s.lookup p = some (c, e)) :
    s.postAt (rowOf p) c = some p := State.postAt_eq_some.2 ⟨e, State.entry_of_lookup h⟩

/-- A post number that the lookup misses stands in neither column of its row (R4). -/
theorem State.postAt_of_lookup_eq_none {s : State} {p : Nat} (h : s.lookup p = none) (c : Fin 2) :
    s.postAt (rowOf p) c ≠ some p := by
  rw [Ne, State.postAt_eq_some]
  unfold State.lookup at h
  match c with
  | 0 => grind
  | 1 => grind

/-! ## Operations that let no post number into the directory -/

/-- Every post number of `t`'s directory stands there where it stood in `s`'s: entries may be rewritten and may go, and none has
come or moved. -/
def State.AddsNoPost (s t : State) : Prop := ∀ r c p, t.postAt r c = some p → s.postAt r c = some p

theorem State.AddsNoPost.refl (s : State) : s.AddsNoPost s := fun _ _ _ h => h

theorem State.AddsNoPost.trans {s t u : State} (h1 : s.AddsNoPost t) (h2 : t.AddsNoPost u) : s.AddsNoPost u :=
  fun r c p h => h1 r c p (h2 r c p h)

theorem State.AddsNoPost.ofDir {s t : State} (h : t.dir = s.dir) : s.AddsNoPost t :=
  fun r c _ hp => State.postAt_ofDir h r c ▸ hp

theorem State.ByLine.addsNoPost {i : SectionId} {s t : State} (h : s.ByLine i t) : s.AddsNoPost t := .ofDir h.dir

theorem State.ByCalls.addsNoPost {i : SectionId} {s t : State} (h : s.ByCalls i t) : s.AddsNoPost t := .ofDir h.dir

theorem State.finish_addsNoPost (s : State) : s.AddsNoPost s.finish := .ofDir s.finish_dir

/-- An entry emptied, or rewritten for the post it holds. -/
theorem State.setEntry_addsNoPost {s : State} {r : Fin 64} {c : Fin 2} {e : Option PostEntry}
    (h : ∀ p, e.map PostEntry.post = some p → s.postAt r c = some p) : s.AddsNoPost (s.setEntry r c e) := by
  intro q d p hp
  rw [State.postAt_setEntry] at hp
  split at hp
  · next hq => exact hq.1 ▸ hq.2 ▸ h p hp
  · exact hp

theorem State.modEntry_addsNoPost (s : State) (p : Nat) {f : PostEntry → PostEntry} (hf : ∀ e, (f e).post = e.post) :
    s.AddsNoPost (s.modEntry p f) := by
  unfold State.modEntry
  split
  · next c e hl =>
    refine State.setEntry_addsNoPost (fun q hq => ?_)
    rw [← hq, Option.map_some, hf, (State.entry_of_lookup hl).2]
    exact State.postAt_of_lookup hl
  · exact .refl s

/-! ## Reports and thresholds -/

/-- A threshold application to a row re-evaluates the section's entries and leaves the others (R17). -/
theorem rethresholdRow_get (i : SectionId) (n : Nat) (v : Vector (Option PostEntry) 2) (c : Fin 2) :
    (rethresholdRow i n v).get c = (v.get c).map (fun e => if e.sec = i then e.rethreshold n else e) := by
  unfold rethresholdRow
  match c with
  | 0 => simp only [Vector.get_eq_getElem]; cases h : v[0] <;> simp [h]
  | 1 => simp only [Vector.get_eq_getElem]; cases h : v[1] <;> simp [h]

theorem rethresholdRow_post (i : SectionId) (n : Nat) (v : Vector (Option PostEntry) 2) (c : Fin 2) :
    ((rethresholdRow i n v).get c).map PostEntry.post = (v.get c).map PostEntry.post := by
  rw [rethresholdRow_get, Option.map_map]
  congr 1
  funext e
  by_cases h : e.sec = i <;> simp [h, PostEntry.rethreshold]

theorem rethresholdRows_post (i : SectionId) (n : Nat) (rs : List (Fin 64)) (d : Vector (Vector (Option PostEntry) 2) 64)
    (q : Fin 64) (c : Fin 2) :
    (((rethresholdRows i n rs d).get q).get c).map PostEntry.post = ((d.get q).get c).map PostEntry.post := by
  induction rs generalizing d with
  | nil => rfl
  | cons r rs ih =>
    rw [rethresholdRows, ih, vget_set]
    split
    · next h => rw [rethresholdRow_post, h]
    · rfl

/-- A threshold application touches reachable fields only (R17). -/
theorem State.applyThreshold_addsNoPost (s : State) (i : SectionId) (n : Nat) : s.AddsNoPost (s.applyThreshold i n) := by
  have hrows : s.AddsNoPost { s with dir := rethresholdRows i n allRows s.dir } :=
    fun r c p h => (rethresholdRows_post i n allRows s.dir r c).symm.trans h
  exact hrows.trans (.ofDir (State.postAll_dir _ _))

theorem State.statusReport_addsNoPost (s : State) (i : SectionId) (a : Addr) (st : StatusFields) :
    s.AddsNoPost (s.statusReport i a st) := by
  unfold State.statusReport
  split
  · exact (s.modEntry_addsNoPost _ (f := fun x => x.reported st s.seconds s.globals.lowBattery) (fun _ => rfl)).trans
      (.ofDir (State.postAll_dir _ _))
  · exact .refl s

theorem State.missedReport_addsNoPost (s : State) (i : SectionId) (a : Addr) : s.AddsNoPost (s.missedReport i a) := by
  unfold State.missedReport
  split
  · next e _ =>
    have hcount := s.modEntry_addsNoPost e.post (f := fun x => x.missedPoll (s.sec i).timingD.unreachable) (fun _ => rfl)
    dsimp only
    split
    · exact hcount.trans (.ofDir (State.post_dir _ _))
    · exact hcount
  · exact .refl s

/-! ## The line's operations that apply a timing record or report a poll -/

theorem State.applyTiming_addsNoPost (s : State) (i : SectionId) (t : Timing) : s.AddsNoPost (s.applyTiming i t) :=
  (s.modSec_byLine i _).addsNoPost.trans (State.applyThreshold_addsNoPost _ i _)

theorem State.applyPending_addsNoPost (s : State) (i : SectionId) : s.AddsNoPost (s.applyPending i) := by
  unfold State.applyPending
  split
  · exact s.applyTiming_addsNoPost i _
  · exact .refl s

theorem State.settleIdle_addsNoPost (s : State) (i : SectionId) : s.AddsNoPost (s.settleIdle i) :=
  (s.applyPending_addsNoPost i).trans (State.modLine_byLine _ i _).addsNoPost

theorem State.enterIdle_addsNoPost (s : State) (i : SectionId) : s.AddsNoPost (s.enterIdle i) :=
  (s.settleIdle_addsNoPost i).trans (State.arbiter_byLine _ i).addsNoPost

theorem State.pollFailed_addsNoPost (s : State) (i : SectionId) (a : Addr) (r : FailReason) :
    s.AddsNoPost (s.pollFailed i a r) := by
  unfold State.pollFailed
  split
  · exact (s.missedReport_addsNoPost i a).trans (State.pollEnded_byLine _ i a _).addsNoPost
  · exact (s.pollEnded_byLine i a _).addsNoPost
  all_goals exact .refl s

theorem State.noticeFailed_addsNoPost (s : State) (k : TxnKind) (r : Nat) : s.AddsNoPost (s.noticeFailed k r) := by
  unfold State.noticeFailed
  split
  · split
    · exact (s.endCall_byCalls _ _).addsNoPost
    · exact .refl s
  · exact .refl s

theorem State.reportFailed_addsNoPost (s : State) (i : SectionId) (t : Txn) (r : FailReason) :
    s.AddsNoPost (s.reportFailed i t r) := by
  have htold := (s.post_byLine i (.transactionFailed i t.addr ((s.slotAt i t.addr).getD 0) t.kind.name r t.origin.ref
    (t.delivered r))).addsNoPost
  unfold State.reportFailed
  split
  · exact htold.trans (State.pollFailed_addsNoPost _ i _ r)
  · exact htold
  · exact htold.trans (State.noticeFailed_addsNoPost _ _ _)

theorem State.failFlight_addsNoPost (s : State) (i : SectionId) (t : Txn) (r : FailReason) :
    s.AddsNoPost (s.failFlight i t r) :=
  (((s.clearFlight_byLine i).addsNoPost.trans (State.reportFailed_addsNoPost _ i t r)).trans
    (State.finish_addsNoPost _)).trans (State.enterIdle_addsNoPost _ i)

theorem State.succeed_addsNoPost (s : State) (i : SectionId) : s.AddsNoPost (s.succeed i) :=
  (s.clearFlight_byLine i).addsNoPost.trans (State.enterIdle_addsNoPost _ i)

theorem State.resumeFlight_addsNoPost (s : State) (i : SectionId) : s.AddsNoPost (s.resumeFlight i) := by
  unfold State.resumeFlight
  split
  · split
    · exact s.failFlight_addsNoPost i _ _
    · exact (s.sendAttempt_byLine i _).addsNoPost
  · exact .refl s

theorem State.attemptFailed_addsNoPost (s : State) (i : SectionId) : s.AddsNoPost (s.attemptFailed i) := by
  unfold State.attemptFailed
  split
  · split
    · exact s.failFlight_addsNoPost i _ _
    · split
      · exact (s.sendAttempt_byLine i _).addsNoPost
      · exact (s.modLine_byLine i _).addsNoPost
  · exact .refl s

theorem State.returnYielded_addsNoPost (s : State) (i : SectionId) : s.AddsNoPost (s.returnYielded i) := by
  have hclear := (s.clearFlight_byLine i).addsNoPost
  unfold State.returnYielded
  split
  · split
    · exact (hclear.trans (State.reportFailed_addsNoPost _ i _ _)).trans (State.finish_addsNoPost _)
    · exact hclear.trans (State.returnTxn_byLine _ i _).addsNoPost
  · exact hclear

theorem State.endForeign_addsNoPost (s : State) (i : SectionId) : s.AddsNoPost (s.endForeign i) :=
  (s.returnYielded_addsNoPost i).trans (State.enterIdle_addsNoPost _ i)

theorem State.reportAborted_addsNoPost (i : SectionId) (ts : List Txn) (s : State) :
    s.AddsNoPost (State.reportAborted i ts s) := by
  induction ts generalizing s with
  | nil => exact .refl s
  | cons t ts ih => exact (s.reportFailed_addsNoPost i t .aborted).trans (ih _)

/-! ## Bursts of the posts, and the replies -/

theorem State.impliedAlert_addsNoPost (s : State) (i : SectionId) (a : Addr) (st : StatusFields) :
    s.AddsNoPost (s.impliedAlert i a st) := by
  unfold State.impliedAlert
  split
  · exact (State.AddsNoPost.ofDir (s.alert_inner .poll i a).2).trans (State.finish_addsNoPost _)
  · exact .refl s

theorem State.takeNotice_addsNoPost (s : State) (i : SectionId) (a : Addr) (st : StatusFields) :
    s.AddsNoPost (s.takeNotice i a st) := by
  unfold State.takeNotice
  split
  · exact (s.statusReport_addsNoPost i a st).trans (State.impliedAlert_addsNoPost _ i a st)
  · exact .refl s

theorem State.driveUnresolved_addsNoPost (s : State) (i : SectionId) (g : GoodRec) : s.AddsNoPost (s.driveUnresolved i g) := by
  unfold State.driveUnresolved
  split
  · exact .ofDir rfl
  · exact .ofDir (State.post_dir _ _)

theorem State.handRecord_addsNoPost (s : State) (i : SectionId) (g : GoodRec) : s.AddsNoPost (s.handRecord i g).1 := by
  unfold State.handRecord
  split
  · exact (State.AddsNoPost.ofDir (s.alert_inner .alert i g.addr).2).trans (State.finish_addsNoPost _)
  · exact (s.answerRecord_byCalls i g.addr).addsNoPost.trans (State.finish_addsNoPost _)
  · exact (s.onhook_byCalls i g.addr).addsNoPost.trans (State.finish_addsNoPost _)
  · split
    · exact s.takeNotice_addsNoPost i _ _
    · exact .refl s
  all_goals exact .refl s

theorem State.handRecords_addsNoPost (i : SectionId) (gs : List GoodRec) (driven : Bool) (s : State) :
    s.AddsNoPost (State.handRecords i gs driven s).1 := by
  induction gs generalizing driven s with
  | nil => exact .refl s
  | cons g gs ih =>
    unfold State.handRecords
    dsimp only
    refine State.AddsNoPost.trans ?_ (ih _ _)
    split
    · exact (s.driveUnresolved_addsNoPost i g).trans (State.handRecord_addsNoPost _ i g)
    · exact s.handRecord_addsNoPost i g

theorem State.textAcked_addsNoPost (s : State) (i : SectionId) (t : Txn) (cs : List Byte) :
    s.AddsNoPost (s.textAcked i t cs) := by
  unfold State.textAcked
  split
  · split
    · exact s.succeed_addsNoPost i
    · exact (s.sendAttempt_byLine i _).addsNoPost
  · exact (s.sendAttempt_byLine i _).addsNoPost

theorem State.pollAnswered_addsNoPost (s : State) (i : SectionId) (a : Addr) (st : StatusFields) :
    s.AddsNoPost (s.pollAnswered i a st) :=
  ((((s.clearFlight_byLine i).addsNoPost.trans (State.statusReport_addsNoPost _ i a st)).trans
    (State.impliedAlert_addsNoPost _ i a st)).trans (State.pollEnded_byLine _ i a _).addsNoPost).trans
    (State.enterIdle_addsNoPost _ i)

theorem State.judgeReply_addsNoPost (s : State) (i : SectionId) (t : Txn) (g : GoodRec) :
    s.AddsNoPost (s.judgeReply i t g) := by
  unfold State.judgeReply
  split
  · split
    · split
      · exact s.pollAnswered_addsNoPost i _ _
      · exact s.attemptFailed_addsNoPost i
    · split
      · exact s.textAcked_addsNoPost i t _
      · exact s.failFlight_addsNoPost i t _
      · exact s.attemptFailed_addsNoPost i
    all_goals
      split
      · exact s.succeed_addsNoPost i
      · exact s.attemptFailed_addsNoPost i
  · exact s.attemptFailed_addsNoPost i


/-! ## What happens on a pair -/

theorem State.receivePost_addsNoPost (s : State) (i : SectionId) : s.AddsNoPost (s.receivePost i) :=
  (s.modLine_byLine i _).addsNoPost

theorem State.leadEnds_addsNoPost (s : State) (i : SectionId) : s.AddsNoPost (s.leadEnds i) := by
  unfold State.leadEnds
  split
  · exact .ofDir rfl
  · exact .refl s

theorem State.openWindow_addsNoPost (s : State) (i : SectionId) : s.AddsNoPost (s.openWindow i) :=
  (s.setExch_byLine i _).addsNoPost

theorem State.burstSent_addsNoPost (s : State) (i : SectionId) : s.AddsNoPost (s.burstSent i) := by
  have hfree := (s.setExch_byLine i .retryWait).addsNoPost
  unfold State.burstSent
  split
  · split
    · exact s.openWindow_addsNoPost i
    · exact .refl s
  · exact s.openWindow_addsNoPost i
  · dsimp only
    split
    · exact hfree.trans (State.resumeFlight_addsNoPost _ i)
    · exact hfree
  · exact .refl s

theorem State.windowEnds_addsNoPost (s : State) (i : SectionId) : s.AddsNoPost (s.windowEnds i) := by
  unfold State.windowEnds
  split
  · exact (State.AddsNoPost.ofDir (s.reach_dir _)).trans (State.attemptFailed_addsNoPost _ i)
  · exact .refl s

theorem State.answerSent_addsNoPost (s : State) (i : SectionId) : s.AddsNoPost (s.answerSent i) := by
  unfold State.answerSent
  split
  · exact s.endForeign_addsNoPost i
  · exact .refl s

theorem State.burstInWait_addsNoPost (s : State) (i : SectionId) : s.AddsNoPost (s.burstInWait i) := by
  unfold State.burstInWait
  split
  · split
    · dsimp only
      split
      · exact (s.failFlight_addsNoPost i _ _).trans (State.receivePost_addsNoPost _ i)
      · exact s.failFlight_addsNoPost i _ _
    · exact s.receivePost_addsNoPost i
  · exact s.receivePost_addsNoPost i

theorem State.burstOnOwned_addsNoPost (s : State) (i : SectionId) : s.AddsNoPost (s.burstOnOwned i) := by
  have hlead : ∀ b (t : Timer), s.AddsNoPost (if s.nowMs ≤ t.due then s.receivePost i else s.collide i b) := by
    intro b t
    split
    · exact s.receivePost_addsNoPost i
    · exact (s.modLine_byLine i _).addsNoPost
  unfold State.burstOnOwned
  split
  · exact hlead _ _
  · exact hlead _ _
  · exact s.burstInWait_addsNoPost i
  · exact (s.setExch_byLine i _).addsNoPost
  · exact .refl s

theorem State.postBurstStarts_addsNoPost (s : State) (i : SectionId) (w : SyncWord) : s.AddsNoPost (s.postBurstStarts i w) := by
  unfold State.postBurstStarts
  split
  · split
    · split
      · exact ((s.toActive_byCalls i).addsNoPost.trans (State.receivePost_addsNoPost _ i)).trans (State.finish_addsNoPost _)
      · split
        · exact s.receivePost_addsNoPost i
        · exact s.burstOnOwned_addsNoPost i
        all_goals exact .refl s
      all_goals exact .refl s
    · exact .refl s
  · exact .refl s

theorem State.replyEnds_addsNoPost (s : State) (i : SectionId) (recs : List LineRec) : s.AddsNoPost (s.replyEnds i recs) := by
  have hended := (s.burstEnded_byLine i).addsNoPost
  unfold State.replyEnds
  split
  · split
    · exact hended.trans (State.judgeReply_addsNoPost _ i _ _)
    · exact hended.trans (State.attemptFailed_addsNoPost _ i)
  · exact .refl s

theorem State.discardPost_addsNoPost (s : State) (i : SectionId) : s.AddsNoPost (s.discardPost i) := by
  unfold State.discardPost
  split
  · exact s.endForeign_addsNoPost i
  · exact (s.setExch_byLine i _).addsNoPost

theorem State.postEnds_addsNoPost (s : State) (i : SectionId) (recs : List LineRec) : s.AddsNoPost (s.postEnds i recs) := by
  have hended := (s.burstEnded_byLine i).addsNoPost
  unfold State.postEnds
  split
  · split
    · next gs _ =>
      have hhanded := hended.trans (State.handRecords_addsNoPost i gs false _)
      dsimp only
      split
      · exact hhanded.trans (State.endForeign_addsNoPost _ i)
      · exact hhanded.trans (State.sendAnswer_byLine _ i _ _).addsNoPost
    · exact hended.trans (State.discardPost_addsNoPost _ i)
  · exact .refl s

theorem State.carrierUp_addsNoPost (s : State) (i : SectionId) : s.AddsNoPost (s.carrierUp i) := by
  unfold State.carrierUp
  split
  · exact .refl s
  · exact (s.modLine_byLine i _).addsNoPost

theorem State.carrierGone_addsNoPost (s : State) (i : SectionId) : s.AddsNoPost (s.carrierGone i) := by
  have hended := (s.burstEnded_byLine i).addsNoPost
  unfold State.carrierGone
  split
  · exact (s.workArrived_byLine i).addsNoPost
  · exact s.resumeFlight_addsNoPost i
  · exact hended.trans (State.attemptFailed_addsNoPost _ i)
  · exact hended.trans (State.endForeign_addsNoPost _ i)
  · exact s.endForeign_addsNoPost i
  · exact (s.sendAnswer_byLine i _ _).addsNoPost
  all_goals exact .refl s

theorem State.carrierDown_addsNoPost (s : State) (i : SectionId) : s.AddsNoPost (s.carrierDown i) := by
  unfold State.carrierDown
  split
  · exact (s.modLine_byLine i _).addsNoPost.trans (State.carrierGone_addsNoPost _ i)
  · exact .refl s

theorem State.stuckOutcome_addsNoPost (s : State) (i : SectionId) : s.AddsNoPost (s.stuckOutcome i) := by
  have hended := (s.burstEnded_byLine i).addsNoPost
  unfold State.stuckOutcome
  split
  · exact (s.workArrived_byLine i).addsNoPost
  · exact s.resumeFlight_addsNoPost i
  · exact s.attemptFailed_addsNoPost i
  · exact hended.trans (State.attemptFailed_addsNoPost _ i)
  · exact hended.trans (State.endForeign_addsNoPost _ i)
  · exact s.endForeign_addsNoPost i
  · exact s.endForeign_addsNoPost i
  all_goals exact .refl s

theorem State.stuckLimit_addsNoPost (s : State) (i : SectionId) : s.AddsNoPost (s.stuckLimit i) := by
  unfold State.stuckLimit
  split
  · exact (State.AddsNoPost.ofDir (by simp)).trans (State.stuckOutcome_addsNoPost _ i)
  · exact .refl s

theorem State.spaceUp_addsNoPost (s : State) (i : SectionId) : s.AddsNoPost (s.spaceUp i) := by
  unfold State.spaceUp
  split
  · exact .refl s
  · exact (s.modLine_byLine i _).addsNoPost

theorem State.abandonForBreak_addsNoPost (s : State) (i : SectionId) : s.AddsNoPost (s.abandonForBreak i) := by
  have hclear := (s.clearFlight_byLine i).addsNoPost
  unfold State.abandonForBreak
  split
  · exact s.returnYielded_addsNoPost i
  · split
    · exact hclear.trans (State.returnTxn_byLine _ i _).addsNoPost
    · exact hclear

theorem State.autoTrigger_addsNoPost (s : State) (i : SectionId) : s.AddsNoPost (s.autoTrigger i) := by
  unfold State.autoTrigger
  split
  · exact (s.modSec_byLine i _).addsNoPost.trans (State.arbiter_byLine _ i).addsNoPost
  · exact .refl s

theorem State.enterBreak_addsNoPost (s : State) (i : SectionId) : s.AddsNoPost (s.enterBreak i) := by
  unfold State.enterBreak
  split
  · exact (s.modLine_byLine i _).addsNoPost
  · exact (State.AddsNoPost.ofDir (by simp)).trans (State.autoTrigger_addsNoPost _ i)

theorem State.breakTime_addsNoPost (s : State) (i : SectionId) : s.AddsNoPost (s.breakTime i) := by
  unfold State.breakTime
  split
  · exact ((State.AddsNoPost.ofDir (s.reach_dir _)).trans (State.abandonForBreak_addsNoPost _ i)).trans
      (State.enterBreak_addsNoPost _ i)
  · exact .refl s

theorem State.closeEpisode_addsNoPost (s : State) (i : SectionId) : s.AddsNoPost (s.closeEpisode i) := by
  unfold State.closeEpisode
  split
  · exact .ofDir (by simp)
  · exact .refl s

theorem State.spaceDown_addsNoPost (s : State) (i : SectionId) : s.AddsNoPost (s.spaceDown i) := by
  unfold State.spaceDown
  split
  · exact (s.closeEpisode_addsNoPost i).trans (State.modLine_byLine _ i _).addsNoPost
  · exact .refl s

theorem State.settleQuiet_addsNoPost (s : State) (i : SectionId) : s.AddsNoPost (s.settleQuiet i) := by
  unfold State.settleQuiet
  split
  · exact (State.AddsNoPost.ofDir (s.reach_dir _)).trans (State.enterIdle_addsNoPost _ i)
  · exact .refl s

theorem State.endMark_addsNoPost (s : State) (i : SectionId) : s.AddsNoPost (s.endMark i) := by
  unfold State.endMark
  split
  · exact s.enterIdle_addsNoPost i
  · exact .refl s

theorem State.takeSample_addsNoPost (s : State) (i : SectionId) (n : Nat) : s.AddsNoPost (s.takeSample i n) := by
  unfold State.takeSample
  split
  · dsimp only
    split
    · exact .ofDir (by simp [State.completeMeasure])
    · exact .ofDir (by simp)
  · exact .refl s

/-! ## Power states and the timebase -/

theorem State.enterSettling_addsNoPost (s : State) (i : SectionId) : s.AddsNoPost (s.enterSettling i) := by
  unfold State.enterSettling
  split
  · exact (s.modLine_byLine i _).addsNoPost
  · exact .refl s

theorem State.shutdownDone_addsNoPost (s : State) (i : SectionId) : s.AddsNoPost (s.shutdownDone i) := by
  unfold State.shutdownDone
  split
  · exact (s.modLine_byLine i _).addsNoPost
  · exact .refl s

theorem State.settleEnds_addsNoPost (s : State) (i : SectionId) (off : Bool) : s.AddsNoPost (s.settleEnds i off) := by
  unfold State.settleEnds
  split
  · dsimp only
    split
    · exact (State.AddsNoPost.ofDir (by simp)).trans (State.arrive_byCalls _ i .post).addsNoPost
    · exact .ofDir (by simp)
  · exact .refl s

theorem State.offHook_addsNoPost (s : State) (i : SectionId) : s.AddsNoPost (s.offHook i) := by
  unfold State.offHook
  split
  · exact (s.arrive_byCalls i _).addsNoPost
  · exact .refl s

theorem State.powerUpEnds_addsNoPost (s : State) (i : SectionId) : s.AddsNoPost (s.powerUpEnds i) := by
  unfold State.powerUpEnds
  split
  · exact .ofDir rfl
  · exact .refl s

theorem State.openDue_addsNoPost (s : State) (i : SectionId) : s.AddsNoPost (s.openDue i) := by
  unfold State.openDue
  split
  · exact (s.modSec_byLine i _).addsNoPost.trans (State.openRound_byLine _ i).addsNoPost
  · exact .refl s

theorem State.tellActive_addsNoPost (s : State) (i : SectionId) : s.AddsNoPost (s.tellActive i) :=
  (s.post_byLine i _).addsNoPost.trans (State.modSec_byLine _ i _).addsNoPost

theorem State.announceEnds_addsNoPost (s : State) (i : SectionId) : s.AddsNoPost (s.announceEnds i) := by
  unfold State.announceEnds
  split
  · next t _ _ =>
    have hup : s.AddsNoPost
        (((s.reach t.due).modLine i (fun x => { x with power := .active, wakeTimer := none })).settleIdle i) :=
      (State.AddsNoPost.ofDir rfl).trans (State.settleIdle_addsNoPost _ i)
    exact ((((hup.trans (State.tellActive_addsNoPost _ i)).trans (State.openDue_addsNoPost _ i)).trans
      (State.arbiter_byLine _ i).addsNoPost).trans (State.markDispatch_byCalls _ i).addsNoPost).trans (State.finish_addsNoPost _)
  · exact .refl s

theorem State.ageingStep_addsNoPost (s : State) (r : Nat) : s.AddsNoPost (s.ageingStep r) := by
  unfold State.ageingStep
  split
  · split
    · exact .ofDir (by simp)
    · exact .refl s
  · exact .refl s

theorem State.roundFallsDue_addsNoPost (s : State) (i : SectionId) : s.AddsNoPost (s.roundFallsDue i) := by
  have hmarked : s.AddsNoPost ((s.modSec i (fun x =>
      { x with overrun := x.overrun || x.roundDue, roundDue := true })).arrive i .schedule) :=
    (s.modSec_byLine i _).addsNoPost.trans (State.arrive_byCalls _ i _).addsNoPost
  unfold State.roundFallsDue
  split
  · split
    · exact (s.modSec_byLine i _).addsNoPost
    · exact (s.openAndAct_byLine i).addsNoPost
  · exact ((s.arrive_byCalls i _).addsNoPost.trans (State.openAndAct_byLine _ i).addsNoPost).trans (State.finish_addsNoPost _)
  · exact hmarked
  · exact hmarked
  · exact .refl s

theorem State.countdown_addsNoPost (s : State) (i : SectionId) : s.AddsNoPost (s.countdown i) := by
  unfold State.countdown
  split
  · split
    · exact (s.modSec_byLine i _).addsNoPost.trans (State.roundFallsDue_addsNoPost _ i)
    · exact .refl s
  · exact .refl s

/-! ## Call timers and channel inputs -/

theorem State.offerExpires_addsNoPost (s : State) (r : Nat) : s.AddsNoPost (s.offerExpires r) := by
  unfold State.offerExpires
  split
  · split
    · exact ((State.AddsNoPost.ofDir (s.reach_dir _)).trans (State.requeue_byCalls _ _ _).addsNoPost).trans
        (State.finish_addsNoPost _)
    · exact .refl s
  · exact .refl s

theorem State.ringExpires_addsNoPost (s : State) (r : Nat) : s.AddsNoPost (s.ringExpires r) := by
  unfold State.ringExpires
  split
  · split
    · exact ((State.AddsNoPost.ofDir (s.reach_dir _)).trans (State.endCall_byCalls _ _ _).addsNoPost).trans
        (State.finish_addsNoPost _)
    · exact .refl s
  · exact .refl s

theorem State.loseCall_addsNoPost (s : State) (c : Call) : s.AddsNoPost (s.loseCall c) := by
  unfold State.loseCall
  split
  · exact (s.endCall_byCalls c _).addsNoPost
  · exact (s.requeue_byCalls c _).addsNoPost

theorem State.readyFalls_addsNoPost (s : State) (ch : ChanId) : s.AddsNoPost (s.readyFalls ch) := by
  have hlow : s.AddsNoPost (s.setChan ch { s.chan ch with ready := false }) := .ofDir rfl
  have hlost : ∀ c, s.AddsNoPost (State.post (.channelState ch .down false .readyLost)
      ((s.setChan ch { s.chan ch with ready := false }).loseCall c)).finish :=
    fun c => ((hlow.trans (State.loseCall_addsNoPost _ c)).trans (.ofDir (State.post_dir _ _))).trans (State.finish_addsNoPost _)
  unfold State.readyFalls
  split
  · dsimp only
    split
    · exact .ofDir (by simp)
    any_goals exact hlow
    all_goals
      split
      · exact hlost _
      · exact hlow
  · exact .refl s

theorem State.readyRises_addsNoPost (s : State) (ch : ChanId) : s.AddsNoPost (s.readyRises ch) := by
  unfold State.readyRises
  split
  · exact .refl s
  · dsimp only
    split
    · exact .ofDir (by simp)
    all_goals exact .ofDir rfl

/-! ## The serial link and the resets -/

theorem State.joinBuffer_addsNoPost (s : State) (e : BufEntry) : s.AddsNoPost (s.joinBuffer e) := by
  unfold State.joinBuffer
  split
  · exact .ofDir rfl
  · exact .refl s

theorem State.frameByte_addsNoPost (s : State) (got : List Byte) : s.AddsNoPost (s.frameByte got) := by
  have hhunting : s.AddsNoPost { s with rx := .hunting } := .ofDir rfl
  unfold State.frameByte
  split
  · split
    · exact hhunting.trans (State.joinBuffer_addsNoPost _ _)
    · split
      · exact hhunting.trans (State.joinBuffer_addsNoPost _ _)
      · exact .ofDir rfl
  · exact .refl s

theorem State.receiveByte_addsNoPost (s : State) (b : Byte) : s.AddsNoPost (s.receiveByte b) := by
  unfold State.receiveByte
  split
  · exact .refl s
  · split
    · split
      · exact .ofDir rfl
      · exact .refl s
    · exact s.frameByte_addsNoPost _

theorem State.receiveBytes_addsNoPost (bs : List Byte) (s : State) : s.AddsNoPost (s.receiveBytes bs) := by
  induction bs generalizing s with
  | nil => exact .refl s
  | cons b bs ih => exact (s.receiveByte_addsNoPost b).trans (ih _)

theorem State.byteGap_addsNoPost (s : State) : s.AddsNoPost s.byteGap := by
  unfold State.byteGap
  split
  · exact (State.AddsNoPost.ofDir rfl).trans (State.joinBuffer_addsNoPost _ _)
  · exact .refl s

theorem State.noticeReply_addsNoPost (s : State) : s.AddsNoPost s.noticeReply := by
  unfold State.noticeReply
  split
  · split
    · exact .refl s
    · exact .ofDir rfl
  all_goals exact .refl s

/-- No post stands in the directory at device reset (R199, R21). -/
theorem State.postAt_reset (r : Fin 64) (c : Fin 2) : State.reset.postAt r c = none := by
  simp [State.postAt, State.entry, State.reset, Vector.get_eq_getElem]

theorem State.deviceReset_addsNoPost (s : State) : s.AddsNoPost s.deviceReset :=
  fun r c p h => absurd ((State.postAt_reset r c).symm.trans h) (by simp)

theorem State.replySent_addsNoPost (s : State) : s.AddsNoPost s.replySent := by
  unfold State.replySent
  split
  · split
    · exact s.deviceReset_addsNoPost
    · exact .ofDir rfl
  · exact .refl s

theorem State.powerSteady_addsNoPost (s : State) : s.AddsNoPost s.powerSteady :=
  (State.AddsNoPost.ofDir rfl).trans (State.deviceReset_addsNoPost _)

theorem State.cutBursts_addsNoPost (is : List SectionId) (s : State) : s.AddsNoPost (State.cutBursts is s) := by
  induction is generalizing s with
  | nil => exact .refl s
  | cons i is ih => exact (s.modLine_byLine i _).addsNoPost.trans (ih _)

theorem State.assertReset_addsNoPost (s : State) : s.AddsNoPost s.assertReset := by
  unfold State.assertReset
  split
  · exact .refl s
  · exact (State.AddsNoPost.ofDir rfl).trans (State.cutBursts_addsNoPost _ _)

theorem State.releaseReset_addsNoPost (s : State) : s.AddsNoPost s.releaseReset := by
  unfold State.releaseReset
  split
  · exact (State.AddsNoPost.ofDir rfl).trans (State.deviceReset_addsNoPost _)
  · exact .refl s


/-! ## The requests at their owners -/

theorem State.onSection_addsNoPost (s : State) (n : Nat) {act : SectionId → Answered} (h : ∀ i, s.AddsNoPost (act i).1) :
    s.AddsNoPost (s.onSection n act).1 := by
  unfold State.onSection
  split
  · split
    · exact h _
    · exact .refl s
  · exact .refl s

theorem State.onSectionInService_addsNoPost (s : State) (n : Nat) {act : SectionId → Answered}
    (h : ∀ i, s.AddsNoPost (act i).1) : s.AddsNoPost (s.onSectionInService n act).1 := by
  refine s.onSection_addsNoPost n (fun i => ?_)
  split
  · exact .refl s
  · exact h i

/-- A request that names a post acts on the entry that the lookup finds (R4). -/
theorem State.onPost_addsNoPost (s : State) (p : Nat) {act : Fin 2 → PostEntry → Answered}
    (h : ∀ c e, s.lookup p = some (c, e) → s.AddsNoPost (act c e).1) : s.AddsNoPost (s.onPost p act).1 := by
  unfold State.onPost
  split
  · split
    · next c e hl => exact h c e hl
    · exact .refl s
  · exact .refl s

theorem State.onCall_addsNoPost (s : State) (r : Nat) {act : Call → Answered} (h : ∀ c, s.AddsNoPost (act c).1) :
    s.AddsNoPost (s.onCall r act).1 := by
  unfold State.onCall
  split
  · split
    · exact h _
    · exact .refl s
  · exact .refl s

theorem State.refuseNamed_addsNoPost (s : State) (st : Status) (r : Nat) : s.AddsNoPost (s.refuseNamed st r).1 := by
  unfold State.refuseNamed
  split
  · split <;> exact .refl s
  · exact .refl s

theorem State.beginServices_addsNoPost (is : List SectionId) (s : State) : s.AddsNoPost (State.beginServices is s) := by
  induction is generalizing s with
  | nil => exact .refl s
  | cons i is ih => exact (s.beginService_byLine i).addsNoPost.trans (ih _)

theorem State.startAct_addsNoPost (s : State) : s.AddsNoPost s.startAct.1 := by
  unfold State.startAct
  split
  · exact .refl s
  · exact (State.AddsNoPost.ofDir rfl).trans (State.beginServices_addsNoPost _ _)

theorem State.setGlobalsAct_addsNoPost (s : State) (g : RawGlobals) : s.AddsNoPost (s.setGlobalsAct g).1 := by
  unfold State.setGlobalsAct
  split
  · exact (State.AddsNoPost.ofDir rfl).trans (State.finish_addsNoPost _)
  · exact .refl s

theorem State.defineSectionAct_addsNoPost (s : State) (n : Nat) (d : RawSection) : s.AddsNoPost (s.defineSectionAct n d).1 := by
  unfold State.defineSectionAct
  split
  · split
    · exact .refl s
    · split
      · exact .refl s
      · exact (s.modSec_byLine _ _).addsNoPost
  · exact .refl s

theorem State.setTimingAct_addsNoPost (s : State) (n : Nat) (t : RawTiming) : s.AddsNoPost (s.setTimingAct n t).1 := by
  refine s.onSection_addsNoPost n (fun i => ?_)
  split
  · exact (s.modSec_byLine i _).addsNoPost
  · exact s.applyTiming_addsNoPost i _

theorem State.serviceInAct_addsNoPost (s : State) (n d f : Nat) : s.AddsNoPost (s.serviceInAct n d f).1 := by
  unfold State.serviceInAct
  split
  · refine s.onSection_addsNoPost n (fun i => ?_)
    dsimp only
    split
    · exact (s.beginService_byLine i).addsNoPost
    · exact .refl s
  · exact .refl s

theorem State.endCalls_addsNoPost (e : EndCause) (cs : List Call) (s : State) : s.AddsNoPost (State.endCalls e cs s) := by
  induction cs generalizing s with
  | nil => exact .refl s
  | cons c cs ih => exact (s.endCall_byCalls c e).addsNoPost.trans (ih _)

theorem State.endCallsQuietly_addsNoPost (e : EndCause) (cs : List Call) (s : State) :
    s.AddsNoPost (State.endCallsQuietly e cs s) := by
  induction cs generalizing s with
  | nil => exact .refl s
  | cons c cs ih => exact (s.endCallQuietly_byCalls c e).addsNoPost.trans (ih _)

theorem State.takeOut_addsNoPost (s : State) (i : SectionId) : s.AddsNoPost (s.takeOut i) :=
  ((((((s.abortQueue_byLine i).addsNoPost.trans (State.modLine_byLine _ i _).addsNoPost).trans
    (State.post_byLine _ i _).addsNoPost).trans (State.applyPending_addsNoPost _ i)).trans
    (State.endCalls_addsNoPost _ _ _)).trans (State.reportAborted_addsNoPost i _ _)).trans (State.finish_addsNoPost _)

theorem State.serviceOutAct_addsNoPost (s : State) (n d f : Nat) : s.AddsNoPost (s.serviceOutAct n d f).1 := by
  unfold State.serviceOutAct
  split
  · refine s.onSection_addsNoPost n (fun i => ?_)
    split
    · exact .refl s
    · split
      · exact s.takeOut_addsNoPost i
      · exact .refl s
  · exact .refl s

theorem State.resetLine_addsNoPost (s : State) (i : SectionId) : s.AddsNoPost (s.resetLine i) := by
  unfold State.resetLine
  split
  · exact (s.modLine_byLine i _).addsNoPost
  · exact (s.startWake_byLine i _).addsNoPost

theorem State.resetSection_addsNoPost (s : State) (i : SectionId) : s.AddsNoPost (s.resetSection i) :=
  ((((((s.abortQueue_byLine i).addsNoPost.trans (State.endCallsQuietly_addsNoPost _ _ _)).trans
    (State.modSec_byLine _ i _).addsNoPost).trans (State.applyPending_addsNoPost _ i)).trans
    (State.resetLine_addsNoPost _ i)).trans (State.reportAborted_addsNoPost i _ _)).trans (State.finish_addsNoPost _)

theorem State.forceIdleAct_addsNoPost (s : State) (n : Nat) : s.AddsNoPost (s.forceIdleAct n).1 := by
  refine s.onSectionInService_addsNoPost n (fun i => ?_)
  dsimp only
  split
  · exact s.enterIdle_addsNoPost i
  · exact .refl s

theorem State.pollNowAct_addsNoPost (s : State) (n : Nat) : s.AddsNoPost (s.pollNowAct n).1 := by
  refine s.onSectionInService_addsNoPost n (fun i => ?_)
  have hmarked : s.AddsNoPost ((s.modSec i (fun x => { x with roundDue := true })).arrive i .host) :=
    (s.modSec_byLine i _).addsNoPost.trans (State.arrive_byCalls _ i _).addsNoPost
  split
  · split
    · exact .refl s
    · exact (s.openAndAct_byLine i).addsNoPost
  · exact ((s.arrive_byCalls i _).addsNoPost.trans (State.openAndAct_byLine _ i).addsNoPost).trans (State.finish_addsNoPost _)
  · exact hmarked
  · exact hmarked
  · exact .refl s

theorem State.measureAct_addsNoPost (s : State) (n : Nat) : s.AddsNoPost (s.measureAct n).1 := by
  refine s.onSectionInService_addsNoPost n (fun i => ?_)
  split
  · exact .refl s
  · exact (((s.arrive_byCalls i _).addsNoPost.trans (State.modSec_byLine _ i _).addsNoPost).trans
      (State.arbiter_byLine _ i).addsNoPost).trans (State.finish_addsNoPost _)

/-- REMOVE POST empties the post's entry (R11). -/
theorem State.removePostAct_addsNoPost (s : State) (p : Nat) : s.AddsNoPost (s.removePostAct p).1 := by
  refine s.onPost_addsNoPost p (fun c e _ => ?_)
  split
  · exact .refl s
  · exact (State.AddsNoPost.ofDir (s.setSlot_dir _ _ _)).trans (State.setEntry_addsNoPost (fun _ h => nomatch h))

/-- SUSPEND POST and RESUME POST write the service state of the post's entry (R12). -/
theorem State.setServiceAct_addsNoPost (s : State) (p : Nat) (st : ServiceState) : s.AddsNoPost (s.setServiceAct p st).1 := by
  refine s.onPost_addsNoPost p (fun c e hl => State.setEntry_addsNoPost (fun q hq => ?_))
  obtain ⟨he, -⟩ := State.entry_of_lookup hl
  exact State.postAt_eq_some.2 ⟨e, he, Option.some.inj hq⟩

theorem State.hostEntry_addsNoPost (s : State) (i : SectionId) (f : List Txn → List Txn) : s.AddsNoPost (s.hostEntry i f) :=
  (((s.arrive_byCalls i _).addsNoPost.trans (State.modQueue_byLine _ i f).addsNoPost).trans
    (State.workArrived_byLine _ i).addsNoPost).trans (State.finish_addsNoPost _)

theorem State.lampAct_addsNoPost (s : State) (p n : Nat) : s.AddsNoPost (s.lampAct p n).1 := by
  unfold State.lampAct
  split
  · refine s.onPost_addsNoPost p (fun c e _ => ?_)
    split
    · exact .refl s
    · split
      · exact .refl s
      · exact s.hostEntry_addsNoPost _ _
  · exact .refl s

theorem State.messageAct_addsNoPost (s : State) (p : Nat) (text : List Byte) : s.AddsNoPost (s.messageAct p text).1 := by
  refine s.onPost_addsNoPost p (fun c e _ => ?_)
  split
  · exact .refl s
  · split
    · exact .refl s
    · exact s.hostEntry_addsNoPost _ _

theorem State.refuseDirection_addsNoPost (s : State) (n : Nat) : s.AddsNoPost (s.refuseDirection n).1 := by
  unfold State.refuseDirection
  split <;> exact .refl s

theorem State.setChannelOutAct_addsNoPost (s : State) (n d : Nat) : s.AddsNoPost (s.setChannelOutAct n d).1 := by
  unfold State.setChannelOutAct
  split
  · next ch _ =>
    have hout : s.AddsNoPost ((s.setChan ch { s.chan ch with state := .out }).post
        (.channelState ch .out (s.chan ch).ready .setOut)) := .ofDir (by simp)
    dsimp only
    split
    · exact hout
    · exact hout
    all_goals exact .refl s
  · exact s.refuseDirection_addsNoPost n

theorem State.setChannelInAct_addsNoPost (s : State) (n d : Nat) : s.AddsNoPost (s.setChannelInAct n d).1 := by
  unfold State.setChannelInAct
  split
  · dsimp only
    split
    · split
      · exact .ofDir (by simp)
      · exact .ofDir (by simp)
    · exact .refl s
  · exact s.refuseDirection_addsNoPost n

theorem State.connectFinish_addsNoPost (s : State) (c : Call) (ch : ChanId) : s.AddsNoPost (s.connect c ch).finish :=
  (s.connect_byCalls c ch).addsNoPost.trans (State.finish_addsNoPost _)

theorem State.endCallFinish_addsNoPost (s : State) (c : Call) (e : EndCause) : s.AddsNoPost (s.endCall c e).finish :=
  (s.endCall_byCalls c e).addsNoPost.trans (State.finish_addsNoPost _)

theorem State.answerAct_addsNoPost (s : State) (r : Nat) : s.AddsNoPost (s.answerAct r).1 := by
  refine s.onCall_addsNoPost r (fun c => ?_)
  split
  · exact s.connectFinish_addsNoPost c _
  · exact .refl s

theorem State.pickAct_addsNoPost (s : State) (r n : Nat) : s.AddsNoPost (s.pickAct r n).1 := by
  unfold State.pickAct
  split
  · refine s.onCall_addsNoPost r (fun c => ?_)
    split
    · split
      · split
        · exact s.connectFinish_addsNoPost c _
        · exact .refl s
      · exact .refl s
    · exact .refl s
  · exact s.refuseNamed_addsNoPost _ r

theorem State.parkAct_addsNoPost (s : State) (r : Nat) : s.AddsNoPost (s.parkAct r).1 := by
  refine s.onCall_addsNoPost r (fun c => ?_)
  split
  · exact (s.parkCall_byCalls c _).addsNoPost.trans (State.finish_addsNoPost _)
  · exact .refl s

theorem State.retrieveAct_addsNoPost (s : State) (r n : Nat) : s.AddsNoPost (s.retrieveAct r n).1 := by
  unfold State.retrieveAct
  split
  · refine s.onCall_addsNoPost r (fun c => ?_)
    split
    · split
      · exact s.connectFinish_addsNoPost c _
      · exact .refl s
    · exact .refl s
  · exact s.refuseNamed_addsNoPost _ r

theorem State.clearAct_addsNoPost (s : State) (r : Nat) : s.AddsNoPost (s.clearAct r).1 := by
  refine s.onCall_addsNoPost r (fun c => ?_)
  split
  · exact .refl s
  · exact s.endCallFinish_addsNoPost c _

theorem State.dismissAct_addsNoPost (s : State) (r : Nat) : s.AddsNoPost (s.dismissAct r).1 := by
  refine s.onCall_addsNoPost r (fun c => ?_)
  split
  · exact s.endCallFinish_addsNoPost c _
  · exact .refl s

theorem State.ringFinish_addsNoPost (s : State) (c : Call) (ch : ChanId) : s.AddsNoPost (s.ring c ch).finish :=
  (s.ring_byCalls c ch).addsNoPost.trans (State.finish_addsNoPost _)

theorem State.ringNew_addsNoPost (s : State) (i : SectionId) (a : Addr) (ch : ChanId) : s.AddsNoPost (s.ringNew i a ch).1 :=
  (s.addCall_byCalls i _).addsNoPost.trans (State.ringFinish_addsNoPost _ _ ch)

theorem State.callEntry_addsNoPost (s : State) (e : PostEntry) (ch : Option ChanId) : s.AddsNoPost (s.callEntry e ch).1 := by
  unfold State.callEntry
  split
  · split
    · split
      · exact .refl s
      · split
        · exact s.ringFinish_addsNoPost _ _
        · exact .refl s
    · exact .refl s
  · split
    · exact .refl s
    · split
      · split
        · exact s.ringNew_addsNoPost _ _ _
        · split
          · exact (s.endCall_byCalls _ _).addsNoPost.trans (State.ringNew_addsNoPost _ _ _ _)
          · exact .refl s
      · exact .refl s

theorem State.callPostAct_addsNoPost (s : State) (p n : Nat) : s.AddsNoPost (s.callPostAct p n).1 := by
  unfold State.callPostAct
  split
  · refine s.onPost_addsNoPost p (fun c e _ => ?_)
    split
    · exact .refl s
    · exact s.callEntry_addsNoPost e _
  · exact .refl s

theorem State.getEventAct_addsNoPost (s : State) : s.AddsNoPost s.getEventAct.1 := by
  unfold State.getEventAct
  split
  · exact .ofDir rfl
  · exact .refl s

theorem State.readHistoryAct_addsNoPost (s : State) (n : Nat) : s.AddsNoPost (s.readHistoryAct n).1 := by
  unfold State.readHistoryAct
  split <;> exact .refl s

/-! ## What a step does to the rows -/

/-- What R2 asks of a step: it keeps the rows' law, and under that law a post that has an entry on both sides keeps its column. -/
def State.RowsKept (s t : State) : Prop :=
  s.RowLaw → t.RowLaw ∧ ∀ p c d, s.postAt (rowOf p) c = some p → t.postAt (rowOf p) d = some p → d = c

theorem State.AddsNoPost.rowsKept {s t : State} (h : s.AddsNoPost t) : s.RowsKept t := by
  intro hs
  obtain ⟨hrow, hone⟩ := s.rowLaw_iff.1 hs
  refine ⟨t.rowLaw_iff.2 ⟨fun r c p hp => hrow r c p (h r c p hp), fun r p h0 h1 => ?_⟩, fun p c d hc hd => ?_⟩
  · exact hone r p (h r 0 p h0) (h r 1 p h1)
  · exact hs.column_eq (h _ _ _ hd) hc

/-- Only the directory's entries enter. -/
theorem State.RowsKept.ofDir {s s' t t' : State} (h : s.RowsKept t) (hs : s'.dir = s.dir) (ht : t'.dir = t.dir) :
    s'.RowsKept t' := by
  unfold State.RowsKept at *
  simp only [State.rowLaw_iff, State.postAt_ofDir hs, State.postAt_ofDir ht] at *
  exact h

/-- A post that the lookup misses is written into an entry of its row (R8). -/
theorem State.setEntry_rowsKept {s : State} {e : PostEntry} (c : Fin 2) (hnew : s.lookup e.post = none) :
    s.RowsKept (s.setEntry (rowOf e.post) c (some e)) := by
  have habsent := State.postAt_of_lookup_eq_none hnew
  have hstood : ∀ r d p, (s.setEntry (rowOf e.post) c (some e)).postAt r d = some p →
      s.postAt r d = some p ∨ (p = e.post ∧ r = rowOf e.post ∧ d = c) := by
    intro r d p hp
    rw [State.postAt_setEntry] at hp
    split at hp
    · next h => exact .inr ⟨(Option.some.inj hp).symm, h.1.symm, h.2.symm⟩
    · exact .inl hp
  intro hs
  obtain ⟨hrow, hone⟩ := s.rowLaw_iff.1 hs
  refine ⟨(State.rowLaw_iff _).2 ⟨fun r d p hp => ?_, fun r p h0 h1 => ?_⟩, fun p d d' hd hd' => ?_⟩
  · rcases hstood r d p hp with h | ⟨rfl, rfl, -⟩
    · exact hrow r d p h
    · rfl
  · rcases hstood r 0 p h0 with h0 | ⟨rfl, rfl, hc⟩
    · rcases hstood r 1 p h1 with h1 | ⟨rfl, rfl, -⟩
      · exact hone r p h0 h1
      · exact habsent 0 h0
    · rcases hstood _ 1 _ h1 with h1 | ⟨-, -, hc'⟩
      · exact habsent 1 h1
      · exact absurd (hc.trans hc'.symm) (by decide)
  · rcases hstood _ d' p hd' with h | ⟨rfl, -, -⟩
    · exact hs.column_eq h hd
    · exact absurd hd (habsent d)

theorem State.placePost_rowsKept {s : State} {e : PostEntry} (c : Fin 2) (hnew : s.lookup e.post = none) :
    s.RowsKept (s.placePost e c) := (s.setEntry_rowsKept c hnew).ofDir rfl (State.setSlot_dir _ _ _ _)

/-- A redefined post is written where it stands (R9). -/
theorem State.redefinePost_addsNoPost {s : State} {e old : PostEntry} {c : Fin 2} (hold : s.lookup e.post = some (c, old)) :
    s.AddsNoPost (s.redefinePost old c e) := by
  have hemptied : s.AddsNoPost (s.setSlot old.sec old.addr none) := .ofDir (s.setSlot_dir _ _ _)
  have hwritten : (s.setSlot old.sec old.addr none).AddsNoPost ((s.setSlot old.sec old.addr none).setEntry (rowOf e.post) c
      (some { e with service := old.service })) := by
    refine State.setEntry_addsNoPost (fun p hp => ?_)
    rw [State.postAt_ofDir (s.setSlot_dir _ _ _), ← Option.some.inj hp]
    exact State.postAt_of_lookup hold
  exact (hemptied.trans hwritten).trans (.ofDir (State.setSlot_dir _ _ _ _))

theorem State.defineChecked_rowsKept (s : State) (e : PostEntry) : s.RowsKept (s.defineChecked e).1 := by
  unfold State.defineChecked
  split
  · exact (State.AddsNoPost.refl s).rowsKept
  · split
    · next c old hold =>
      split
      · exact (State.AddsNoPost.refl s).rowsKept
      · split
        · exact (State.AddsNoPost.refl s).rowsKept
        · exact (State.redefinePost_addsNoPost hold).rowsKept
    · next hnew =>
      split
      · exact (State.AddsNoPost.refl s).rowsKept
      · split
        · exact State.placePost_rowsKept _ hnew
        · exact (State.AddsNoPost.refl s).rowsKept

theorem State.definePostAct_rowsKept (s : State) (p : RawPost) : s.RowsKept (s.definePostAct p).1 := by
  unfold State.definePostAct
  split
  · split
    · exact s.defineChecked_rowsKept _
    · exact (State.AddsNoPost.refl s).rowsKept
  · exact (State.AddsNoPost.refl s).rowsKept

/-- Taking and answering a request touches no entry: what it does to the rows is what its owner does. -/
theorem State.request_rowsKept (s : State) {k : ReqKind} {h : Hdr} {body : List Byte} {want : Nat} {act : State → Answered}
    (ha : ∀ u : State, u.RowsKept (act u).1) : s.RowsKept (s.request k h body want act) := by
  have hsame : ∀ {t : State}, t.dir = s.dir → s.RowsKept t := fun ht => (State.AddsNoPost.ofDir ht).rowsKept
  unfold State.request
  split
  · dsimp only
    split
    · exact hsame rfl
    · split
      · exact (ha (s.take k h body)).ofDir rfl rfl
      · exact hsame rfl
  · exact hsame rfl

theorem State.request_rowsKept_of_addsNoPost (s : State) {k : ReqKind} {h : Hdr} {body : List Byte} {want : Nat}
    {act : State → Answered} (ha : ∀ u : State, u.AddsNoPost (act u).1) : s.RowsKept (s.request k h body want act) :=
  s.request_rowsKept (fun u => (ha u).rowsKept)

/-- Every command answers a next state, and keeps the rows (R2); DEFINE POST is the one that brings a post in. -/
theorem exec_rowsKept (c : Instr) (s : State) : ∃ t, exec c s = .next t ∧ s.RowsKept t :=
  match c with
  | .definePost _ p => ⟨_, rfl, s.request_rowsKept (fun u => u.definePostAct_rowsKept p)⟩
  | .identify _ => ⟨_, rfl, s.request_rowsKept_of_addsNoPost .refl⟩
  | .reset _ => ⟨_, rfl, s.request_rowsKept_of_addsNoPost .refl⟩
  | .start _ => ⟨_, rfl, s.request_rowsKept_of_addsNoPost State.startAct_addsNoPost⟩
  | .setGlobals _ g => ⟨_, rfl, s.request_rowsKept_of_addsNoPost (·.setGlobalsAct_addsNoPost g)⟩
  | .defineSection _ n d => ⟨_, rfl, s.request_rowsKept_of_addsNoPost (·.defineSectionAct_addsNoPost n d)⟩
  | .setSectionTiming _ n t => ⟨_, rfl, s.request_rowsKept_of_addsNoPost (·.setTimingAct_addsNoPost n t)⟩
  | .sectionServiceIn _ n d f => ⟨_, rfl, s.request_rowsKept_of_addsNoPost (·.serviceInAct_addsNoPost n d f)⟩
  | .sectionServiceOut _ n d f => ⟨_, rfl, s.request_rowsKept_of_addsNoPost (·.serviceOutAct_addsNoPost n d f)⟩
  | .sectionReset _ n => ⟨_, rfl, s.request_rowsKept_of_addsNoPost
      (fun u => u.onSectionInService_addsNoPost n u.resetSection_addsNoPost)⟩
  | .forceIdle _ n => ⟨_, rfl, s.request_rowsKept_of_addsNoPost (·.forceIdleAct_addsNoPost n)⟩
  | .removePost _ p => ⟨_, rfl, s.request_rowsKept_of_addsNoPost (·.removePostAct_addsNoPost p)⟩
  | .suspendPost _ p => ⟨_, rfl, s.request_rowsKept_of_addsNoPost (·.setServiceAct_addsNoPost p _)⟩
  | .resumePost _ p => ⟨_, rfl, s.request_rowsKept_of_addsNoPost (·.setServiceAct_addsNoPost p _)⟩
  | .lamp _ p n => ⟨_, rfl, s.request_rowsKept_of_addsNoPost (·.lampAct_addsNoPost p n)⟩
  | .message _ p _ text => ⟨_, rfl, s.request_rowsKept_of_addsNoPost (·.messageAct_addsNoPost p text)⟩
  | .pollNow _ n => ⟨_, rfl, s.request_rowsKept_of_addsNoPost (·.pollNowAct_addsNoPost n)⟩
  | .measure _ n => ⟨_, rfl, s.request_rowsKept_of_addsNoPost (·.measureAct_addsNoPost n)⟩
  | .setChannelOut _ n d => ⟨_, rfl, s.request_rowsKept_of_addsNoPost (·.setChannelOutAct_addsNoPost n d)⟩
  | .setChannelIn _ n d => ⟨_, rfl, s.request_rowsKept_of_addsNoPost (·.setChannelInAct_addsNoPost n d)⟩
  | .answer _ r => ⟨_, rfl, s.request_rowsKept_of_addsNoPost (·.answerAct_addsNoPost r)⟩
  | .pick _ r n => ⟨_, rfl, s.request_rowsKept_of_addsNoPost (·.pickAct_addsNoPost r n)⟩
  | .park _ r => ⟨_, rfl, s.request_rowsKept_of_addsNoPost (·.parkAct_addsNoPost r)⟩
  | .retrieve _ r n => ⟨_, rfl, s.request_rowsKept_of_addsNoPost (·.retrieveAct_addsNoPost r n)⟩
  | .clear _ r => ⟨_, rfl, s.request_rowsKept_of_addsNoPost (·.clearAct_addsNoPost r)⟩
  | .callPost _ p n => ⟨_, rfl, s.request_rowsKept_of_addsNoPost (·.callPostAct_addsNoPost p n)⟩
  | .dismiss _ r => ⟨_, rfl, s.request_rowsKept_of_addsNoPost (·.dismissAct_addsNoPost r)⟩
  | .getEvent _ => ⟨_, rfl, s.request_rowsKept_of_addsNoPost State.getEventAct_addsNoPost⟩
  | .listCalls _ => ⟨_, rfl, s.request_rowsKept_of_addsNoPost .refl⟩
  | .readCall _ r => ⟨_, rfl, s.request_rowsKept_of_addsNoPost (fun u => u.onCall_addsNoPost r (fun _ => .refl u))⟩
  | .readPost _ p => ⟨_, rfl, s.request_rowsKept_of_addsNoPost (fun u => u.onPost_addsNoPost p (fun _ _ _ => .refl u))⟩
  | .readSection _ n => ⟨_, rfl, s.request_rowsKept_of_addsNoPost (fun u => u.onSection_addsNoPost n (fun _ => .refl u))⟩
  | .readChannels _ => ⟨_, rfl, s.request_rowsKept_of_addsNoPost .refl⟩
  | .readUnresolved _ => ⟨_, rfl, s.request_rowsKept_of_addsNoPost (fun _ => .ofDir rfl)⟩
  | .readHistory _ n => ⟨_, rfl, s.request_rowsKept_of_addsNoPost (·.readHistoryAct_addsNoPost n)⟩
  | .readMeasurement _ n =>
    ⟨_, rfl, s.request_rowsKept_of_addsNoPost (fun u => u.onSection_addsNoPost n (fun _ => .refl u))⟩
  | .frameReceived bs => ⟨_, rfl, (s.receiveBytes_addsNoPost bs).rowsKept⟩
  | .frameByteGap => ⟨_, rfl, s.byteGap_addsNoPost.rowsKept⟩
  | .discardNoticeReply => ⟨_, rfl, s.noticeReply_addsNoPost.rowsKept⟩
  | .replySent => ⟨_, rfl, s.replySent_addsNoPost.rowsKept⟩
  | .powerSteady => ⟨_, rfl, s.powerSteady_addsNoPost.rowsKept⟩
  | .resetInputAsserted => ⟨_, rfl, s.assertReset_addsNoPost.rowsKept⟩
  | .resetInputReleased => ⟨_, rfl, s.releaseReset_addsNoPost.rowsKept⟩
  | .secondsTick => ⟨_, rfl, (State.AddsNoPost.ofDir s.tickSecond_dir).rowsKept⟩
  | .ageingStep r => ⟨_, rfl, (s.ageingStep_addsNoPost r).rowsKept⟩
  | .pollCountdownExpiry i => ⟨_, rfl, (s.countdown_addsNoPost i).rowsKept⟩
  | .enterSettling i => ⟨_, rfl, (s.enterSettling_addsNoPost i).rowsKept⟩
  | .shutdownSent i => ⟨_, rfl, (s.shutdownDone_addsNoPost i).rowsKept⟩
  | .settleTimerExpiry i off => ⟨_, rfl, (s.settleEnds_addsNoPost i off).rowsKept⟩
  | .offHookDetected i => ⟨_, rfl, (s.offHook_addsNoPost i).rowsKept⟩
  | .powerUpEnd i => ⟨_, rfl, (s.powerUpEnds_addsNoPost i).rowsKept⟩
  | .announceEnd i => ⟨_, rfl, (s.announceEnds_addsNoPost i).rowsKept⟩
  | .leadWindowEnd i => ⟨_, rfl, (s.leadEnds_addsNoPost i).rowsKept⟩
  | .transactionBurstSent i => ⟨_, rfl, (s.burstSent_addsNoPost i).rowsKept⟩
  | .replyWindowExpiry i => ⟨_, rfl, (s.windowEnds_addsNoPost i).rowsKept⟩
  | .postBurstStart i w => ⟨_, rfl, (s.postBurstStarts_addsNoPost i w).rowsKept⟩
  | .replyBurstEnd i recs => ⟨_, rfl, (s.replyEnds_addsNoPost i recs).rowsKept⟩
  | .postBurstEnd i recs => ⟨_, rfl, (s.postEnds_addsNoPost i recs).rowsKept⟩
  | .answerBurstSent i => ⟨_, rfl, (s.answerSent_addsNoPost i).rowsKept⟩
  | .carrierAppears i => ⟨_, rfl, (s.carrierUp_addsNoPost i).rowsKept⟩
  | .carrierDrops i => ⟨_, rfl, (s.carrierDown_addsNoPost i).rowsKept⟩
  | .stuckLimit i => ⟨_, rfl, (s.stuckLimit_addsNoPost i).rowsKept⟩
  | .spaceAppears i => ⟨_, rfl, (s.spaceUp_addsNoPost i).rowsKept⟩
  | .breakTime i => ⟨_, rfl, (s.breakTime_addsNoPost i).rowsKept⟩
  | .spaceEnds i => ⟨_, rfl, (s.spaceDown_addsNoPost i).rowsKept⟩
  | .settleQuiet i => ⟨_, rfl, (s.settleQuiet_addsNoPost i).rowsKept⟩
  | .endMarkObserved i => ⟨_, rfl, (s.endMark_addsNoPost i).rowsKept⟩
  | .sampleTaken i n => ⟨_, rfl, (s.takeSample_addsNoPost i n).rowsKept⟩
  | .offerTimeout r => ⟨_, rfl, (s.offerExpires_addsNoPost r).rowsKept⟩
  | .ringTimeout r => ⟨_, rfl, (s.ringExpires_addsNoPost r).rowsKept⟩
  | .readyLost ch => ⟨_, rfl, (s.readyFalls_addsNoPost ch).rowsKept⟩
  | .readyRegained ch => ⟨_, rfl, (s.readyRises_addsNoPost ch).rowsKept⟩
  | .byteReceived b => ⟨_, rfl, (s.receiveByte_addsNoPost b).rowsKept⟩

theorem step_rowsKept {s t : State} (h : step s = .next t) : s.RowsKept t := by
  unfold step at h
  split at h
  · cases h
    exact (State.AddsNoPost.ofDir s.tickMs_dir).rowsKept
  · next c q _ =>
    obtain ⟨u, hu, hkept⟩ := exec_rowsKept c { s with pending := q }
    cases hu.symm.trans h
    exact hkept.ofDir rfl rfl

/-- The row hash on numbers (R2). -/
theorem rowOf_val (p : Nat) : (rowOf p).val = (p % 64) ^^^ ((p / 64) % 64) := by
  change (BitVec.ofNat 6 p ^^^ BitVec.ofNat 6 (p / 64)).toNat = _
  rw [BitVec.toNat_xor, BitVec.toNat_ofNat, BitVec.toNat_ofNat]

theorem State.reset_rowLaw : State.reset.RowLaw :=
  State.reset.rowLaw_iff.2 ⟨fun r c p h => absurd ((State.postAt_reset r c).symm.trans h) (by simp),
    fun r p h => absurd ((State.postAt_reset r 0).symm.trans h) (by simp)⟩

/-- Settles O23: the hash is arithmetic, and each command but DEFINE POST brings no post into the directory; DEFINE POST brings
one in where the lookup misses it. -/
theorem postsLieInTheirHashedRows : Obligations.PostsLieInTheirHashedRows := by
  unfold Obligations.PostsLieInTheirHashedRows
  refine ⟨rowOf_val, fun s t hs hstep => ?_, State.reset_rowLaw⟩
  obtain ⟨hlaw, hcolumn⟩ := step_rowsKept hstep hs
  exact ⟨hlaw, fun p c e c' e' h h' => hcolumn p c c' (State.postAt_of_lookup h) (State.postAt_of_lookup h')⟩

end Sys2Proof.Machine
end

section
/-! SUPPORT. The rounded division of the location calculator (R23): its two cases, and that it answers the nearest whole number. -/

namespace Sys2Proof.Machine

/-! ## Rounding -/

theorem roundDiv_of_half_le {n d : Nat} (h : d ≤ 2 * (n % d)) : roundDiv n d = n / d + 1 := if_pos h

theorem roundDiv_of_lt_half {n d : Nat} (h : 2 * (n % d) < d) : roundDiv n d = n / d := if_neg (Nat.not_le.2 h)

/-- A remainder of 0 gives the plain quotient (R23). -/
theorem roundDiv_of_mod_eq_zero {n d : Nat} (hd : 1 ≤ d) (h : n % d = 0) : roundDiv n d = n / d :=
  roundDiv_of_lt_half (by omega)

/-- N / D lies less than one half above round(N / D); both sides are multiplied by 2 × D. -/
theorem two_mul_lt_roundDiv (n : Nat) {d : Nat} (hd : 1 ≤ d) : 2 * n < (2 * roundDiv n d + 1) * d := by
  have hdiv := Nat.div_add_mod n d
  have hr : n % d < d := Nat.mod_lt n hd
  rcases Nat.lt_or_ge (2 * (n % d)) d with hdown | hup
  · rw [roundDiv_of_lt_half hdown]
    linarith only [hdiv, hdown]
  · rw [roundDiv_of_half_le hup]
    linarith only [hdiv, hr]

/-- round(N / D) lies at most one half above N / D, and a half is rounded up; both sides are multiplied by 2 × D. -/
theorem roundDiv_le_two_mul (n d : Nat) : 2 * roundDiv n d * d ≤ 2 * n + d := by
  have hdiv := Nat.div_add_mod n d
  rcases Nat.lt_or_ge (2 * (n % d)) d with hdown | hup
  · rw [roundDiv_of_lt_half hdown]
    linarith only [hdiv, Nat.zero_le (n % d), Nat.zero_le d]
  · rw [roundDiv_of_half_le hup]
    linarith only [hdiv, hup]

/-- Settles O59: rounding by its two cases, the remainder below one half of the divisor or not; the row hash and the ageing
steps are plain quotients. -/
theorem roundingIsToTheNearestHalvesUpward : Obligations.RoundingIsToTheNearestHalvesUpward := by
  unfold Obligations.RoundingIsToTheNearestHalvesUpward
  exact ⟨fun n d hd => ⟨rfl, roundDiv_of_mod_eq_zero hd, two_mul_lt_roundDiv n hd, roundDiv_le_two_mul n d⟩,
    rowOf_val, fun _ _ => rfl⟩

end Sys2Proof.Machine
end

section
/-! SUPPORT. The event queue at its two ends: what a posting stores or loses (R180), what GET EVENT removes (R182), and the two
meeting (R183). -/

namespace Sys2Proof.Machine

/-! ## Posting to the queue -/

theorem State.attn_eq_false_iff (s : State) : s.attn = false ↔ s.events = [] := by
  simp [State.attn]

theorem bumpTail_concat (es : List Event) (l : Event) :
    bumpTail (es ++ [l]) = es ++ [{ l with lostAfter := min 255 (l.lostAfter + 1) }] := by
  match es with
  | [] => rfl
  | [e] => rfl
  | e :: f :: r => exact congrArg (e :: ·) (bumpTail_concat (f :: r) l)

/-- While there is room, a posting stores its record behind the tail (R179). -/
theorem State.post_events_of_room (b : EventBody) {s : State} (hs : s.silent = false) (hroom : s.events.length < Config.eventDepth) :
    (s.post b).events = s.events ++ [⟨b, s.seconds, 0⟩] := by
  unfold State.post
  rw [if_neg (by simp [hs]), if_pos hroom]

/-- In a full queue a posting is lost on the tail (R180). -/
theorem State.post_events_of_full (b : EventBody) {s : State} (hs : s.silent = false) (hfull : Config.eventDepth ≤ s.events.length)
    {es : List Event} {l : Event} (he : s.events = es ++ [l]) :
    (s.post b).events = es ++ [{ l with lostAfter := min 255 (l.lostAfter + 1) }] := by
  unfold State.post
  rw [if_neg (by simp [hs]), if_neg (Nat.not_lt.2 hfull)]
  exact (congrArg bumpTail he).trans (bumpTail_concat es l)

/-! ## When the HLI takes a request -/

theorem State.silent_of_takes {s : State} {k : ReqKind} {h : Hdr} {body : List Byte} (ht : s.takes k h body = true) :
    s.silent = false := by
  simp only [State.takes, Bool.and_eq_true, Bool.not_eq_true'] at ht
  obtain ⟨⟨hsilent, -⟩, -⟩ := ht
  exact hsilent

/-- A posting does not enter into what the HLI can take. -/
@[simp] theorem State.takes_post (b : EventBody) (s : State) (k : ReqKind) (h : Hdr) (body : List Byte) :
    (s.post b).takes k h body = s.takes k h body := by
  simp [State.takes, State.headIs]

/-- A GET EVENT that is the untaken head of the buffer can be taken when no reply is being sent (R189). -/
theorem State.takes_getEvent_of_head {s : State} {h : Hdr} {rest : List BufEntry} (hs : s.silent = false)
    (hr : s.reply = none) (hh : s.headTaken = false) (hb : s.buffer = .request 0x50#8 h.tag [] :: rest) (hl : h.len = 0) :
    s.takes .getEvent h [] = true := by
  simp [State.takes, State.headIs, hs, hr, hh, hb, hl, ReqKind.code]

/-- The last byte of a reply other than RESET's frees the buffer's head (R188). -/
theorem State.replySent_of_reply {s : State} {r : Reply} (hr : s.reply = some r) (hn : r.isReset = false) :
    s.replySent =
      { s with reply := none, headTaken := false, buffer := if s.headTaken then s.buffer.tail else s.buffer } := by
  unfold State.replySent
  rw [hr]
  exact if_neg (by simp [hn])

/-! ## GET EVENT -/

theorem State.withEvents_self {s : State} {es : List Event} (he : s.events = es) : { s with events := es } = s := by
  rw [← he]

/-- The part after an accepted GET EVENT: the queue without its head, and the reply that carries the head, if there is one. -/
def State.eventTaken (h : Hdr) (s : State) : State :=
  { s.taking ⟨.getEvent, h, [], 0⟩ with events := s.events.tail }.replied ⟨.getEvent, h, [], 0⟩ .ok
    (.event s.events.head? s.events.tail.length s.seconds)

@[simp] theorem State.eventTaken_events (h : Hdr) (s : State) : (s.eventTaken h).events = s.events.tail := rfl
@[simp] theorem State.eventTaken_seconds (h : Hdr) (s : State) : (s.eventTaken h).seconds = s.seconds := rfl
@[simp] theorem State.eventTaken_headTaken (h : Hdr) (s : State) : (s.eventTaken h).headTaken = true := rfl
@[simp] theorem State.silent_eventTaken (h : Hdr) (s : State) : (s.eventTaken h).silent = s.silent := rfl

@[simp] theorem State.eventTaken_reply (h : Hdr) (s : State) :
    (s.eventTaken h).reply = some ⟨0xD0, h.tag, .ok, .event s.events.head? s.events.tail.length s.seconds⟩ := rfl

theorem State.eventTaken_buffer {s : State} (h : Hdr) (hb : s.buffer ≠ []) : (s.eventTaken h).buffer = s.buffer :=
  if_neg (by simpa using hb)

theorem State.eventTaken_of_cons (h : Hdr) {s : State} {e : Event} {es : List Event} (he : s.events = e :: es) :
    s.eventTaken h = { s.taking ⟨.getEvent, h, [], 0⟩ with events := es }.replied ⟨.getEvent, h, [], 0⟩ .ok
      (.event (some e) es.length s.seconds) := by
  simp only [State.eventTaken, he, List.tail_cons, List.head?_cons]

/-- A GET EVENT that finds the queue empty changes nothing (R182). -/
theorem State.eventTaken_of_nil (h : Hdr) {s : State} (he : s.events = []) :
    s.eventTaken h = s.answers ⟨.getEvent, h, [], 0⟩ .ok (.event none 0 s.seconds) := by
  have hsame : { s.taking ⟨.getEvent, h, [], 0⟩ with events := [] } = s.taking ⟨.getEvent, h, [], 0⟩ :=
    State.withEvents_self he
  simp only [State.eventTaken, State.answers, he, List.tail_nil, List.head?_nil, List.length_nil, hsame]

theorem State.getEventAct_eq (s : State) :
    s.getEventAct = ({ s with events := s.events.tail }, .ok, .event s.events.head? s.events.tail.length s.seconds) := by
  unfold State.getEventAct
  split
  · next e es he => simp only [he, List.tail_cons, List.head?_cons]
  · next he => simp only [he, List.tail_nil, List.head?_nil, List.length_nil, State.withEvents_self he]

/-- Both device modes allow GET EVENT (R182). -/
theorem State.accepts_getEvent {h : Hdr} {s : State} (ht : s.takes .getEvent h [] = true) (hl : h.len = 0) :
    s.Accepts ⟨.getEvent, h, [], 0⟩ :=
  ⟨ht, hl, by cases s.mode <;> rfl⟩

theorem exec_getEvent {h : Hdr} {s : State} (ht : s.takes .getEvent h [] = true) (hl : h.len = 0) :
    exec (.getEvent h) s = .next (s.eventTaken h) := by
  have hexec : exec (.getEvent h) s = .next (s.request .getEvent h [] 0 State.getEventAct) := rfl
  rw [hexec, State.request_accepts _ (State.accepts_getEvent ht hl), State.getEventAct_eq]
  rfl

/-- Settles O7: GET EVENT answers `eventTaken`, which is said of a queue with a head and of an empty queue. -/
theorem getEventReturnsTheOldestRecord : Obligations.GetEventReturnsTheOldestRecord := by
  unfold Obligations.GetEventReturnsTheOldestRecord
  intro h s ht hl
  have hexec := exec_getEvent ht hl
  refine ⟨fun e es he => ⟨?_, fun hmax => ?_, fun t hnext => ?_⟩, fun he => ?_⟩
  · rw [hexec, State.eventTaken_of_cons h he]
  · rw [he, List.length_cons] at hmax
    omega
  · cases hexec.symm.trans hnext
    rw [State.attn_eq_false_iff, State.eventTaken_events, he, List.tail_cons]
  · rw [hexec, State.eventTaken_of_nil h he]

/-! ## GET EVENT and a posting that meet -/

/-- A posting after a GET EVENT finds room in a lawful queue: its record is stored behind what the GET EVENT left. -/
theorem State.eventTaken_post_events (h : Hdr) (b : EventBody) {s : State} (hs : s.silent = false)
    (hmax : s.events.length ≤ Config.eventDepth) :
    ((s.eventTaken h).post b).events = s.events.tail ++ [⟨b, s.seconds, 0⟩] := by
  have hroom : (s.eventTaken h).events.length < Config.eventDepth := by
    simp only [State.eventTaken_events, List.length_tail, Config.eventDepth] at hmax ⊢
    omega
  exact State.post_events_of_room b hs hroom

/-- Two GET EVENT requests held together in the buffer: the second can be taken when the first one's reply is sent, and finds
what the first left of the queue. -/
theorem State.replySent_eventTaken {h h' : Hdr} {s : State} (hs : s.silent = false) (hl' : h'.len = 0)
    (hb : s.buffer = [.request 0x50#8 h.tag [], .request 0x50#8 h'.tag []]) :
    (s.eventTaken h).replySent.takes .getEvent h' [] = true ∧
      (s.eventTaken h).replySent.events = s.events.tail ∧ (s.eventTaken h).replySent.seconds = s.seconds := by
  have hbuffer : (s.eventTaken h).buffer.tail = [.request 0x50#8 h'.tag []] := by
    rw [State.eventTaken_buffer h (by simp [hb]), hb, List.tail_cons]
  rw [State.replySent_of_reply (s.eventTaken_reply h) rfl]
  exact ⟨State.takes_getEvent_of_head hs rfl rfl hbuffer hl', rfl, rfl⟩

/-- Settles O8: in each row of R183's table the posting and the GET EVENT are taken one after the other, in both orders, and the
queue each finds says what it does. -/
theorem getEventAndPostingMeet : Obligations.GetEventAndPostingMeet := by
  unfold Obligations.GetEventAndPostingMeet
  intro h b s ht hl
  have hs := State.silent_of_takes ht
  have hfirst := exec_getEvent ht hl
  have hsecond : exec (.getEvent h) (s.post b) = .next ((s.post b).eventTaken h) := exec_getEvent (by simpa using ht) hl
  refine ⟨fun he => ?_, fun e es he hlen => ?_, fun e es l he hlen => ?_, fun e h' he hl' _ _ hb => ?_⟩
  -- An empty queue.
  · have hstored : (s.post b).events = [⟨b, s.seconds, 0⟩] := by
      rw [State.post_events_of_room b hs (by simp [he]), he, List.nil_append]
    have hbehind : ((s.eventTaken h).post b).events = [⟨b, s.seconds, 0⟩] := by
      rw [State.eventTaken_post_events h b hs (by simp [he]), he, List.tail_nil, List.nil_append]
    exact ⟨⟨_, hfirst, by simp [he], by simp [State.attn, he], hbehind, by simp [State.attn, hbehind]⟩,
      by simp [State.attn, hstored], _, hsecond, by simp [hstored], by simp [hstored], by simp [State.attn, hstored]⟩
  -- 1 to 31 records.
  · have hstored : (s.post b).events = e :: es ++ [⟨b, s.seconds, 0⟩] := by
      rw [State.post_events_of_room b hs (by simp [he]; omega), he]
    have hbehind := State.eventTaken_post_events h b hs (by simp [he]; omega)
    exact ⟨⟨_, hfirst, by simp [he], by rw [hbehind, he, List.tail_cons]⟩, _, hsecond, by simp [hstored], by simp [hstored]⟩
  -- 32 records: posted first, the record is lost on the tail.
  · have hfull : s.events.length = 32 := by simp [he, hlen]
    have hlost := State.post_events_of_full b hs hfull.ge he
    have hbehind := State.eventTaken_post_events h b hs hfull.le
    exact ⟨⟨_, hfirst, by simp [he, hlen], by simp [hbehind, he]⟩, _, hsecond, by simp [hlost, hlen], by simp [hlost]⟩
  -- Two requests held together, with one record.
  · obtain ⟨htakes, hleft, hsec⟩ := State.replySent_eventTaken hs hl' hb
    exact ⟨_, _, _, hfirst, rfl, exec_getEvent htakes hl', by simp [he], by simp [hleft, hsec, he]⟩

end Sys2Proof.Machine
end

section
/-! SUPPORT. The device reset (R199), read table by table, and the RESET request that ends in it (R198). -/

namespace Sys2Proof.Machine

/-! ## What a device reset leaves in each table -/

@[simp] theorem State.silent_deviceReset (s : State) : s.deviceReset.silent = s.silent := rfl

@[simp] theorem State.sec_deviceReset (s : State) (i : SectionId) : s.deviceReset.sec i = (s.sec i).deviceReset := by
  fin_cases i <;> rfl

@[simp] theorem State.chan_deviceReset (s : State) (c : ChanId) : s.deviceReset.chan c = .resetWith (s.chan c).ready := by
  fin_cases c <;> rfl

@[simp] theorem State.entry_deviceReset (s : State) (r : Fin 64) (c : Fin 2) : s.deviceReset.entry r c = none := by
  simp [State.entry, State.deviceReset, State.reset, Vector.get_eq_getElem]

@[simp] theorem State.slotAt_deviceReset (s : State) (i : SectionId) (a : Addr) : s.deviceReset.slotAt i a = none := by
  simp [State.slotAt, State.deviceReset, State.reset, Vector.get_eq_getElem]

@[simp] theorem State.ltuOf_deviceReset (s : State) (i : SectionId) : s.deviceReset.ltuOf i = ⟨none, none⟩ := by
  simp [State.ltuOf, State.deviceReset, State.reset, Vector.get_eq_getElem]

@[simp] theorem State.holder_deviceReset (s : State) (i : SectionId) : s.deviceReset.holder i = none := by
  simp [State.holder, State.deviceReset, State.reset, Vector.get_eq_getElem]

@[simp] theorem State.join_deviceReset (s : State) (i : SectionId) : s.deviceReset.join i = .nothing := by
  simp [State.join, State.deviceReset, State.reset, Vector.get_eq_getElem]

/-- The buffer is empty after a device reset, so READY is high unless the part is held silent (R185, R199). -/
theorem State.ready_deviceReset (s : State) : s.deviceReset.ready = !s.silent := Bool.and_true _

/-- A device reset leaves the starting state of the spec's table (R199). -/
theorem State.starting_deviceReset (s : State) : s.Starting s.deviceReset :=
  ⟨⟨rfl, rfl, rfl, rfl, rfl⟩, ⟨rfl, rfl, s.ready_deviceReset⟩, ⟨rfl, rfl⟩, rfl,
    ⟨s.entry_deviceReset, s.slotAt_deviceReset, rfl⟩, s.sec_deviceReset, s.ltuOf_deviceReset, ⟨rfl, rfl, rfl, rfl⟩,
    s.chan_deviceReset, fun i => ⟨s.holder_deviceReset i, s.join_deviceReset i⟩, rfl⟩

/-! ## The RESET request -/

/-- The last byte of a RESET's reply is followed by the device reset (R198). -/
theorem State.replySent_of_resetReply {s : State} {r : Reply} (hr : s.reply = some r) (hreset : r.isReset = true) :
    s.replySent = s.deviceReset := by
  unfold State.replySent
  rw [hr]
  exact if_pos hreset

/-- Both device modes allow RESET (R198). -/
theorem State.accepts_reset {h : Hdr} {s : State} (ht : s.takes .reset h [] = true) (hl : h.len = 0) :
    s.Accepts ⟨.reset, h, [], 0⟩ :=
  ⟨ht, hl, by cases s.mode <;> rfl⟩

/-- RESET is answered with the seconds count, and nothing else happens until its reply is sent (R198). -/
theorem exec_reset {h : Hdr} {s : State} (ht : s.takes .reset h [] = true) (hl : h.len = 0) :
    exec (.reset h) s = .next (s.answers ⟨.reset, h, [], 0⟩ .ok (.resetAt s.seconds)) := by
  have hexec : exec (.reset h) s = .next (s.request .reset h [] 0 State.resetAct) := rfl
  rw [hexec, State.request_accepts _ (State.accepts_reset ht hl)]
  rfl

/-- Settles O14: RESET is accepted in either mode, and the end of its reply is the device reset of the state it finds. -/
theorem resetRequestResetsTheDevice : Obligations.ResetRequestResetsTheDevice := by
  unfold Obligations.ResetRequestResetsTheDevice
  intro h s ht hl
  refine ⟨exec_reset ht hl, fun t hreply => ⟨t.deviceReset, ?_, t.starting_deviceReset, rfl, rfl, rfl⟩⟩
  have hexec : exec .replySent t = .next t.replySent := rfl
  rw [hexec, State.replySent_of_resetReply hreply rfl]

end Sys2Proof.Machine
end

section
-- One theorem after another: elaborated side by side, they ask for more thread stacks than the check has memory for.
set_option Elab.async false
/-! SUPPORT. The laws of the post directory (R2, R3, R13, R15, R62) said entry by entry, and what each writer of entries, roster
slots and timings does to them. -/

namespace Sys2Proof.Machine

/-! ## The laws entry by entry -/

/-- The unreachable threshold applied to a section's posts (R15, R62). -/
def State.thresholdOf (s : State) (i : SectionId) : Nat := (s.sec i).timingD.unreachable

/-- The missed-poll count and the reachable field of an entry agree with a threshold (R15). -/
def PostEntry.CountOk (e : PostEntry) (threshold : Nat) : Prop :=
  e.missed ≤ Config.missedMax ∧ (e.reachable = false ↔ threshold ≤ e.missed)

/-- An entry rewritten for the same post at the same place: what R2, R3 and R13 ask of an entry is as it was. -/
structure PostEntry.SamePlace (e f : PostEntry) : Prop where
  post : f.post = e.post
  sec : f.sec = e.sec
  addr : f.addr = e.addr
  offset : f.offset = e.offset

theorem PostEntry.SamePlace.refl (e : PostEntry) : e.SamePlace e := ⟨rfl, rfl, rfl, rfl⟩

/-- The directory's laws, said of the entries and slots one by one. -/
structure State.Filed (s : State) : Prop where
  row : s.RowLaw
  named : ∀ i a p, s.slotAt i a = some p → ∃ r c e, s.entry r c = some e ∧ e.post = p ∧ e.sec = i ∧ e.addr = a
  slotted : ∀ r c e, s.entry r c = some e → s.slotAt e.sec e.addr = some e.post
  threshold : s.ThresholdLaw
  counted : ∀ r c e, s.entry r c = some e → e.CountOk (s.thresholdOf e.sec)
  placed : ∀ r c e, s.entry r c = some e → ∃ d, (s.sec e.sec).defn = some d ∧ e.offset ≤ d.length

/-- Every entry is found by the lookup of its post number (R2, R4). -/
theorem State.RowLaw.lookup {s : State} (h : s.RowLaw) {r : Fin 64} {c : Fin 2} {e : PostEntry} (he : s.entry r c = some e) :
    rowOf e.post = r ∧ s.lookup e.post = some (c, e) := by
  obtain ⟨hrow, hone⟩ := s.rowLaw_iff.1 h
  have hr : rowOf e.post = r := hrow r c e.post (State.postAt_eq_some.2 ⟨e, he, rfl⟩)
  subst hr
  have hone := hone (rowOf e.post) e.post
  rw [Ne, State.postAt_eq_some, State.postAt_eq_some] at hone
  refine ⟨rfl, ?_⟩
  unfold State.lookup
  match c with
  | 0 => simp [he]
  | 1 => grind

theorem State.directoryLaw_iff (s : State) : s.DirectoryLaw ↔ s.Filed := by
  constructor
  · rintro ⟨hrow, hroster, hth, hmissed, hoffset⟩
    refine ⟨hrow, fun i a p hp => ?_, fun r c e he => ?_, hth, fun r c e he => ?_, fun r c e he => ?_⟩
    · have h := (hroster i a).1
      rw [hp] at h
      obtain ⟨⟨c, e⟩, hl, hs, ha⟩ := h
      obtain ⟨hentry, hpost⟩ := State.entry_of_lookup hl
      exact ⟨_, c, e, hentry, hpost, hs, ha⟩
    · have h := (hroster e.sec e.addr).2 r c
      rw [he] at h
      exact h ⟨rfl, rfl⟩
    · have h := hmissed r c
      rwa [he] at h
    · have h := hoffset r c
      rwa [he] at h
  · rintro ⟨hrow, hnamed, hslotted, hth, hcounted, hplaced⟩
    refine ⟨hrow, fun i a => ⟨?_, fun r c => ?_⟩, hth, fun r c => ?_, fun r c => ?_⟩
    · split
      · next p hp =>
        obtain ⟨r, c, e, he, rfl, hs, ha⟩ := hnamed i a p hp
        exact ⟨(c, e), (hrow.lookup he).2, hs, ha⟩
      · trivial
    · split
      · next e he =>
        rintro ⟨rfl, rfl⟩
        exact hslotted r c e he
      · trivial
    · split
      · next e he => exact hcounted r c e he
      · trivial
    · split
      · next e he => exact hplaced r c e he
      · trivial

/-- No two entries name one section and address (R3). -/
theorem State.Filed.entry_unique {s : State} (h : s.Filed) {r q : Fin 64} {c d : Fin 2} {e f : PostEntry}
    (he : s.entry r c = some e) (hf : s.entry q d = some f) (hs : e.sec = f.sec) (ha : e.addr = f.addr) :
    r = q ∧ c = d ∧ e = f := by
  have h1 := h.slotted r c e he
  have h2 := h.slotted q d f hf
  rw [hs, ha, h2] at h1
  obtain ⟨hr, hl⟩ := h.row.lookup he
  obtain ⟨hq, hm⟩ := h.row.lookup hf
  rw [← Option.some.inj h1, hm] at hl
  cases hl
  exact ⟨hr.symm.trans hq, rfl, rfl⟩

/-- The entry that a slot's post has is of the slot's section and address (R3). -/
theorem State.Filed.entryAt {s : State} (h : s.Filed) {i : SectionId} {a : Addr} {e : PostEntry} (he : s.entryAt i a = some e) :
    ∃ c, s.lookup e.post = some (c, e) ∧ s.entry (rowOf e.post) c = some e ∧ e.sec = i ∧ e.addr = a := by
  unfold State.entryAt at he
  split at he
  · next p hp =>
    obtain ⟨r, c, f, hf, rfl, hs, ha⟩ := h.named i a p hp
    obtain ⟨rfl, hl⟩ := h.row.lookup hf
    rw [hl] at he
    cases he
    exact ⟨c, hl, hf, hs, ha⟩
  · cases he

/-! ## Reading slots and entries after a write -/

theorem State.slotAt_setSlot (s : State) (i j : SectionId) (a b : Addr) (p : Option Nat) :
    (s.setSlot i a p).slotAt j b = if 1 ≤ a.val ∧ i = j ∧ a = b then p else s.slotAt j b := by
  unfold State.setSlot
  split
  · next ha =>
    unfold State.slotAt
    dsimp only
    split
    · next hb =>
      rw [vget_set]
      by_cases hij : i = j
      · subst hij
        rw [if_pos rfl]
        have hab : (⟨a.val - 1, by omega⟩ : Fin 15) = ⟨b.val - 1, by omega⟩ ↔ a = b := by
          simp only [Fin.ext_iff]
          omega
        have hset := vget_set (s.rosters.get i) ⟨a.val - 1, by omega⟩ ⟨b.val - 1, by omega⟩ p
        simp only [hab] at hset
        simp [hset, ha]
      · simp [hij]
    · next hb =>
      have hne : a ≠ b := fun h => hb (h ▸ ha)
      simp [hne]
  · next ha => simp [ha]

theorem State.slotAt_zero (s : State) (i : SectionId) {a : Addr} {p : Nat} (h : s.slotAt i a = some p) : 1 ≤ a.val := by
  unfold State.slotAt at h
  split at h
  · assumption
  · cases h

theorem State.slotAt_congr {s t : State} (h : t.rosters = s.rosters) (i : SectionId) (a : Addr) : t.slotAt i a = s.slotAt i a := by
  unfold State.slotAt
  rw [h]

theorem State.entry_congr {s t : State} (h : t.dir = s.dir) (r : Fin 64) (c : Fin 2) : t.entry r c = s.entry r c := by
  unfold State.entry
  rw [h]

/-! ## Entries rewritten in place -/

/-- Every entry is rewritten for the post it holds, and the rosters stay. -/
theorem State.Filed.rewrite {s t : State} (h : s.Filed) (f : Fin 64 → Fin 2 → PostEntry → PostEntry)
    (hroster : t.rosters = s.rosters) (hentry : ∀ r c, t.entry r c = (s.entry r c).map (f r c))
    (hplace : ∀ r c e, s.entry r c = some e → e.SamePlace (f r c e)) (hth : t.ThresholdLaw)
    (hcount : ∀ r c e, s.entry r c = some e → (f r c e).CountOk (t.thresholdOf e.sec))
    (hdefn : ∀ r c e, s.entry r c = some e → ∃ d, (t.sec e.sec).defn = some d ∧ e.offset ≤ d.length) : t.Filed := by
  have hslot := State.slotAt_congr hroster
  have hback : ∀ {r c e'}, t.entry r c = some e' → ∃ e, s.entry r c = some e ∧ f r c e = e' := by
    intro r c e' he'
    rw [hentry] at he'
    exact Option.map_eq_some_iff.1 he'
  have hpost : ∀ r c, t.postAt r c = s.postAt r c := by
    intro r c
    unfold State.postAt
    rw [hentry, Option.map_map]
    cases he : s.entry r c with
    | none => rfl
    | some e => exact congrArg some (hplace r c e he).post
  refine ⟨?_, fun i a p hp => ?_, fun r c e' he' => ?_, hth, fun r c e' he' => ?_, fun r c e' he' => ?_⟩
  · rw [State.rowLaw_iff]
    simp only [hpost]
    exact s.rowLaw_iff.1 h.row
  · rw [hslot] at hp
    obtain ⟨r, c, e, he, rfl, rfl, rfl⟩ := h.named i a p hp
    have hp := hplace r c e he
    exact ⟨r, c, f r c e, by rw [hentry, he]; rfl, hp.post, hp.sec, hp.addr⟩
  all_goals
    obtain ⟨e, he, rfl⟩ := hback he'
    have hp := hplace r c e he
  · rw [hslot, hp.sec, hp.addr, hp.post]
    exact h.slotted r c e he
  · rw [hp.sec]
    exact hcount r c e he
  · rw [hp.sec, hp.offset]
    exact hdefn r c e he

/-- Nothing that the directory's laws read has changed. -/
theorem State.Filed.congr {s t : State} (h : s.Filed) (hdir : t.dir = s.dir) (hroster : t.rosters = s.rosters)
    (hsec : ∀ i, (t.sec i).defn = (s.sec i).defn ∧ (t.sec i).timing = (s.sec i).timing ∧
      (t.sec i).pendingTiming = (s.sec i).pendingTiming) : t.Filed := by
  have htim : ∀ i, (t.sec i).timingD = (s.sec i).timingD := fun i => by simp [SectionCtl.timingD, (hsec i).2.1]
  refine h.rewrite (fun _ _ e => e) hroster (fun r c => by simp [State.entry_congr hdir])
    (fun _ _ e _ => .refl e) (fun i => ?_) (fun r c e he => ?_) (fun r c e he => ?_)
  · rw [htim, (hsec i).2.2]
    exact h.threshold i
  · rw [State.thresholdOf, htim]
    exact h.counted r c e he
  · rw [(hsec e.sec).1]
    exact h.placed r c e he

/-- The entry of a post rewritten in place. -/
theorem State.Filed.setEntry {s : State} (h : s.Filed) {r : Fin 64} {c : Fin 2} {e f : PostEntry} (he : s.entry r c = some e)
    (hplace : e.SamePlace f) (hcount : f.CountOk (s.thresholdOf e.sec)) : (s.setEntry r c (some f)).Filed := by
  refine h.rewrite (fun q d g => if r = q ∧ c = d then f else g) rfl (fun q d => ?_) (fun q d g hg => ?_) h.threshold
    (fun q d g hg => ?_) (fun q d g hg => h.placed q d g hg)
  · rw [State.entry_setEntry]
    split
    · next hq => rw [← hq.1, ← hq.2, he]; rfl
    · simp
  all_goals split
  · next hq => rw [← hq.1, ← hq.2, he] at hg; cases hg; exact hplace
  · exact .refl g
  · next hq => rw [← hq.1, ← hq.2, he] at hg; cases hg; exact hcount
  · exact h.counted q d g hg

theorem State.Filed.modEntry {s : State} (h : s.Filed) {i : SectionId} {a : Addr} {e : PostEntry} {f : PostEntry → PostEntry}
    (he : s.entryAt i a = some e) (hplace : e.SamePlace (f e)) (hcount : (f e).CountOk (s.thresholdOf i)) :
    (s.modEntry e.post f).Filed := by
  obtain ⟨c, hl, hentry, rfl, -⟩ := h.entryAt he
  unfold State.modEntry
  rw [hl]
  exact h.setEntry hentry hplace hcount

/-! ## Reports and thresholds -/

theorem State.Filed.postAll {s : State} (h : s.Filed) (bs : List EventBody) : (State.postAll bs s).Filed :=
  h.congr (by simp) (by simp) (fun i => by simp [State.sec])

theorem State.Filed.post {s : State} (h : s.Filed) (b : EventBody) : (s.post b).Filed :=
  h.congr (by simp) (by simp) (fun i => by simp)

/-- A status report leaves its post reachable with no missed poll, and every threshold is at least 1 (R14, R62). -/
theorem State.Filed.statusReport {s : State} (h : s.Filed) (i : SectionId) (a : Addr) (st : StatusFields) :
    (s.statusReport i a st).Filed := by
  unfold State.statusReport
  split
  · next e he =>
    refine (h.modEntry he ⟨rfl, rfl, rfl, rfl⟩ ⟨Nat.zero_le _, ?_⟩).postAll _
    have := (h.threshold i).1
    simp only [PostEntry.reported, State.thresholdOf]
    exact ⟨nofun, fun hle => by omega⟩
  · exact h

/-- A missed-poll report counts one more, and compares the count with the section's threshold (R15). -/
theorem State.Filed.missedReport {s : State} (h : s.Filed) (i : SectionId) (a : Addr) : (s.missedReport i a).Filed := by
  unfold State.missedReport
  split
  · next e he =>
    have hcounted := h.modEntry (f := fun x => x.missedPoll (s.sec i).timingD.unreachable) he ⟨rfl, rfl, rfl, rfl⟩
      ⟨Nat.min_le_left _ _, by simp [PostEntry.missedPoll, State.thresholdOf]⟩
    dsimp only
    split
    · exact hcounted.post _
    · exact hcounted
  · exact h

/-- Each row of the list is re-evaluated, once or more. -/
theorem rethresholdRows_get (i : SectionId) (n : Nat) (rs : List (Fin 64)) (d : Vector (Vector (Option PostEntry) 2) 64)
    (q : Fin 64) (c : Fin 2) :
    ((rethresholdRows i n rs d).get q).get c =
      if q ∈ rs then ((d.get q).get c).map (fun e => if e.sec = i then e.rethreshold n else e) else (d.get q).get c := by
  induction rs generalizing d with
  | nil => rfl
  | cons r rs ih =>
    have htwice : ∀ o : Option PostEntry, (o.map (fun e => if e.sec = i then e.rethreshold n else e)).map
        (fun e => if e.sec = i then e.rethreshold n else e) = o.map (fun e => if e.sec = i then e.rethreshold n else e) := by
      intro o
      cases o with
      | none => rfl
      | some e => by_cases he : e.sec = i <;> simp [he, PostEntry.rethreshold]
    rw [rethresholdRows, ih, vget_set]
    by_cases hrq : r = q
    · subst hrq
      by_cases hr : r ∈ rs <;> simp [hr, rethresholdRow_get, -Option.map_map, htwice]
    · simp [hrq, Ne.symm hrq]

theorem mem_allRows (r : Fin 64) : r ∈ allRows := by
  unfold allRows
  rw [List.mem_map]
  exact ⟨r.val, List.mem_range.2 r.isLt, Fin.ext (Nat.mod_eq_of_lt r.isLt)⟩

/-- A threshold application re-evaluates every entry of the section and leaves the others (R17). -/
theorem State.entry_applyThreshold (s : State) (i : SectionId) (n : Nat) (r : Fin 64) (c : Fin 2) :
    (s.applyThreshold i n).entry r c = (s.entry r c).map (fun e => if e.sec = i then e.rethreshold n else e) := by
  unfold State.applyThreshold State.entry
  simp only [State.postAll_dir]
  rw [rethresholdRows_get, if_pos (mem_allRows r)]

theorem State.applyTiming_rosters (s : State) (i : SectionId) (t : Timing) : (s.applyTiming i t).rosters = s.rosters := by
  simp [State.applyTiming, State.applyThreshold]

theorem State.entry_applyTiming (s : State) (i : SectionId) (t : Timing) (r : Fin 64) (c : Fin 2) :
    (s.applyTiming i t).entry r c = (s.entry r c).map (fun e => if e.sec = i then e.rethreshold t.unreachable else e) := by
  unfold State.applyTiming
  rw [State.entry_applyThreshold, State.entry_modSec]

/-- A timing record with a threshold of 1 to 8 applied: every entry of the section follows the new threshold (R17, R64). -/
theorem State.Filed.applyTiming {s : State} (h : s.Filed) (i : SectionId) {t : Timing} (ht : 1 ≤ t.unreachable ∧ t.unreachable ≤ 8) :
    (s.applyTiming i t).Filed := by
  have hsec := s.sec_applyTiming i (t := t)
  refine h.rewrite (fun _ _ e => if e.sec = i then e.rethreshold t.unreachable else e) (s.applyTiming_rosters i t)
    (s.entry_applyTiming i t) (fun r c e _ => ?_) (fun j => ?_) (fun r c e he => ?_) (fun r c e he => ?_)
  · split
    · exact ⟨rfl, rfl, rfl, rfl⟩
    · exact .refl e
  · rw [hsec]
    split
    · exact ⟨ht.1, ht.2, nofun⟩
    · exact h.threshold j
  · obtain ⟨hmax, hreach⟩ := h.counted r c e he
    unfold State.thresholdOf
    rw [hsec]
    by_cases hi : e.sec = i
    · rw [if_pos hi, if_pos hi.symm]
      exact ⟨hmax, by simp [PostEntry.rethreshold, SectionCtl.timingD]⟩
    · rw [if_neg hi, if_neg (Ne.symm hi)]
      exact ⟨hmax, hreach⟩
  · rw [hsec]
    split
    · next hi => exact hi ▸ h.placed r c e he
    · exact h.placed r c e he

theorem State.Filed.applyPending {s : State} (h : s.Filed) (i : SectionId) : (s.applyPending i).Filed := by
  unfold State.applyPending
  split
  · next t ht => exact h.applyTiming i ((h.threshold i).2.2 t ht)
  · exact h

/-! ## Posts defined and removed -/

/-- REMOVE POST's writes: the post's slot and entry are emptied (R11). -/
theorem State.Filed.remove {s : State} (h : s.Filed) {r : Fin 64} {c : Fin 2} {e : PostEntry} (he : s.entry r c = some e) :
    ((s.setSlot e.sec e.addr none).setEntry r c none).Filed := by
  have ha : 1 ≤ e.addr.val := s.slotAt_zero e.sec (h.slotted r c e he)
  have hentry : ∀ {q d f}, ((s.setSlot e.sec e.addr none).setEntry r c none).entry q d = some f →
      s.entry q d = some f ∧ ¬(r = q ∧ c = d) := by
    intro q d f hf
    rw [State.entry_setEntry] at hf
    split at hf
    · cases hf
    · exact ⟨by simpa using hf, by assumption⟩
  have hslot : ∀ j b, ((s.setSlot e.sec e.addr none).setEntry r c none).slotAt j b =
      if e.sec = j ∧ e.addr = b then none else s.slotAt j b := by
    intro j b
    simp [State.slotAt_setSlot, ha]
  have hsec : ∀ j, ((s.setSlot e.sec e.addr none).setEntry r c none).sec j = s.sec j := fun j => by simp
  refine ⟨?_, fun i a p hp => ?_, fun q d f hf => ?_, fun j => ?_, fun q d f hf => ?_, fun q d f hf => ?_⟩
  · exact (State.AddsNoPost.rowsKept ((State.AddsNoPost.ofDir (s.setSlot_dir _ _ _)).trans
      (State.setEntry_addsNoPost (fun _ hp => absurd hp (by simp)))) h.row).1
  · rw [hslot] at hp
    split at hp
    · cases hp
    · next hne =>
      obtain ⟨q, d, f, hf, rfl, rfl, rfl⟩ := h.named i a p hp
      refine ⟨q, d, f, ?_, rfl, rfl, rfl⟩
      rw [State.entry_setEntry, if_neg, State.entry_setSlot, hf]
      rintro ⟨rfl, rfl⟩
      rw [he] at hf
      cases hf
      exact hne ⟨rfl, rfl⟩
  · obtain ⟨hold, hne⟩ := hentry hf
    rw [hslot, if_neg, h.slotted q d f hold]
    rintro ⟨hs, ha⟩
    obtain ⟨hq, hd, -⟩ := h.entry_unique he hold hs ha
    exact hne ⟨hq, hd⟩
  · rw [hsec]; exact h.threshold j
  · rw [State.thresholdOf, hsec]; exact h.counted q d f (hentry hf).1
  · rw [hsec]; exact h.placed q d f (hentry hf).1

/-- A post that the lookup misses is written into an entry of its row that is not valid, and into its slot, which no other post
has (R8). -/
theorem State.Filed.place {s : State} (h : s.Filed) {e : PostEntry} {c : Fin 2} {d : SectionDef} (ha : 1 ≤ e.addr.val)
    (hnew : s.lookup e.post = none) (hopen : s.entry (rowOf e.post) c = none) (hfree : s.addressTaken e.sec e.addr e.post = false)
    (hcount : e.CountOk (s.thresholdOf e.sec)) (hdefn : (s.sec e.sec).defn = some d) (hoff : e.offset ≤ d.length) :
    (s.placePost e c).Filed := by
  have hentry : ∀ q d, (s.placePost e c).entry q d = if rowOf e.post = q ∧ c = d then some e else s.entry q d := by
    intro q d
    simp [State.placePost, State.entry_setEntry]
  have hslot : ∀ j b, (s.placePost e c).slotAt j b = if e.sec = j ∧ e.addr = b then some e.post else s.slotAt j b := by
    intro j b
    simp [State.placePost, State.slotAt_setSlot, ha]
  have hsec : ∀ j, (s.placePost e c).sec j = s.sec j := fun j => by simp [State.placePost]
  have hunslotted : s.slotAt e.sec e.addr = none := by
    cases hs : s.slotAt e.sec e.addr with
    | none => rfl
    | some p =>
      have hp : p = e.post := by simpa [State.addressTaken, hs] using hfree
      obtain ⟨q, d, f, hf, hfp, -⟩ := h.named _ _ p hs
      have := (h.row.lookup hf).2
      rw [hfp, hp, hnew] at this
      cases this
  refine ⟨(s.placePost_rowsKept c hnew h.row).1, fun i a p hp => ?_, fun q d f hf => ?_, fun j => ?_, fun q d f hf => ?_,
    fun q d f hf => ?_⟩
  · rw [hslot] at hp
    split at hp
    · next hia => cases hp; exact ⟨rowOf e.post, c, e, by simp [hentry], rfl, hia⟩
    · obtain ⟨q, d, f, hf, hrest⟩ := h.named i a p hp
      refine ⟨q, d, f, ?_, hrest⟩
      rw [hentry, if_neg, hf]
      rintro ⟨rfl, rfl⟩
      rw [hopen] at hf
      cases hf
  · rw [hentry] at hf
    rw [hslot]
    split at hf
    · cases hf; simp
    · rw [if_neg, h.slotted q d f hf]
      rintro ⟨hs, ha⟩
      have := h.slotted q d f hf
      rw [← hs, ← ha, hunslotted] at this
      cases this
  · rw [hsec]; exact h.threshold j
  · rw [State.thresholdOf, hsec]
    rw [hentry] at hf
    split at hf
    · cases hf; exact hcount
    · exact h.counted q d f hf
  · rw [hsec]
    rw [hentry] at hf
    split at hf
    · cases hf; exact ⟨_, hdefn, hoff⟩
    · exact h.placed q d f hf

/-- A post redefined in place: its old slot is emptied, its entry rewritten, its new slot filled (R9). -/
theorem State.Filed.redefine {s : State} (h : s.Filed) {e old : PostEntry} {c : Fin 2} {d : SectionDef} (ha : 1 ≤ e.addr.val)
    (hold : s.lookup e.post = some (c, old)) (hfree : s.addressTaken e.sec e.addr e.post = false)
    (hcount : e.CountOk (s.thresholdOf e.sec)) (hdefn : (s.sec e.sec).defn = some d) (hoff : e.offset ≤ d.length) :
    (s.redefinePost old c e).Filed := by
  obtain ⟨hoe, hop⟩ := State.entry_of_lookup hold
  have hoa : 1 ≤ old.addr.val := s.slotAt_zero old.sec (h.slotted _ c old hoe)
  have hentry : ∀ q d, (s.redefinePost old c e).entry q d =
      if rowOf e.post = q ∧ c = d then some { e with service := old.service } else s.entry q d := by
    intro q d
    simp [State.redefinePost, State.entry_setEntry]
  have hslot : ∀ j b, (s.redefinePost old c e).slotAt j b =
      if e.sec = j ∧ e.addr = b then some e.post else if old.sec = j ∧ old.addr = b then none else s.slotAt j b := by
    intro j b
    simp [State.redefinePost, State.slotAt_setSlot, ha, hoa]
  have hsec : ∀ j, (s.redefinePost old c e).sec j = s.sec j := fun j => by simp [State.redefinePost]
  have hotherSlot : ∀ {q d f}, s.entry q d = some f → ¬(rowOf e.post = q ∧ c = d) →
      ¬(e.sec = f.sec ∧ e.addr = f.addr) ∧ ¬(old.sec = f.sec ∧ old.addr = f.addr) := by
    intro q d f hf hne
    refine ⟨?_, fun hs => ?_⟩
    · rintro ⟨hs, ha⟩
      have hfs := h.slotted q d f hf
      rw [← hs, ← ha] at hfs
      have hfp : f.post = e.post := by simpa [State.addressTaken, hfs] using hfree
      obtain ⟨hq, hl⟩ := h.row.lookup hf
      rw [hfp, hold] at hl
      cases hl
      exact hne ⟨hfp ▸ hq, rfl⟩
    · obtain ⟨hq, hd, -⟩ := h.entry_unique hoe hf hs.1 hs.2
      exact hne ⟨hq, hd⟩
  refine ⟨((State.redefinePost_addsNoPost hold).rowsKept h.row).1, fun i a p hp => ?_, fun q d f hf => ?_, fun j => ?_,
    fun q d f hf => ?_, fun q d f hf => ?_⟩
  · rw [hslot] at hp
    split at hp
    · next hia => cases hp; exact ⟨rowOf e.post, c, { e with service := old.service }, by simp [hentry], rfl, hia⟩
    · split at hp
      · cases hp
      · next hne =>
        obtain ⟨q, d, f, hf, rfl, rfl, rfl⟩ := h.named i a p hp
        refine ⟨q, d, f, ?_, rfl, rfl, rfl⟩
        rw [hentry, if_neg, hf]
        rintro ⟨rfl, rfl⟩
        rw [hoe] at hf
        cases hf
        exact hne ⟨rfl, rfl⟩
  · rw [hentry] at hf
    rw [hslot]
    split at hf
    · cases hf; simp
    · next hne =>
      obtain ⟨h1, h2⟩ := hotherSlot hf hne
      rw [if_neg h1, if_neg h2, h.slotted q d f hf]
  · rw [hsec]; exact h.threshold j
  · rw [State.thresholdOf, hsec]
    rw [hentry] at hf
    split at hf
    · cases hf; exact hcount
    · exact h.counted q d f hf
  · rw [hsec]
    rw [hentry] at hf
    split at hf
    · cases hf; exact ⟨_, hdefn, hoff⟩
    · exact h.placed q d f hf

end Sys2Proof.Machine
end

section
-- One theorem after another: elaborated side by side, they ask for more thread stacks than the check has memory for.
set_option Elab.async false
/-! SUPPORT. The transaction queue's law (R74 to R78) said of the queue and the transaction in flight, through every way in which
one joins, leaves or comes back. -/

namespace Sys2Proof.Machine

/-- The law of a section's transactions, said of its queue and of what is in flight (R74). -/
structure QueueOk (q : List Txn) (f : Option Txn) : Prop where
  notices : q.Pairwise (fun t u => ¬(t.kind.isNotice = true ∧ u.kind.isNotice = true ∧ t.addr = u.addr))
  hosts : q.countP SectionCtl.isHost + f.toList.countP SectionCtl.isHost ≤ Config.hostDepth
  queued : ∀ t ∈ q, t.kind ≠ .poll ∧ t.OriginLaw
  flight : ∀ t ∈ f, t.OriginLaw

theorem SectionCtl.hostCount_eq (x : SectionCtl) :
    x.hostCount = x.queue.countP SectionCtl.isHost + x.inFlight.toList.countP SectionCtl.isHost := by
  unfold SectionCtl.hostCount
  rw [List.countP_eq_length_filter]
  cases x.inFlight with
  | none => simp
  | some t => simp

theorem SectionCtl.queueLaw_iff (x : SectionCtl) : x.QueueLaw ↔ QueueOk x.queue x.inFlight := by
  unfold SectionCtl.QueueLaw
  rw [SectionCtl.hostCount_eq]
  exact ⟨fun ⟨h1, h2, h3, h4⟩ => ⟨h1, h2, h3, h4⟩, fun ⟨h1, h2, h3, h4⟩ => ⟨h1, h2, h3, h4⟩⟩

theorem QueueOk.empty : QueueOk [] none := ⟨.nil, by simp, nofun, nofun⟩

/-- A call's transaction is not the host's. -/
theorem isHost_eq_false {t : Txn} (h : ∃ r, t.origin = .call r) : SectionCtl.isHost t = false := by
  obtain ⟨r, hr⟩ := h
  simp [SectionCtl.isHost, hr]

theorem Txn.OriginLaw.of_notice {t : Txn} (h : t.OriginLaw) (hk : t.kind.isNotice = true) : ∃ r, t.origin = .call r := by
  unfold Txn.OriginLaw at h
  unfold TxnKind.isNotice at hk
  split at h <;> simp_all

theorem Txn.OriginLaw.of_lamp {t : Txn} (h : t.OriginLaw) (hk : t.kind.isLamp = true) : t.origin = .host := by
  unfold Txn.OriginLaw at h
  unfold TxnKind.isLamp at hk
  split at h <;> simp_all

theorem Txn.originLaw_of_notice {t : Txn} (hk : t.kind.isNotice = true) (ho : ∃ r, t.origin = .call r) : t.OriginLaw := by
  unfold Txn.OriginLaw
  unfold TxnKind.isNotice at hk
  split <;> simp_all

theorem Txn.OriginLaw.congr {t u : Txn} (h : t.OriginLaw) (hk : u.kind = t.kind) (ho : u.origin = t.origin) : u.OriginLaw := by
  unfold Txn.OriginLaw
  rw [hk, ho]
  exact h

section
variable {q : List Txn} {f : Option Txn} {t u : Txn}

/-- What was in flight has left the line. -/
theorem QueueOk.landed (h : QueueOk q f) : QueueOk q none :=
  ⟨h.notices, Nat.le_trans (Nat.add_le_add_left (Nat.zero_le _) _) h.hosts, h.queued, nofun⟩

/-- The transaction in flight goes on with other counts. -/
theorem QueueOk.counts (h : QueueOk q (some t)) (hk : u.kind = t.kind) (ho : u.origin = t.origin) : QueueOk q (some u) := by
  refine ⟨h.notices, ?_, h.queued, fun v hv => ?_⟩
  · have := h.hosts
    simpa [SectionCtl.isHost, ho] using this
  · cases hv
    exact (h.flight t rfl).congr hk ho

/-- The head of the queue is taken up (R73). -/
theorem QueueOk.takeHead (h : QueueOk (t :: q) f) : QueueOk q (some t) := by
  refine ⟨(List.pairwise_cons.1 h.notices).2, ?_, fun v hv => h.queued v (List.mem_cons_of_mem _ hv), fun v hv => ?_⟩
  · have := h.hosts
    rw [List.countP_cons] at this
    simp only [Option.toList_some, List.countP_cons, List.countP_nil]
    omega
  · cases hv
    exact (h.queued t List.mem_cons_self).2

/-- The round's poll is taken up (R103). -/
theorem QueueOk.takePoll (h : QueueOk q f) (hk : t.kind = .poll) (ho : t.origin = .round) : QueueOk q (some t) := by
  refine ⟨h.notices, ?_, h.queued, fun v hv => ?_⟩
  · have := h.landed.hosts
    simpa [SectionCtl.isHost, ho] using this
  · cases hv
    simp [Txn.OriginLaw, hk, ho]

/-- Entries of a queue replaced by entries for their addresses, no call notice coming in where none stood. -/
theorem QueueOk.notices_map (h : QueueOk q f) {g : Txn → Txn}
    (hg : ∀ v, (g v).kind.isNotice = true → v.kind.isNotice = true ∧ (g v).addr = v.addr) :
    (q.map g).Pairwise (fun t u => ¬(t.kind.isNotice = true ∧ u.kind.isNotice = true ∧ t.addr = u.addr)) := by
  rw [List.pairwise_map]
  refine h.notices.imp (fun {a b} hab => ?_)
  rintro ⟨ha, hb, haddr⟩
  obtain ⟨ha, ea⟩ := hg a ha
  obtain ⟨hb, eb⟩ := hg b hb
  exact hab ⟨ha, hb, ea ▸ eb ▸ haddr⟩

/-- A call notice joins the queue, in the place of an older one for its address (R75). -/
theorem QueueOk.joinNotice (h : QueueOk q f) (hk : t.kind.isNotice = true) (ho : ∃ r, t.origin = .call r) :
    QueueOk (joinNotice t q) f := by
  have hlaw := Txn.originLaw_of_notice hk ho
  have hpoll : t.kind ≠ .poll := by rintro e; simp [e, TxnKind.isNotice] at hk
  have hhost := isHost_eq_false ho
  unfold Machine.joinNotice
  split
  · refine ⟨?_, ?_, fun v hv => ?_, h.flight⟩
    · refine h.notices_map (fun v hv => ?_)
      by_cases hmatch : (v.kind.isNotice && v.addr == t.addr) = true
      · simp only [Bool.and_eq_true, beq_iff_eq] at hmatch
        simp [hmatch]
      · rw [if_neg hmatch] at hv ⊢
        exact ⟨hv, rfl⟩
    · refine Nat.le_trans (Nat.add_le_add_right ?_ _) h.hosts
      rw [List.countP_map]
      refine List.countP_mono_left (fun v _ hv => ?_)
      simp only [Function.comp_apply] at hv
      split at hv
      · simp [hhost] at hv
      · exact hv
    · obtain ⟨w, hw, rfl⟩ := List.mem_map.1 hv
      split
      · exact ⟨hpoll, hlaw⟩
      · exact h.queued w hw
  · next hnone =>
    refine ⟨?_, ?_, fun v hv => ?_, h.flight⟩
    · rw [List.pairwise_append]
      refine ⟨h.notices, List.pairwise_singleton _ _, fun a ha b hb => ?_⟩
      rw [List.mem_singleton.1 hb]
      rintro ⟨h1, -, h3⟩
      exact hnone (List.any_eq_true.2 ⟨a, ha, by simp [h1, h3]⟩)
    · simpa [hhost] using h.hosts
    · rcases List.mem_append.1 hv with hv | hv
      · exact h.queued v hv
      · rw [List.mem_singleton.1 hv]
        exact ⟨hpoll, hlaw⟩

/-- A host entry that is no call notice joins at the tail of a queue with room (R76). -/
theorem QueueOk.append (h : QueueOk q f) (hk : t.kind.isNotice = false) (hp : t.kind ≠ .poll) (ho : t.OriginLaw)
    (hroom : q.countP SectionCtl.isHost + f.toList.countP SectionCtl.isHost < Config.hostDepth) : QueueOk (q ++ [t]) f := by
  refine ⟨?_, ?_, fun v hv => ?_, h.flight⟩
  · rw [List.pairwise_append]
    refine ⟨h.notices, List.pairwise_singleton _ _, fun a _ b hb => ?_⟩
    rw [List.mem_singleton.1 hb, hk]
    exact fun hn => Bool.false_ne_true hn.2.1
  · have : [t].countP SectionCtl.isHost ≤ 1 := List.countP_le_length
    rw [List.countP_append]
    omega
  · rcases List.mem_append.1 hv with hv | hv
    · exact h.queued v hv
    · rw [List.mem_singleton.1 hv]
      exact ⟨hp, ho⟩

/-- A LAMP joins the queue, in the place of a LAMP for its address or where there is room (R76). -/
theorem QueueOk.joinLamp {p : LampPattern} (h : QueueOk q f) (hk : t.kind = .lamp p) (ho : t.origin = .host)
    (hroom : q.any (fun u => u.kind.isLamp && u.addr == t.addr) = true ∨
      q.countP SectionCtl.isHost + f.toList.countP SectionCtl.isHost < Config.hostDepth) : QueueOk (joinLamp t q) f := by
  have hlaw : t.OriginLaw := by simp [Txn.OriginLaw, hk, ho]
  have hnotice : t.kind.isNotice = false := by simp [hk, TxnKind.isNotice]
  have hpoll : t.kind ≠ .poll := by simp [hk]
  unfold Machine.joinLamp
  split
  · refine ⟨?_, ?_, fun v hv => ?_, h.flight⟩
    · refine h.notices_map (fun v hv => ?_)
      split at hv
      · simp [hnotice] at hv
      · next hmatch =>
        rw [if_neg hmatch]
        exact ⟨hv, rfl⟩
    · refine Nat.le_trans (Nat.add_le_add_right ?_ _) h.hosts
      rw [List.countP_map]
      refine List.countP_mono_left (fun v hv hv' => ?_)
      simp only [Function.comp_apply] at hv'
      split at hv'
      · next hlamp =>
        have := (h.queued v hv).2.of_lamp (by simp_all)
        simp [SectionCtl.isHost, this]
      · exact hv'
    · obtain ⟨w, hw, rfl⟩ := List.mem_map.1 hv
      split
      · exact ⟨hpoll, hlaw⟩
      · exact h.queued w hw
  · next hnone => exact h.append hnotice hpoll hlaw (hroom.resolve_left hnone)

/-- A transaction comes back to its queue: to the head, or dropped for a newer one of its kind and address (R78). -/
theorem QueueOk.returned (h : QueueOk q (some t)) (hk : u.kind = t.kind) (ho : u.origin = t.origin) (hp : u.kind ≠ .poll) :
    QueueOk (if (u.kind.isNotice && q.any (fun v => v.kind.isNotice && v.addr == u.addr)) ||
       (u.kind.isLamp && q.any (fun v => v.kind.isLamp && v.addr == u.addr)) then q else u :: q) none := by
  have hu := h.counts hk ho
  split
  · exact h.landed
  · next hkeep =>
    refine ⟨List.pairwise_cons.2 ⟨fun v hv => ?_, h.notices⟩, ?_, fun v hv => ?_, nofun⟩
    · rintro ⟨h1, h2, h3⟩
      refine hkeep ?_
      rw [h1, List.any_eq_true.2 ⟨v, hv, by simp [h2, h3]⟩]
      rfl
    · have := hu.hosts
      rw [List.countP_cons]
      simp only [Option.toList_some, List.countP_cons, List.countP_nil, Option.toList_none] at this ⊢
      omega
    · rcases List.mem_cons.1 hv with rfl | hv
      · exact ⟨hp, hu.flight _ rfl⟩
      · exact h.queued v hv

end

end Sys2Proof.Machine
end

section
-- One theorem after another: elaborated side by side, they ask for more thread stacks than the check has memory for.
set_option Elab.async false
/-! SUPPORT. What every operation inside a command keeps: the laws of the event queue, the request buffer, the transaction queues
and the directory, the device mode, the waiting commands, and that no section goes OFF or to sleep. -/

namespace Sys2Proof.Machine

/-! ## The frame -/

/-- Where an operation may take a section's power state: it stays, or a section that is asleep or waking wakes on (R87, R89). -/
def Power.Rises (p q : Power) : Prop :=
  q = p ∨ ((p ≠ .off ∧ p ≠ .active) ∧ (q = .active ∨ ∃ w, q = .waking w))

theorem Power.Rises.refl (p : Power) : p.Rises p := Or.inl rfl

theorem Power.Rises.trans {p q r : Power} (h1 : p.Rises q) (h2 : q.Rises r) : p.Rises r := by
  rcases h1 with rfl | ⟨hp, hq⟩
  · exact h2
  · rcases h2 with rfl | ⟨-, hr⟩
    · exact .inr ⟨hp, hq⟩
    · exact .inr ⟨hp, hr⟩

theorem Power.Rises.off {q : Power} (h : Power.off.Rises q) : q = .off := h.resolve_right (fun h => h.1.1 rfl)

theorem Power.Rises.active {q : Power} (h : Power.active.Rises q) : q = .active := h.resolve_right (fun h => h.1.2 rfl)

/-- What an operation inside a command keeps. -/
structure State.Stays (s t : State) : Prop where
  pending : t.pending = s.pending
  events : s.EventLaw → t.EventLaw
  buffer : s.BufferLaw → t.BufferLaw
  mode : t.mode = s.mode
  power : ∀ i, (s.sec i).power.Rises (t.sec i).power
  queue : s.QueueLaw → t.QueueLaw
  filed : s.Filed → t.Filed

theorem State.Stays.refl (s : State) : s.Stays s := ⟨rfl, id, id, rfl, fun _ => .refl _, id, id⟩

theorem State.Stays.trans {s t u : State} (h1 : s.Stays t) (h2 : t.Stays u) : s.Stays u :=
  ⟨h2.pending.trans h1.pending, h2.events ∘ h1.events, h2.buffer ∘ h1.buffer, h2.mode.trans h1.mode,
    fun i => (h1.power i).trans (h2.power i), h2.queue ∘ h1.queue, h2.filed ∘ h1.filed⟩

theorem State.QueueLaw.ofSecs {s t : State} (h : t.secs = s.secs) (hq : s.QueueLaw) : t.QueueLaw := by
  intro i
  unfold State.sec
  rw [h]
  exact hq i

/-- The events of a queue within its bounds stay within them when more are posted (R179, R180). -/
theorem State.EventLaw.post {s : State} (h : s.EventLaw) (b : EventBody) : (s.post b).EventLaw := by
  obtain ⟨hlen, hlost⟩ := h
  have hbump : ∀ l : List Event, (bumpTail l).length = l.length ∧
      ((∀ e ∈ l, e.lostAfter ≤ Config.lostMax) → ∀ e ∈ bumpTail l, e.lostAfter ≤ Config.lostMax) := by
    intro l
    rcases l.eq_nil_or_concat with rfl | ⟨init, e, rfl⟩
    · exact ⟨rfl, id⟩
    · rw [List.concat_eq_append, bumpTail_concat]
      refine ⟨by simp, fun hl x hx => ?_⟩
      rcases List.mem_append.1 hx with hx | hx
      · exact hl x (List.mem_append_left _ hx)
      · rw [List.mem_singleton.1 hx]
        exact Nat.min_le_left _ _
  unfold State.post
  split
  · exact ⟨hlen, hlost⟩
  · split
    · next hroom =>
      refine ⟨by simpa using hroom, fun e he => ?_⟩
      rcases List.mem_append.1 he with he | he
      · exact hlost e he
      · rw [List.mem_singleton.1 he]
        exact Nat.zero_le _
    · exact ⟨(hbump s.events).1.trans_le hlen, (hbump s.events).2 hlost⟩

theorem State.EventLaw.ofEvents {s t : State} (h : t.events = s.events) (he : s.EventLaw) : t.EventLaw := by
  unfold State.EventLaw
  rw [h]
  exact he

theorem State.BufferLaw.ofBuffer {s t : State} (h : t.buffer = s.buffer) (hb : s.BufferLaw) : t.BufferLaw := by
  unfold State.BufferLaw
  rw [h]
  exact hb

/-- Nothing that the frame reads has changed. -/
theorem State.Stays.ofFields {s t : State} (hp : t.pending = s.pending := by rfl) (he : t.events = s.events := by rfl)
    (hb : t.buffer = s.buffer := by rfl) (hm : t.mode = s.mode := by rfl) (hs : t.secs = s.secs := by rfl)
    (hd : t.dir = s.dir := by rfl) (hr : t.rosters = s.rosters := by rfl) : s.Stays t := by
  have hsec : ∀ i, t.sec i = s.sec i := fun i => by simp [State.sec, hs]
  exact ⟨hp, .ofEvents he, .ofBuffer hb, hm, fun i => by rw [hsec]; exact .refl _, .ofSecs hs,
    fun h => h.congr hd hr (fun i => by simp [hsec])⟩

theorem State.post_stays (s : State) (b : EventBody) : s.Stays (s.post b) :=
  ⟨by simp, fun h => h.post b, .ofBuffer (by simp), by simp, fun i => by rw [State.sec_post]; exact .refl _, .ofSecs (by simp),
    fun h => h.post b⟩

theorem State.postAll_stays (bs : List EventBody) (s : State) : s.Stays (State.postAll bs s) := by
  induction bs generalizing s with
  | nil => exact .refl s
  | cons b bs ih => exact (s.post_stays b).trans (ih _)

/-- What an operation on a section controller keeps of it. -/
structure SectionCtl.Stays (x y : SectionCtl) : Prop where
  power : x.power.Rises y.power
  queue : x.QueueLaw → y.QueueLaw
  defn : y.defn = x.defn
  timing : y.timing = x.timing
  pending : y.pendingTiming = x.pendingTiming

theorem State.setSec_stays (s : State) (i : SectionId) {x : SectionCtl} (h : (s.sec i).Stays x) : s.Stays (s.setSec i x) := by
  refine ⟨rfl, id, id, rfl, fun j => ?_, fun hq j => ?_, fun hf => hf.congr rfl rfl (fun j => ?_)⟩
  all_goals rw [State.sec_setSec]; split
  · next hj => exact hj ▸ h.power
  · exact .refl _
  · next hj => exact h.queue (hq i)
  · exact hq j
  · next hj => exact hj ▸ ⟨h.defn, h.timing, h.pending⟩
  · exact ⟨rfl, rfl, rfl⟩

theorem State.modSec_stays' (s : State) (i : SectionId) (f : SectionCtl → SectionCtl) (h : (s.sec i).Stays (f (s.sec i))) :
    s.Stays (s.modSec i f) := s.setSec_stays i h

theorem State.modLine_stays' (s : State) (i : SectionId) (f : SectionCtl → SectionCtl) (h : (s.sec i).Stays (f (s.sec i))) :
    s.Stays (s.modLine i f) := s.setSec_stays i ⟨h.power, h.queue, h.defn, h.timing, h.pending⟩

theorem SectionCtl.QueueLaw.congr {x y : SectionCtl} (hq : y.queue = x.queue) (hf : y.inFlight = x.inFlight) (h : x.QueueLaw) :
    y.QueueLaw := by
  rw [SectionCtl.queueLaw_iff] at *
  rwa [hq, hf]

/-- A change to a section controller that touches neither its transactions, nor its definition, nor its timing. -/
theorem State.modSec_stays (s : State) (i : SectionId) (f : SectionCtl → SectionCtl)
    (hp : (s.sec i).power.Rises (f (s.sec i)).power := by exact .refl _) (hq : (f (s.sec i)).queue = (s.sec i).queue := by rfl)
    (hf : (f (s.sec i)).inFlight = (s.sec i).inFlight := by rfl) (hd : (f (s.sec i)).defn = (s.sec i).defn := by rfl)
    (ht : (f (s.sec i)).timing = (s.sec i).timing := by rfl)
    (hpt : (f (s.sec i)).pendingTiming = (s.sec i).pendingTiming := by rfl) : s.Stays (s.modSec i f) :=
  s.modSec_stays' i f ⟨hp, .congr hq hf, hd, ht, hpt⟩

theorem State.modLine_stays (s : State) (i : SectionId) (f : SectionCtl → SectionCtl)
    (hp : (s.sec i).power.Rises (f (s.sec i)).power := by exact .refl _) (hq : (f (s.sec i)).queue = (s.sec i).queue := by rfl)
    (hf : (f (s.sec i)).inFlight = (s.sec i).inFlight := by rfl) (hd : (f (s.sec i)).defn = (s.sec i).defn := by rfl)
    (ht : (f (s.sec i)).timing = (s.sec i).timing := by rfl)
    (hpt : (f (s.sec i)).pendingTiming = (s.sec i).pendingTiming := by rfl) : s.Stays (s.modLine i f) :=
  s.modLine_stays' i f ⟨hp, .congr hq hf, hd, ht, hpt⟩

/-- A change to the queue or to what is in flight that keeps the law of the transactions. -/
theorem SectionCtl.Stays.ofQueue {x y : SectionCtl} (h : QueueOk x.queue x.inFlight → QueueOk y.queue y.inFlight)
    (hp : x.power.Rises y.power := by exact .refl _) (hd : y.defn = x.defn := by rfl) (ht : y.timing = x.timing := by rfl)
    (hpt : y.pendingTiming = x.pendingTiming := by rfl) : x.Stays y :=
  ⟨hp, fun hq => y.queueLaw_iff.2 (h (x.queueLaw_iff.1 hq)), hd, ht, hpt⟩

theorem State.ByCalls.stays {i : SectionId} {s t : State} (h : s.ByCalls i t) (hs : t.secs = s.secs) : s.Stays t := by
  obtain ⟨bs, hbs⟩ := h.told
  have hsec : ∀ j, t.sec j = s.sec j := fun j => by simp [State.sec, hs]
  exact ⟨h.pending, fun he => .ofEvents hbs ((State.postAll_stays bs s).events he), .ofBuffer h.buffer, h.mode,
    fun j => by rw [hsec]; exact .refl _, .ofSecs hs, fun hf => hf.congr h.dir h.rosters (fun j => by simp [hsec])⟩

/-! ## The operations of a section controller -/

/-- A transaction is put in flight where the law of the transactions has a place for it. -/
theorem State.sendAttempt_stays (s : State) (i : SectionId) (t : Txn)
    (h : QueueOk (s.sec i).queue (s.sec i).inFlight → QueueOk (s.sec i).queue (some t)) : s.Stays (s.sendAttempt i t) :=
  s.modLine_stays' i _ (.ofQueue h)

theorem State.compareBracket_stays (s : State) (i : SectionId) : s.Stays (s.compareBracket i) := by
  unfold State.compareBracket
  dsimp only
  split
  · exact .refl s
  · exact (s.modSec_stays i _).trans (State.post_stays _ _)
  · split
    · exact .refl s
    · exact (s.modSec_stays i _).trans (State.post_stays _ _)

theorem State.closeRound_stays (s : State) (i : SectionId) : s.Stays (s.closeRound i) := by
  unfold State.closeRound
  split
  · exact (((s.modSec_stays i _).trans (State.post_stays _ _)).trans (State.modSec_stays _ i _)).trans
      (State.compareBracket_stays _ i)
  · exact .refl s

theorem State.closeIfDone_stays (s : State) (i : SectionId) : s.Stays (s.closeIfDone i) := by
  unfold State.closeIfDone
  split
  · split
    · exact .refl s
    · exact s.closeRound_stays i
  · exact .refl s

theorem State.openRound_stays (s : State) (i : SectionId) : s.Stays (s.openRound i) :=
  (s.modSec_stays i _).trans (State.closeIfDone_stays _ i)

theorem State.pollEnded_stays (s : State) (i : SectionId) (a : Addr) (f : Round → Round) : s.Stays (s.pollEnded i a f) := by
  unfold State.pollEnded
  split
  · exact (s.modSec_stays i _).trans (State.closeIfDone_stays _ i)
  · exact .refl s

theorem State.setLtu_stays (s : State) (i : SectionId) (x : LtuSection) : s.Stays (s.setLtu i x) := .ofFields

theorem State.startMeasure_stays (s : State) (i : SectionId) : s.Stays (s.startMeasure i) := by
  unfold State.startMeasure
  split
  · exact (s.setLtu_stays i _).trans (State.modLine_stays _ i _)
  · exact .refl s

theorem pollTxn_kind (k : Option KeptPoll) (a : Addr) : (pollTxn k a).kind = .poll ∧ (pollTxn k a).origin = .round := by
  unfold pollTxn
  split
  · split <;> exact ⟨rfl, rfl⟩
  · exact ⟨rfl, rfl⟩

theorem State.arbitrateRound_stays (s : State) (i : SectionId) : s.Stays (s.arbitrateRound i) := by
  unfold State.arbitrateRound
  split
  · split
    · exact (s.modSec_stays i _).trans
        (State.sendAttempt_stays _ i _ (fun h => h.takePoll (pollTxn_kind _ _).1 (pollTxn_kind _ _).2))
    · exact s.closeRound_stays i
  · exact .refl s

/-- Two writes to one section controller are the last one. -/
theorem State.setSec_setSec (s : State) (i : SectionId) (x y : SectionCtl) : (s.setSec i x).setSec i y = s.setSec i y := by
  simp [State.setSec]

theorem State.modLine_modSec (s : State) (i : SectionId) (f g : SectionCtl → SectionCtl) :
    (s.modSec i g).modLine i f = s.modLine i (fun x => f (g x)) := by
  unfold State.modLine State.modSec
  rw [State.setSec_setSec, State.sec_setSec, if_pos rfl]
  rfl

/-- The queue's head is taken up (R73): it leaves the queue as it goes in flight. -/
theorem State.sendHead_stays (s : State) (i : SectionId) {t : Txn} {q : List Txn} (h : (s.sec i).queue = t :: q) :
    s.Stays ((s.modSec i (fun x => { x with queue := q })).sendAttempt i t) := by
  unfold State.sendAttempt
  rw [State.modLine_modSec]
  exact s.modLine_stays' i _ (.ofQueue (fun hq => (h ▸ hq).takeHead))

theorem State.arbiter_stays (s : State) (i : SectionId) : s.Stays (s.arbiter i) := by
  unfold State.arbiter
  split
  · split
    · exact .refl s
    · split
      · exact s.startMeasure_stays i
      · split
        · exact .refl s
        · split
          · next hq => exact s.sendHead_stays i hq
          · exact s.arbitrateRound_stays i
  · split
    · exact s.startMeasure_stays i
    · exact .refl s
  all_goals exact .refl s

theorem State.workArrived_stays (s : State) (i : SectionId) : s.Stays (s.workArrived i) := by
  unfold State.workArrived
  split
  · exact s.arbiter_stays i
  · exact .refl s

/-- A pending timing record is applied: its threshold is lawful where every pending one is (R62, R63). -/
theorem State.applyTiming_stays (s : State) (i : SectionId) (t : Timing) (h : s.Filed → 1 ≤ t.unreachable ∧ t.unreachable ≤ 8) :
    s.Stays (s.applyTiming i t) := by
  have hframe := s.applyTiming_noCall i t
  obtain ⟨bs, hbs⟩ := hframe.told
  have hsec := s.sec_applyTiming i (t := t)
  refine ⟨hframe.pending, fun he => .ofEvents hbs ((State.postAll_stays bs s).events he), .ofBuffer hframe.buffer,
    hframe.mode, fun j => ?_, fun hq j => ?_, fun hf => hf.applyTiming i (h hf)⟩
  all_goals rw [hsec]; split
  · next hj => exact hj ▸ .refl _
  · exact .refl _
  · exact (hq i).congr rfl rfl
  · exact hq j

theorem State.applyPending_stays (s : State) (i : SectionId) : s.Stays (s.applyPending i) := by
  unfold State.applyPending
  split
  · next t ht => exact s.applyTiming_stays i t (fun hf => (hf.threshold i).2.2 t ht)
  · exact .refl s

theorem State.settleIdle_stays (s : State) (i : SectionId) : s.Stays (s.settleIdle i) :=
  (s.applyPending_stays i).trans (State.modLine_stays _ i _)

theorem State.enterIdle_stays (s : State) (i : SectionId) : s.Stays (s.enterIdle i) :=
  (s.settleIdle_stays i).trans (State.arbiter_stays _ i)

theorem State.burstEnded_stays (s : State) (i : SectionId) : s.Stays (s.burstEnded i) := s.modSec_stays i _

theorem State.startWake_stays (s : State) (i : SectionId) (r : ReasonSet) (hoff : (s.sec i).power ≠ .off)
    (hon : (s.sec i).power ≠ .active) : s.Stays (s.startWake i r) :=
  s.modLine_stays i _ (hp := .inr ⟨⟨hoff, hon⟩, .inr ⟨.powerUp, rfl⟩⟩)

theorem State.markDispatch_stays (s : State) : s.Stays s.markDispatch := .ofFields

theorem State.toActive_stays (s : State) (i : SectionId) (hoff : (s.sec i).power ≠ .off) (hon : (s.sec i).power ≠ .active) :
    s.Stays (s.toActive i) :=
  (s.modLine_stays i (fun x =>
    { x with power := .active, line := .idle, exch := .quiet, settleTimer := none, idleSince := some s.nowMs })
    (hp := .inr ⟨⟨hoff, hon⟩, .inl rfl⟩)).trans (State.markDispatch_stays _)

theorem State.arrive_stays (s : State) (i : SectionId) (w : WakeReason) : s.Stays (s.arrive i w) := by
  unfold State.arrive
  split
  · next h => exact s.startWake_stays i _ (by simp [h]) (by simp [h])
  · exact s.modSec_stays i _
  · next h => exact s.toActive_stays i (by simp [h]) (by simp [h])
  · exact .refl s
  · exact .refl s

theorem State.modQueue_stays (s : State) (i : SectionId) (f : List Txn → List Txn)
    (h : QueueOk (s.sec i).queue (s.sec i).inFlight → QueueOk (f (s.sec i).queue) (s.sec i).inFlight) :
    s.Stays (s.modQueue i f) := s.modSec_stays' i _ (.ofQueue h)

/-- A call notice is given to a section (R75). -/
theorem State.joinNotice_stays (s : State) (i : SectionId) (a : Addr) {k : TxnKind} (hk : k.isNotice = true) (r : Nat) :
    s.Stays (s.modQueue i (joinNotice (.fresh k a (.call r)))) :=
  s.modQueue_stays i _ (fun h => h.joinNotice hk ⟨r, rfl⟩)

theorem State.offerNotice_stays (s : State) (i : SectionId) (a : Addr) {k : TxnKind} (hk : k.isNotice = true) (r : Nat) :
    s.Stays (s.offerNotice i a k r) := by
  unfold State.offerNotice
  split
  · exact .refl s
  all_goals exact ((s.arrive_stays i .call).trans (State.joinNotice_stays _ i a hk r)).trans (State.workArrived_stays _ i)

theorem State.offerQuietNotice_stays (s : State) (i : SectionId) (a : Addr) {k : TxnKind} (hk : k.isNotice = true) (r : Nat) :
    s.Stays (s.offerQuietNotice i a k r) := by
  unfold State.offerQuietNotice
  split
  · exact .refl s
  all_goals exact s.joinNotice_stays i a hk r

theorem State.clearFlight_stays (s : State) (i : SectionId) : s.Stays (s.clearFlight i) :=
  s.modLine_stays' i _ (.ofQueue QueueOk.landed)

/-- What was in flight leaves the line and comes back to its queue or its round, with other counts (R50, R71, R78). -/
theorem State.giveBack_stays (s : State) (i : SectionId) {t u : Txn} (h : (s.sec i).inFlight = some t) (hk : u.kind = t.kind)
    (ho : u.origin = t.origin) : s.Stays ((s.clearFlight i).returnTxn i u) := by
  unfold State.returnTxn
  split
  · exact (s.clearFlight_stays i).trans (State.modSec_stays _ i _)
  · next hp =>
    have hwrite : ∀ f g : SectionCtl → SectionCtl, (s.modLine i f).modSec i g = s.setSec i (g ((f (s.sec i)).retime s.nowMs)) := by
      intro f g
      unfold State.modLine State.modSec
      rw [State.setSec_setSec, State.sec_setSec, if_pos rfl]
    unfold State.modQueue State.clearFlight
    rw [hwrite]
    exact s.setSec_stays i (.ofQueue (fun hq => (h ▸ hq).returned hk ho hp))

/-! ## The call manager's operations -/

theorem State.releaseChannel_stays (s : State) (c : Option ChanId) : s.Stays (s.releaseChannel c) :=
  (s.releaseChannel_byCalls 0 c).stays (s.releaseChannel_secs c)

theorem State.finish_stays (s : State) : s.Stays s.finish := (s.finish_byCalls 0).stays s.finish_secs

theorem Call.closing_isNotice (c : Call) : c.closing.isNotice = true := by
  unfold Call.closing
  split <;> rfl

theorem State.releaseHeld_stays (s : State) (c : Call) : s.Stays (s.releaseHeld c) :=
  (s.releaseHeld_byCalls c).stays (s.releaseHeld_secs c)

theorem State.freeHeld_stays (s : State) (c : Call) : s.Stays (s.freeHeld c) := by
  unfold State.freeHeld
  split
  · exact (s.releaseHeld_stays c).trans (State.arbiter_stays _ c.sec)
  · exact s.releaseHeld_stays c

theorem State.retireCall_stays (s : State) (c : Call) (e : EndCause) : s.Stays (s.retireCall c e) :=
  (s.retireCall_byCalls 0 c e).stays (s.retireCall_secs c e)

theorem State.endCall_stays (s : State) (c : Call) (e : EndCause) : s.Stays (s.endCall c e) :=
  ((s.retireCall_stays c e).trans (State.offerNotice_stays _ c.sec _ c.closing_isNotice _)).trans (State.freeHeld_stays _ c)

theorem State.endCallQuietly_stays (s : State) (c : Call) (e : EndCause) : s.Stays (s.endCallQuietly c e) :=
  ((s.retireCall_stays c e).trans (State.offerQuietNotice_stays _ c.sec _ c.closing_isNotice _)).trans
    (State.releaseHeld_stays _ c)

theorem State.endCalls_stays (e : EndCause) (cs : List Call) (s : State) : s.Stays (State.endCalls e cs s) := by
  induction cs generalizing s with
  | nil => exact .refl s
  | cons c cs ih => exact (s.endCall_stays c e).trans (ih _)

theorem State.endCallsQuietly_stays (e : EndCause) (cs : List Call) (s : State) : s.Stays (State.endCallsQuietly e cs s) := by
  induction cs generalizing s with
  | nil => exact .refl s
  | cons c cs ih => exact (s.endCallQuietly_stays c e).trans (ih _)

theorem State.addCall_stays (s : State) (c : Call) : s.Stays (s.addCall c) :=
  (s.addCall_byCalls 0 c).stays (s.addCall_secs c)

theorem State.createFromAlert_stays (s : State) (o : CallOrigin) (i : SectionId) (a : Addr) :
    s.Stays (s.createFromAlert o i a).1 := (s.addCall_stays _).trans (State.markDispatch_stays _)

theorem State.connect_stays (s : State) (c : Call) (ch : ChanId) : s.Stays (s.connect c ch) := by
  have hmoved := (((((s.modCall_byCalls c.sec c.ref (fun x =>
      { x with state := .connected, channel := some ch, connectedSince := some s.seconds, offerTimer := none,
               ringTimer := none })).trans (State.setChan_byCalls _ c.sec ch ⟨.connected, (s.chan ch).ready, some c.ref⟩)).trans
    (State.setHolder_byCalls _ c.sec c.sec (some c.ref))).trans (State.setJoin_byCalls _ c.sec c.sec (.channel ch))).trans
    (State.post_byCalls _ c.sec (.callConnected c.ref ch)))
  exact (hmoved.stays (by simp)).trans (State.offerNotice_stays _ c.sec _ rfl _)

theorem State.postAnswers_stays (s : State) (c : Call) : s.Stays (s.postAnswers c) := by
  unfold State.postAnswers
  split
  · exact s.connect_stays c _
  · exact .refl s

theorem State.revive_stays (s : State) (c : Call) : s.Stays (s.revive c) :=
  (s.revive_byCalls 0 c).stays (by simp [State.revive])

theorem State.deferAlert_stays (s : State) (o : CallOrigin) (i : SectionId) (a : Addr) : s.Stays (s.deferAlert o i a) := by
  unfold State.deferAlert
  split
  · exact .refl s
  · exact (s.post_stays _).trans .ofFields

theorem State.newAlert_stays (s : State) (o : CallOrigin) (i : SectionId) (a : Addr) : s.Stays (s.newAlert o i a).1 := by
  unfold State.newAlert
  split
  · exact s.createFromAlert_stays o i a
  · split
    · exact (s.endCall_stays _ _).trans (State.createFromAlert_stays _ o i a)
    · exact s.deferAlert_stays o i a

theorem State.alert_stays (s : State) (o : CallOrigin) (i : SectionId) (a : Addr) : s.Stays (s.alert o i a).1 := by
  unfold State.alert
  split
  · exact .refl s
  · split
    · split
      · exact s.postAnswers_stays _
      · exact s.revive_stays _
      all_goals exact .refl s
    · exact s.newAlert_stays o i a

theorem State.answerRecord_stays (s : State) (i : SectionId) (a : Addr) : s.Stays (s.answerRecord i a) := by
  unfold State.answerRecord
  split
  · split
    · exact s.postAnswers_stays _
    · exact .refl s
  · exact .refl s

theorem State.abandon_stays (s : State) (c : Call) : s.Stays (s.abandon c) := by
  have hleft := (((s.modCall_byCalls c.sec c.ref (fun x => { x with state := .abandoned, channel := none, offerTimer := none })).trans
    (State.releaseChannel_byCalls _ c.sec c.channel)).trans (State.dropPath_byCalls _ c.sec c.sec c.ref)).trans
    (State.post_byCalls _ c.sec (.callAbandoned c.ref c.post c.sec c.addr c.state))
  have htold := (hleft.stays (by simp [State.dropPath_secs, State.releaseChannel_secs])).trans
    (State.offerNotice_stays _ c.sec c.addr (k := .clear) rfl c.ref)
  unfold State.abandon
  dsimp only
  split
  · exact htold.trans (State.arbiter_stays _ c.sec)
  · exact htold

theorem State.onhook_stays (s : State) (i : SectionId) (a : Addr) : s.Stays (s.onhook i a) := by
  unfold State.onhook
  split
  · split
    · exact s.endCall_stays _ _
    · exact s.abandon_stays _
    · exact s.abandon_stays _
    · exact s.abandon_stays _
    all_goals exact .refl s
  · exact .refl s

theorem State.impliedAlert_stays (s : State) (i : SectionId) (a : Addr) (st : StatusFields) : s.Stays (s.impliedAlert i a st) := by
  unfold State.impliedAlert
  split
  · exact (s.alert_stays _ i a).trans (State.finish_stays _)
  · exact .refl s

theorem State.noticeFailed_stays (s : State) (k : TxnKind) (r : Nat) : s.Stays (s.noticeFailed k r) := by
  unfold State.noticeFailed
  split
  · split
    · exact s.endCall_stays _ _
    · exact .refl s
  · exact .refl s

theorem State.requeue_stays (s : State) (c : Call) (e : RequeueCause) : s.Stays (s.requeue c e) := by
  have hleft := (((s.modCall_byCalls c.sec c.ref (fun x =>
      { x.closeConnected s.seconds with state := .queued, boost := boostAfter x.boost, channel := none,
                                        offerTimer := none })).trans (State.releaseChannel_byCalls _ c.sec c.channel)).trans
    (State.setJoin_byCalls _ c.sec c.sec .tone)).trans
    (State.post_byCalls _ c.sec (.callRequeued c.ref e (boostAfter c.boost) c.channel))
  exact ((hleft.stays (by simp [State.releaseChannel_secs])).trans (State.offerNotice_stays _ c.sec _ rfl _)).trans
    (State.markDispatch_stays _)

theorem State.parkCall_stays (s : State) (c : Call) (ch : ChanId) : s.Stays (s.parkCall c ch) := by
  have hleft := (((s.modCall_byCalls c.sec c.ref (fun x =>
      { x.closeConnected s.seconds with state := .parked, channel := none })).trans
    (State.releaseChannel_byCalls _ c.sec (some ch))).trans (State.setJoin_byCalls _ c.sec c.sec .tone)).trans
    (State.post_byCalls _ c.sec (.callParked c.ref ch))
  exact (hleft.stays (by simp [State.releaseChannel_secs])).trans (State.offerNotice_stays _ c.sec _ rfl _)

theorem State.ring_stays (s : State) (c : Call) (ch : ChanId) : s.Stays (s.ring c ch) := by
  have hrung := ((s.modCall_byCalls c.sec c.ref (fun x =>
      { x with direction := .outbound, state := .ringing, channel := some ch,
               ringTimer := some ⟨s.nowMs, 1000 * s.globals.ringTimeout⟩ })).trans
    (State.setChan_byCalls _ c.sec ch ⟨.ringing, (s.chan ch).ready, some c.ref⟩)).trans
    ((State.setHolder_byCalls _ c.sec c.sec (some c.ref)).trans (State.setJoin_byCalls _ c.sec c.sec .nothing))
  exact (hrung.stays (by simp)).trans (State.offerNotice_stays _ c.sec _ rfl _)

/-! ## Transactions and bursts -/

theorem State.statusReport_stays (s : State) (i : SectionId) (a : Addr) (st : StatusFields) : s.Stays (s.statusReport i a st) := by
  have hframe := s.statusReport_noCall i i a st
  obtain ⟨bs, hbs⟩ := hframe.told
  have hsec : ∀ j, (s.statusReport i a st).sec j = s.sec j := fun j => by simp [State.sec, State.statusReport_secs]
  exact ⟨hframe.pending, fun he => .ofEvents hbs ((State.postAll_stays bs s).events he), .ofBuffer hframe.buffer, hframe.mode,
    fun j => by rw [hsec]; exact .refl _, .ofSecs (s.statusReport_secs i a st), fun h => h.statusReport i a st⟩

theorem State.missedReport_stays (s : State) (i : SectionId) (a : Addr) : s.Stays (s.missedReport i a) := by
  have hframe := s.missedReport_noCall i i a
  obtain ⟨bs, hbs⟩ := hframe.told
  have hsec : ∀ j, (s.missedReport i a).sec j = s.sec j := fun j => by simp [State.sec, State.missedReport_secs]
  exact ⟨hframe.pending, fun he => .ofEvents hbs ((State.postAll_stays bs s).events he), .ofBuffer hframe.buffer, hframe.mode,
    fun j => by rw [hsec]; exact .refl _, .ofSecs (s.missedReport_secs i a), fun h => h.missedReport i a⟩

theorem State.pollFailed_stays (s : State) (i : SectionId) (a : Addr) (r : FailReason) : s.Stays (s.pollFailed i a r) := by
  unfold State.pollFailed
  split
  · exact (s.missedReport_stays i a).trans (State.pollEnded_stays _ i a _)
  · exact s.pollEnded_stays i a _
  all_goals exact .refl s

theorem State.reportFailed_stays (s : State) (i : SectionId) (t : Txn) (r : FailReason) : s.Stays (s.reportFailed i t r) := by
  unfold State.reportFailed
  dsimp only
  split
  · exact (s.post_stays _).trans (State.pollFailed_stays _ i _ r)
  · exact s.post_stays _
  · exact (s.post_stays _).trans (State.noticeFailed_stays _ _ _)

theorem State.failFlight_stays (s : State) (i : SectionId) (t : Txn) (r : FailReason) : s.Stays (s.failFlight i t r) :=
  (((s.clearFlight_stays i).trans (State.reportFailed_stays _ i t r)).trans (State.finish_stays _)).trans (State.enterIdle_stays _ i)

theorem State.succeed_stays (s : State) (i : SectionId) : s.Stays (s.succeed i) :=
  (s.clearFlight_stays i).trans (State.enterIdle_stays _ i)

/-- The transaction in flight is sent once more, with other counts. -/
theorem State.sendAgain_stays (s : State) (i : SectionId) {t u : Txn} (h : (s.sec i).inFlight = some t) (hk : u.kind = t.kind)
    (ho : u.origin = t.origin) : s.Stays (s.sendAttempt i u) :=
  s.sendAttempt_stays i u (fun hq => (h ▸ hq).counts hk ho)

theorem State.resumeFlight_stays (s : State) (i : SectionId) : s.Stays (s.resumeFlight i) := by
  unfold State.resumeFlight
  split
  · next t ht =>
    split
    · exact s.failFlight_stays i t _
    · exact s.sendAgain_stays i ht rfl rfl
  · exact .refl s

theorem State.attemptFailed_stays (s : State) (i : SectionId) : s.Stays (s.attemptFailed i) := by
  unfold State.attemptFailed
  split
  · next t ht =>
    split
    · exact s.failFlight_stays i _ _
    · split
      · exact s.sendAgain_stays i ht rfl rfl
      · exact s.modLine_stays' i _ (.ofQueue (fun hq => (ht ▸ hq).counts rfl rfl))
  · exact .refl s

theorem State.returnYielded_stays (s : State) (i : SectionId) : s.Stays (s.returnYielded i) := by
  unfold State.returnYielded
  split
  · next t ht =>
    split
    · exact ((s.clearFlight_stays i).trans (State.reportFailed_stays _ i _ _)).trans (State.finish_stays _)
    · exact s.giveBack_stays i ht rfl rfl
  · exact s.clearFlight_stays i

theorem State.endForeign_stays (s : State) (i : SectionId) : s.Stays (s.endForeign i) :=
  (s.returnYielded_stays i).trans (State.enterIdle_stays _ i)

theorem State.sendAnswer_stays (s : State) (i : SectionId) (rs : List OutRec) (l : List CheckFlag) :
    s.Stays (s.sendAnswer i rs l) := by
  unfold State.sendAnswer
  split <;> exact s.modLine_stays i _

theorem State.driveUnresolved_stays (s : State) (i : SectionId) (g : GoodRec) : s.Stays (s.driveUnresolved i g) := by
  unfold State.driveUnresolved
  split
  · exact .ofFields
  · exact (State.Stays.ofFields : s.Stays { s with unresolved := _ }).trans (State.post_stays _ _)

theorem State.takeNotice_stays (s : State) (i : SectionId) (a : Addr) (st : StatusFields) : s.Stays (s.takeNotice i a st) := by
  unfold State.takeNotice
  split
  · exact (s.statusReport_stays i a st).trans (State.impliedAlert_stays _ i a st)
  · exact .refl s

theorem State.handRecord_stays (s : State) (i : SectionId) (g : GoodRec) : s.Stays (s.handRecord i g).1 := by
  unfold State.handRecord
  split
  · exact (s.alert_stays _ i _).trans (State.finish_stays _)
  · exact (s.answerRecord_stays i _).trans (State.finish_stays _)
  · exact (s.onhook_stays i _).trans (State.finish_stays _)
  · split
    · exact s.takeNotice_stays i _ _
    · exact .refl s
  all_goals exact .refl s

theorem State.handRecords_stays (i : SectionId) (gs : List GoodRec) (driven : Bool) (s : State) :
    s.Stays (State.handRecords i gs driven s).1 := by
  induction gs generalizing driven s with
  | nil => exact .refl s
  | cons g gs ih =>
    unfold State.handRecords
    dsimp only
    refine State.Stays.trans ?_ (ih _ _)
    split
    · exact (s.driveUnresolved_stays i g).trans (State.handRecord_stays _ i g)
    · exact s.handRecord_stays i g

theorem State.textAcked_stays (s : State) (i : SectionId) {t : Txn} (h : (s.sec i).inFlight = some t) (cs : List Byte) :
    s.Stays (s.textAcked i t cs) := by
  unfold State.textAcked
  split
  · split
    · exact s.succeed_stays i
    · exact s.sendAgain_stays i h rfl rfl
  · exact s.sendAgain_stays i h rfl rfl

theorem State.pollAnswered_stays (s : State) (i : SectionId) (a : Addr) (st : StatusFields) : s.Stays (s.pollAnswered i a st) :=
  ((((s.clearFlight_stays i).trans (State.statusReport_stays _ i a st)).trans (State.impliedAlert_stays _ i a st)).trans
    (State.pollEnded_stays _ i a _)).trans (State.enterIdle_stays _ i)

theorem State.judgeReply_stays (s : State) (i : SectionId) {t : Txn} (h : (s.sec i).inFlight = some t) (g : GoodRec) :
    s.Stays (s.judgeReply i t g) := by
  unfold State.judgeReply
  split
  · split
    · split
      · exact s.pollAnswered_stays i _ _
      · exact s.attemptFailed_stays i
    · split
      · exact s.textAcked_stays i h _
      · exact s.failFlight_stays i t _
      · exact s.attemptFailed_stays i
    all_goals
      split
      · exact s.succeed_stays i
      · exact s.attemptFailed_stays i
  · exact s.attemptFailed_stays i

theorem State.abortMeasure_stays (s : State) (i : SectionId) : s.Stays (s.abortMeasure i) := by
  unfold State.abortMeasure
  split
  · exact ((s.setLtu_stays i _).trans (State.modSec_stays _ i _)).trans (State.post_stays _ _)
  · split
    · exact (s.modSec_stays i _).trans (State.post_stays _ _)
    · exact .refl s

theorem State.abortQueue_stays (s : State) (i : SectionId) : s.Stays (s.abortQueue i) :=
  (s.modLine_stays' i _ (.ofQueue (fun _ => .empty))).trans (State.abortMeasure_stays _ i)

theorem State.reportAborted_stays (i : SectionId) (ts : List Txn) (s : State) : s.Stays (State.reportAborted i ts s) := by
  induction ts generalizing s with
  | nil => exact .refl s
  | cons t ts ih => exact (s.reportFailed_stays i t _).trans (ih _)

end Sys2Proof.Machine
end

section
-- One theorem after another: elaborated side by side, they ask for more thread stacks than the check has memory for.
set_option Elab.async false
/-! SUPPORT. The commands: what each keeps of the laws, and that none leaves the dispatcher an act owed (R161). -/

namespace Sys2Proof.Machine

/-! ## Operations that owe the dispatcher nothing -/

/-- An operation that keeps the frame and owes the dispatcher no act where none was owed before. -/
structure State.Acts (s t : State) : Prop extends State.Stays s t where
  due : s.dispatchDue = false → t.dispatchDue = false

theorem State.Acts.refl (s : State) : s.Acts s := ⟨.refl s, id⟩

theorem State.Acts.trans {s t u : State} (h1 : s.Acts t) (h2 : t.Acts u) : s.Acts u :=
  ⟨h1.toStays.trans h2.toStays, h2.due ∘ h1.due⟩

/-- The dispatcher has acted (R161). -/
theorem State.Stays.finished {s t : State} (h : s.Stays t) : s.Acts t.finish := ⟨h.trans t.finish_stays, fun _ => t.finish_due⟩

/-- What touches no call gives no occasion. -/
theorem State.NoCall.acts {i : SectionId} {s t : State} (h : s.NoCall i t) (hs : s.Stays t) : s.Acts t :=
  ⟨hs, fun hd => h.due.trans hd⟩

theorem State.ByLine.acts {i : SectionId} {s t : State} (h : s.ByLine i t) (hs : s.Stays t) : s.Acts t := h.toNoCall.acts hs

theorem State.Stays.acts {s t : State} (h : s.Stays t) (hd : t.dispatchDue = s.dispatchDue := by rfl) : s.Acts t :=
  ⟨h, fun hs => hd.trans hs⟩

theorem State.reach_acts (s : State) (n : Nat) : s.Acts (s.reach n) := (State.Stays.ofFields).acts

theorem State.post_acts (s : State) (b : EventBody) : s.Acts (s.post b) := (s.post_stays b).acts (by simp)

theorem State.enterIdle_acts (s : State) (i : SectionId) : s.Acts (s.enterIdle i) := (s.enterIdle_noCall i).acts (s.enterIdle_stays i)

theorem State.arbiter_acts (s : State) (i : SectionId) : s.Acts (s.arbiter i) := (s.arbiter_byLine i).acts (s.arbiter_stays i)

theorem State.workArrived_acts (s : State) (i : SectionId) : s.Acts (s.workArrived i) :=
  (s.workArrived_byLine i).acts (s.workArrived_stays i)

theorem State.burstEnded_acts (s : State) (i : SectionId) : s.Acts (s.burstEnded i) := (s.burstEnded_stays i).acts

theorem State.clearFlight_acts (s : State) (i : SectionId) : s.Acts (s.clearFlight i) := (s.clearFlight_stays i).acts

theorem State.setExch_acts (s : State) (i : SectionId) (e : Exchange) : s.Acts (s.setExch i e) := (s.modLine_stays i _).acts

theorem State.receivePost_acts (s : State) (i : SectionId) : s.Acts (s.receivePost i) := (s.modLine_stays i _).acts

theorem State.giveBack_acts (s : State) (i : SectionId) {t u : Txn} (h : (s.sec i).inFlight = some t) (hk : u.kind = t.kind)
    (ho : u.origin = t.origin) : s.Acts ((s.clearFlight i).returnTxn i u) :=
  ((s.clearFlight_byLine i).trans (State.returnTxn_byLine _ i u)).acts (s.giveBack_stays i h hk ho)

theorem State.failFlight_acts (s : State) (i : SectionId) (t : Txn) (r : FailReason) : s.Acts (s.failFlight i t r) :=
  (((s.clearFlight_stays i).trans (State.reportFailed_stays _ i t r)).finished).trans (State.enterIdle_acts _ i)

theorem State.succeed_acts (s : State) (i : SectionId) : s.Acts (s.succeed i) :=
  (s.clearFlight_acts i).trans (State.enterIdle_acts _ i)

theorem State.sendAgain_acts (s : State) (i : SectionId) {t u : Txn} (h : (s.sec i).inFlight = some t) (hk : u.kind = t.kind)
    (ho : u.origin = t.origin) : s.Acts (s.sendAttempt i u) := (s.sendAgain_stays i h hk ho).acts

theorem State.resumeFlight_acts (s : State) (i : SectionId) : s.Acts (s.resumeFlight i) := by
  unfold State.resumeFlight
  split
  · next t ht =>
    split
    · exact s.failFlight_acts i t _
    · exact s.sendAgain_acts i ht rfl rfl
  · exact .refl s

theorem State.attemptFailed_acts (s : State) (i : SectionId) : s.Acts (s.attemptFailed i) := by
  refine ⟨s.attemptFailed_stays i, ?_⟩
  unfold State.attemptFailed
  split
  · next t ht =>
    split
    · exact (s.failFlight_acts i _ _).due
    · split
      · exact (s.sendAgain_acts i ht rfl rfl).due
      · exact id
  · exact id

theorem State.returnYielded_acts (s : State) (i : SectionId) : s.Acts (s.returnYielded i) := by
  unfold State.returnYielded
  split
  · next t ht =>
    split
    · exact ((s.clearFlight_stays i).trans (State.reportFailed_stays _ i _ _)).finished
    · exact s.giveBack_acts i ht rfl rfl
  · exact s.clearFlight_acts i

theorem State.endForeign_acts (s : State) (i : SectionId) : s.Acts (s.endForeign i) :=
  (s.returnYielded_acts i).trans (State.enterIdle_acts _ i)

theorem State.sendAnswer_acts (s : State) (i : SectionId) (rs : List OutRec) (l : List CheckFlag) : s.Acts (s.sendAnswer i rs l) :=
  (s.sendAnswer_byLine i rs l).acts (s.sendAnswer_stays i rs l)

theorem State.impliedAlert_acts (s : State) (i : SectionId) (a : Addr) (st : StatusFields) : s.Acts (s.impliedAlert i a st) := by
  unfold State.impliedAlert
  split
  · exact (s.alert_stays _ i a).finished
  · exact .refl s

theorem State.statusReport_acts (s : State) (i : SectionId) (a : Addr) (st : StatusFields) : s.Acts (s.statusReport i a st) :=
  (s.statusReport_noCall i i a st).acts (s.statusReport_stays i a st)

theorem State.takeNotice_acts (s : State) (i : SectionId) (a : Addr) (st : StatusFields) : s.Acts (s.takeNotice i a st) := by
  unfold State.takeNotice
  split
  · exact (s.statusReport_acts i a st).trans (State.impliedAlert_acts _ i a st)
  · exact .refl s

theorem State.driveUnresolved_acts (s : State) (i : SectionId) (g : GoodRec) : s.Acts (s.driveUnresolved i g) := by
  refine (s.driveUnresolved_stays i g).acts ?_
  unfold State.driveUnresolved
  split <;> simp

theorem State.handRecord_acts (s : State) (i : SectionId) (g : GoodRec) : s.Acts (s.handRecord i g).1 := by
  unfold State.handRecord
  split
  · exact (s.alert_stays _ i _).finished
  · exact (s.answerRecord_stays i _).finished
  · exact (s.onhook_stays i _).finished
  · split
    · exact s.takeNotice_acts i _ _
    · exact .refl s
  all_goals exact .refl s

theorem State.handRecords_acts (i : SectionId) (gs : List GoodRec) (driven : Bool) (s : State) :
    s.Acts (State.handRecords i gs driven s).1 := by
  induction gs generalizing driven s with
  | nil => exact .refl s
  | cons g gs ih =>
    unfold State.handRecords
    dsimp only
    refine State.Acts.trans ?_ (ih _ _)
    split
    · exact (s.driveUnresolved_acts i g).trans (State.handRecord_acts _ i g)
    · exact s.handRecord_acts i g

theorem State.textAcked_acts (s : State) (i : SectionId) {t : Txn} (h : (s.sec i).inFlight = some t) (cs : List Byte) :
    s.Acts (s.textAcked i t cs) := by
  unfold State.textAcked
  split
  · split
    · exact s.succeed_acts i
    · exact s.sendAgain_acts i h rfl rfl
  · exact s.sendAgain_acts i h rfl rfl

theorem State.pollAnswered_acts (s : State) (i : SectionId) (a : Addr) (st : StatusFields) : s.Acts (s.pollAnswered i a st) :=
  ((((s.clearFlight_acts i).trans (State.statusReport_acts _ i a st)).trans (State.impliedAlert_acts _ i a st)).trans
    ((State.pollEnded_byLine _ i a _).acts (State.pollEnded_stays _ i a _))).trans (State.enterIdle_acts _ i)

theorem State.judgeReply_acts (s : State) (i : SectionId) {t : Txn} (h : (s.sec i).inFlight = some t) (g : GoodRec) :
    s.Acts (s.judgeReply i t g) := by
  unfold State.judgeReply
  split
  · split
    · split
      · exact s.pollAnswered_acts i _ _
      · exact s.attemptFailed_acts i
    · split
      · exact s.textAcked_acts i h _
      · exact s.failFlight_acts i t _
      · exact s.attemptFailed_acts i
    all_goals
      split
      · exact s.succeed_acts i
      · exact s.attemptFailed_acts i
  · exact s.attemptFailed_acts i

/-! ## What happens on a pair -/

theorem State.leadEnds_acts (s : State) (i : SectionId) : s.Acts (s.leadEnds i) := by
  unfold State.leadEnds
  split
  · exact (s.reach_acts _).trans (State.setExch_acts _ i _)
  · exact .refl s

theorem State.burstSent_acts (s : State) (i : SectionId) : s.Acts (s.burstSent i) := by
  unfold State.burstSent
  split
  · split
    · exact s.setExch_acts i _
    · exact .refl s
  · exact s.setExch_acts i _
  · dsimp only
    split
    · exact (s.setExch_acts i _).trans (State.resumeFlight_acts _ i)
    · exact s.setExch_acts i _
  · exact .refl s

theorem State.windowEnds_acts (s : State) (i : SectionId) : s.Acts (s.windowEnds i) := by
  unfold State.windowEnds
  split
  · exact (s.reach_acts _).trans (State.attemptFailed_acts _ i)
  · exact .refl s

theorem State.answerSent_acts (s : State) (i : SectionId) : s.Acts (s.answerSent i) := by
  unfold State.answerSent
  split
  · exact s.endForeign_acts i
  · exact .refl s

theorem State.collide_acts (s : State) (i : SectionId) (b : Burst) : s.Acts (s.collide i b) := by
  refine (s.modLine_stays' i _ (.ofQueue (fun hq => ?_))).acts
  dsimp only
  cases hf : (s.sec i).inFlight with
  | none => exact (hf ▸ hq).landed
  | some t => exact (hf ▸ hq).counts rfl rfl

theorem State.burstInWait_acts (s : State) (i : SectionId) : s.Acts (s.burstInWait i) := by
  unfold State.burstInWait
  split
  · next t _ =>
    dsimp only
    split
    · split
      · exact (s.failFlight_acts i t _).trans (State.receivePost_acts _ i)
      · exact s.failFlight_acts i t _
    · exact s.receivePost_acts i
  · exact s.receivePost_acts i

theorem State.burstOnOwned_acts (s : State) (i : SectionId) : s.Acts (s.burstOnOwned i) := by
  unfold State.burstOnOwned
  split
  · split
    · exact s.receivePost_acts i
    · exact s.collide_acts i _
  · split
    · exact s.receivePost_acts i
    · exact s.collide_acts i _
  · exact s.burstInWait_acts i
  · exact s.setExch_acts i _
  · exact .refl s

theorem State.postBurstStarts_acts (s : State) (i : SectionId) (w : SyncWord) : s.Acts (s.postBurstStarts i w) := by
  unfold State.postBurstStarts
  split
  · split
    · split
      · next h => exact ((s.toActive_stays i (by simp [h]) (by simp [h])).trans (State.modLine_stays _ i _)).finished
      · split
        · exact s.receivePost_acts i
        · exact s.burstOnOwned_acts i
        all_goals exact .refl s
      all_goals exact .refl s
    · exact .refl s
  · exact .refl s

theorem State.replyEnds_acts (s : State) (i : SectionId) (recs : List LineRec) : s.Acts (s.replyEnds i recs) := by
  unfold State.replyEnds
  split
  · next t _ ht =>
    have hf : ((s.burstEnded i).sec i).inFlight = some t := by simpa [State.burstEnded] using ht
    split
    · exact (s.burstEnded_acts i).trans (State.judgeReply_acts _ i hf _)
    · exact (s.burstEnded_acts i).trans (State.attemptFailed_acts _ i)
  · exact .refl s

theorem State.discardPost_acts (s : State) (i : SectionId) : s.Acts (s.discardPost i) := by
  unfold State.discardPost
  split
  · exact s.endForeign_acts i
  · exact s.setExch_acts i _

theorem State.postEnds_acts (s : State) (i : SectionId) (recs : List LineRec) : s.Acts (s.postEnds i recs) := by
  unfold State.postEnds
  split
  · split
    · next gs _ =>
      have hhanded := (s.burstEnded_acts i).trans (State.handRecords_acts i gs false _)
      dsimp only
      split
      · exact hhanded.trans (State.endForeign_acts _ i)
      · exact hhanded.trans (State.sendAnswer_acts _ i _ _)
    · exact (s.burstEnded_acts i).trans (State.discardPost_acts _ i)
  · exact .refl s

theorem State.carrierUp_acts (s : State) (i : SectionId) : s.Acts (s.carrierUp i) := by
  unfold State.carrierUp
  split
  · exact .refl s
  · exact (s.modLine_stays i _).acts

theorem State.carrierGone_acts (s : State) (i : SectionId) : s.Acts (s.carrierGone i) := by
  unfold State.carrierGone
  split
  · exact s.workArrived_acts i
  · exact s.resumeFlight_acts i
  · exact (s.burstEnded_acts i).trans (State.attemptFailed_acts _ i)
  · exact (s.burstEnded_acts i).trans (State.endForeign_acts _ i)
  · exact s.endForeign_acts i
  · exact s.sendAnswer_acts i _ _
  all_goals exact .refl s

theorem State.carrierDown_acts (s : State) (i : SectionId) : s.Acts (s.carrierDown i) := by
  unfold State.carrierDown
  split
  · exact ((s.modLine_stays i _).acts).trans (State.carrierGone_acts _ i)
  · exact .refl s

theorem State.stuckOutcome_acts (s : State) (i : SectionId) : s.Acts (s.stuckOutcome i) := by
  unfold State.stuckOutcome
  split
  · exact s.workArrived_acts i
  · exact s.resumeFlight_acts i
  · exact s.attemptFailed_acts i
  · exact (s.burstEnded_acts i).trans (State.attemptFailed_acts _ i)
  · exact (s.burstEnded_acts i).trans (State.endForeign_acts _ i)
  · exact s.endForeign_acts i
  · exact s.endForeign_acts i
  all_goals exact .refl s

theorem State.stuckLimit_acts (s : State) (i : SectionId) : s.Acts (s.stuckLimit i) := by
  unfold State.stuckLimit
  split
  · exact (((s.reach_acts _).trans (State.modLine_stays _ i _).acts).trans (State.post_acts _ _)).trans (State.stuckOutcome_acts _ i)
  · exact .refl s

theorem State.spaceUp_acts (s : State) (i : SectionId) : s.Acts (s.spaceUp i) := by
  unfold State.spaceUp
  split
  · exact .refl s
  · exact (s.modLine_stays i _).acts

theorem State.abandonForBreak_acts (s : State) (i : SectionId) : s.Acts (s.abandonForBreak i) := by
  unfold State.abandonForBreak
  split
  · exact s.returnYielded_acts i
  · split
    · next t ht => exact s.giveBack_acts i ht rfl rfl
    · exact s.clearFlight_acts i

theorem State.autoTrigger_acts (s : State) (i : SectionId) : s.Acts (s.autoTrigger i) := by
  unfold State.autoTrigger
  split
  · exact ((s.modSec_stays i _).acts).trans (State.arbiter_acts _ i)
  · exact .refl s

theorem State.enterBreak_acts (s : State) (i : SectionId) : s.Acts (s.enterBreak i) := by
  unfold State.enterBreak
  split
  · exact (s.modLine_stays i _).acts
  · exact (((s.modLine_stays i _).acts).trans (State.post_acts _ _)).trans (State.autoTrigger_acts _ i)

theorem State.breakTime_acts (s : State) (i : SectionId) : s.Acts (s.breakTime i) := by
  unfold State.breakTime
  split
  · exact ((s.reach_acts _).trans (State.abandonForBreak_acts _ i)).trans (State.enterBreak_acts _ i)
  · exact .refl s

theorem State.closeEpisode_acts (s : State) (i : SectionId) : s.Acts (s.closeEpisode i) := by
  unfold State.closeEpisode
  split
  · exact (s.post_acts _).trans (State.modSec_stays _ i _).acts
  · exact .refl s

theorem State.spaceDown_acts (s : State) (i : SectionId) : s.Acts (s.spaceDown i) := by
  unfold State.spaceDown
  split
  · exact (s.closeEpisode_acts i).trans (State.modLine_stays _ i _).acts
  · exact .refl s

theorem State.settleQuiet_acts (s : State) (i : SectionId) : s.Acts (s.settleQuiet i) := by
  unfold State.settleQuiet
  split
  · exact (s.reach_acts _).trans (State.enterIdle_acts _ i)
  · exact .refl s

theorem State.endMark_acts (s : State) (i : SectionId) : s.Acts (s.endMark i) := by
  unfold State.endMark
  split
  · exact s.enterIdle_acts i
  · exact .refl s

theorem State.setLtu_acts (s : State) (i : SectionId) (x : LtuSection) : s.Acts (s.setLtu i x) := (s.setLtu_stays i x).acts

theorem State.completeMeasure_acts (s : State) (i : SectionId) (r : Running) (samples : List Nat) :
    s.Acts (s.completeMeasure i r samples) := by
  unfold State.completeMeasure
  dsimp only
  exact ((s.setLtu_acts i _).trans (State.post_acts _ _)).trans (State.modLine_stays _ i _).acts

theorem State.takeSample_acts (s : State) (i : SectionId) (n : Nat) : s.Acts (s.takeSample i n) := by
  unfold State.takeSample
  split
  · dsimp only
    split
    · exact (s.reach_acts _).trans (State.completeMeasure_acts _ i _ _)
    · exact (s.reach_acts _).trans (State.setLtu_acts _ i _)
  · exact .refl s

/-! ## Power states that rise, the timebase, the call timers and the channel inputs -/

/-- A wake cause that reaches a section that is not SETTLING gives no occasion. -/
theorem State.arrive_due (s : State) (i : SectionId) (w : WakeReason) (h : ∀ p, (s.sec i).power ≠ .settling p) :
    (s.arrive i w).dispatchDue = s.dispatchDue := by
  unfold State.arrive
  split
  · rfl
  · rfl
  · next hp => exact absurd hp (h _)
  · rfl
  · rfl

theorem State.offHook_acts (s : State) (i : SectionId) : s.Acts (s.offHook i) := by
  unfold State.offHook
  split
  · next h => exact (s.arrive_stays i .post).acts (s.arrive_due i .post (by simp [h]))
  · exact .refl s

theorem State.powerUpEnds_acts (s : State) (i : SectionId) : s.Acts (s.powerUpEnds i) := by
  unfold State.powerUpEnds
  split
  · next hp _ =>
    refine (s.reach_acts _).trans (State.modLine_stays _ i _ (hp := ?_)).acts
    exact .inr ⟨⟨by simp [hp], by simp [hp]⟩, .inr ⟨.announce, rfl⟩⟩
  · exact .refl s

theorem State.openDue_acts (s : State) (i : SectionId) : s.Acts (s.openDue i) := by
  unfold State.openDue
  split
  · exact ((s.modSec_stays i _).acts).trans ((State.openRound_byLine _ i).acts (State.openRound_stays _ i))
  · exact .refl s

theorem State.tellActive_acts (s : State) (i : SectionId) : s.Acts (s.tellActive i) :=
  (s.post_acts _).trans (State.modSec_stays _ i _).acts

theorem State.announceEnds_acts (s : State) (i : SectionId) : s.Acts (s.announceEnds i) := by
  unfold State.announceEnds
  split
  · next t hp _ =>
    have hup : s.Stays ((s.reach t.due).modLine i (fun x => { x with power := .active, wakeTimer := none })) :=
      (s.reach_acts t.due).toStays.trans (State.modLine_stays _ i _ (hp := .inr ⟨⟨by simp [hp], by simp [hp]⟩, .inl rfl⟩))
    exact ((((hup.trans (State.settleIdle_stays _ i)).trans (State.tellActive_acts _ i).toStays).trans
      (State.openDue_acts _ i).toStays).trans (State.arbiter_stays _ i)).trans (State.markDispatch_stays _) |>.finished
  · exact .refl s

theorem State.ageingStep_acts (s : State) (r : Nat) : s.Acts (s.ageingStep r) := by
  unfold State.ageingStep
  split
  · split
    · exact s.markDispatch_stays.finished
    · exact .refl s
  · exact .refl s

theorem State.openAndAct_acts (s : State) (i : SectionId) : s.Acts (s.openAndAct i) :=
  (s.openAndAct_byLine i).acts ((s.openRound_stays i).trans (State.workArrived_stays _ i))

theorem State.roundFallsDue_acts (s : State) (i : SectionId) : s.Acts (s.roundFallsDue i) := by
  unfold State.roundFallsDue
  split
  · split
    · exact (s.modSec_stays i _).acts
    · exact s.openAndAct_acts i
  · exact ((s.arrive_stays i .schedule).trans (State.openAndAct_acts _ i).toStays).finished
  · next h =>
    exact ((s.modSec_stays i _).acts).trans
      ((State.arrive_stays _ i .schedule).acts (State.arrive_due _ i .schedule (by simp [h])))
  · next h =>
    exact ((s.modSec_stays i _).acts).trans
      ((State.arrive_stays _ i .schedule).acts (State.arrive_due _ i .schedule (by simp [h])))
  · exact .refl s

theorem State.countdown_acts (s : State) (i : SectionId) : s.Acts (s.countdown i) := by
  unfold State.countdown
  split
  · split
    · exact ((s.modSec_stays i _).acts).trans (State.roundFallsDue_acts _ i)
    · exact .refl s
  · exact .refl s

theorem State.offerExpires_acts (s : State) (r : Nat) : s.Acts (s.offerExpires r) := by
  unfold State.offerExpires
  split
  · split
    · exact ((s.reach_acts _).toStays.trans (State.requeue_stays _ _ _)).finished
    · exact .refl s
  · exact .refl s

theorem State.ringExpires_acts (s : State) (r : Nat) : s.Acts (s.ringExpires r) := by
  unfold State.ringExpires
  split
  · split
    · exact ((s.reach_acts _).toStays.trans (State.endCall_stays _ _ _)).finished
    · exact .refl s
  · exact .refl s

theorem State.setChan_stays (s : State) (c : ChanId) (x : Channel) : s.Stays (s.setChan c x) := .ofFields

theorem State.loseCall_stays (s : State) (c : Call) : s.Stays (s.loseCall c) := by
  unfold State.loseCall
  split
  · exact s.endCall_stays c _
  · exact s.requeue_stays c _

theorem State.readyFalls_acts (s : State) (ch : ChanId) : s.Acts (s.readyFalls ch) := by
  unfold State.readyFalls
  dsimp only
  split
  · split
    · exact (((s.setChan_stays ch _).trans (State.setChan_stays _ ch _)).acts).trans (State.post_acts _ _)
    iterate 3
      split
      · exact (((s.setChan_stays ch _).trans (State.loseCall_stays _ _)).trans (State.post_stays _ _)).finished
      · exact (s.setChan_stays ch _).acts
    all_goals exact (s.setChan_stays ch _).acts
  · exact .refl s

theorem State.readyRises_acts (s : State) (ch : ChanId) : s.Acts (s.readyRises ch) := by
  unfold State.readyRises
  dsimp only
  split
  · exact .refl s
  · split
    · exact ((((s.setChan_stays ch _).trans (State.setChan_stays _ ch _)).trans (State.post_stays _ _)).trans
        (State.markDispatch_stays _)).finished
    all_goals exact (s.setChan_stays ch _).acts

/-! ## The serial link -/

theorem State.joinBuffer_acts (s : State) (e : BufEntry) : s.Acts (s.joinBuffer e) := by
  unfold State.joinBuffer
  split
  · next hroom =>
    refine ⟨⟨rfl, id, fun _ => ?_, rfl, fun _ => .refl _, id, fun h => h.congr rfl rfl (fun _ => ⟨rfl, rfl, rfl⟩)⟩, id⟩
    simpa [State.BufferLaw] using hroom
  · exact .refl s

theorem State.withRx_acts (s : State) (r : Receiver) : s.Acts { s with rx := r } := (State.Stays.ofFields).acts

theorem State.frameByte_acts (s : State) (got : List Byte) : s.Acts (s.frameByte got) := by
  unfold State.frameByte
  split
  · split
    · exact (s.withRx_acts _).trans (State.joinBuffer_acts _ _)
    · split
      · exact (s.withRx_acts _).trans (State.joinBuffer_acts _ _)
      · exact s.withRx_acts _
  · exact .refl s

theorem State.receiveByte_acts (s : State) (b : Byte) : s.Acts (s.receiveByte b) := by
  unfold State.receiveByte
  split
  · exact .refl s
  · split
    · split
      · exact s.withRx_acts _
      · exact .refl s
    · exact s.frameByte_acts _

theorem State.receiveBytes_acts (bs : List Byte) (s : State) : s.Acts (s.receiveBytes bs) := by
  induction bs generalizing s with
  | nil => exact .refl s
  | cons b bs ih => exact (s.receiveByte_acts b).trans (ih _)

theorem State.byteGap_acts (s : State) : s.Acts s.byteGap := by
  unfold State.byteGap
  split
  · exact ((s.withRx_acts _).trans (State.reach_acts _ _)).trans (State.joinBuffer_acts _ _)
  · exact .refl s

theorem State.noticeReply_acts (s : State) : s.Acts s.noticeReply := by
  unfold State.noticeReply
  split
  · split
    · exact .refl s
    · exact (State.Stays.ofFields).acts
  all_goals exact .refl s

/-! ## The requests whose owner lets no section fall asleep or go OFF -/

theorem State.onSection_acts (s : State) (n : Nat) {act : SectionId → Answered} (h : ∀ i, s.Acts (act i).1) :
    s.Acts (s.onSection n act).1 := by
  unfold State.onSection
  split
  · split
    · exact h _
    · exact .refl s
  · exact .refl s

theorem State.onSectionInService_acts (s : State) (n : Nat) {act : SectionId → Answered}
    (h : ∀ i, (s.sec i).power ≠ .off → s.Acts (act i).1) : s.Acts (s.onSectionInService n act).1 := by
  refine s.onSection_acts n (fun i => ?_)
  split
  · exact .refl s
  · next hp => exact h i hp

theorem State.onPost_acts (s : State) (p : Nat) {act : Fin 2 → PostEntry → Answered}
    (h : ∀ c e, s.lookup p = some (c, e) → s.Acts (act c e).1) : s.Acts (s.onPost p act).1 := by
  unfold State.onPost
  split
  · split
    · next c e hl => exact h c e hl
    · exact .refl s
  · exact .refl s

theorem State.onCall_acts (s : State) (r : Nat) {act : Call → Answered} (h : ∀ c, s.Acts (act c).1) :
    s.Acts (s.onCall r act).1 := by
  unfold State.onCall
  split
  · split
    · exact h _
    · exact .refl s
  · exact .refl s

theorem State.refuseNamed_acts (s : State) (st : Status) (r : Nat) : s.Acts (s.refuseNamed st r).1 := by
  unfold State.refuseNamed
  split
  · split <;> exact .refl s
  · exact .refl s

theorem State.setGlobalsAct_acts (s : State) (g : RawGlobals) : s.Acts (s.setGlobalsAct g).1 := by
  unfold State.setGlobalsAct
  split
  · exact ((State.Stays.ofFields : s.Stays { s with globals := _ }).trans (State.markDispatch_stays _)).finished
  · exact .refl s

theorem storedTiming_unreachable (t : RawTiming) : 1 ≤ t.stored.unreachable ∧ t.stored.unreachable ≤ 8 := by
  simp only [RawTiming.stored, clampTo]
  split
  · omega
  · split <;> omega

theorem State.setTimingAct_acts (s : State) (n : Nat) (t : RawTiming) : s.Acts (s.setTimingAct n t).1 := by
  refine s.onSection_acts n (fun i => ?_)
  split
  · refine State.Stays.acts ⟨rfl, id, id, rfl, fun j => ?_, fun hq j => ?_, fun hf => ?_⟩
    · rw [State.sec_modSec]
      split
      · next hj => exact hj ▸ .refl _
      · exact .refl _
    · rw [State.sec_modSec]
      split
      · exact (hq i).congr rfl rfl
      · exact hq j
    · refine hf.rewrite (fun _ _ e => e) rfl (fun r c => by simp) (fun _ _ e _ => .refl e) (fun j => ?_) (fun r c e he => ?_)
        (fun r c e he => ?_)
      · rw [State.sec_modSec]
        split
        · refine ⟨(hf.threshold i).1, (hf.threshold i).2.1, fun u hu => ?_⟩
          cases hu
          exact (storedTiming_unreachable t)
        · exact hf.threshold j
      · unfold State.thresholdOf
        rw [State.sec_modSec]
        split
        · next hj => exact hj ▸ hf.counted r c e he
        · exact hf.counted r c e he
      · rw [State.sec_modSec]
        split
        · next hj => exact hj ▸ hf.placed r c e he
        · exact hf.placed r c e he
  · exact (s.applyTiming_noCall i _).acts (s.applyTiming_stays i _ (fun _ => (storedTiming_unreachable t)))

theorem State.forceIdleAct_acts (s : State) (n : Nat) : s.Acts (s.forceIdleAct n).1 := by
  refine s.onSectionInService_acts n (fun i _ => ?_)
  dsimp only
  split
  · exact s.enterIdle_acts i
  · exact .refl s

theorem State.pollNowAct_acts (s : State) (n : Nat) : s.Acts (s.pollNowAct n).1 := by
  refine s.onSectionInService_acts n (fun i _ => ?_)
  split
  · split
    · exact .refl s
    · exact s.openAndAct_acts i
  · exact ((s.arrive_stays i .host).trans (State.openAndAct_acts _ i).toStays).finished
  · next h =>
    exact ((s.modSec_stays i _).acts).trans ((State.arrive_stays _ i .host).acts (State.arrive_due _ i .host (by simp [h])))
  · next h =>
    exact ((s.modSec_stays i _).acts).trans ((State.arrive_stays _ i .host).acts (State.arrive_due _ i .host (by simp [h])))
  · exact .refl s

theorem State.measureAct_acts (s : State) (n : Nat) : s.Acts (s.measureAct n).1 := by
  refine s.onSectionInService_acts n (fun i _ => ?_)
  split
  · exact .refl s
  · exact (((s.arrive_stays i .host).trans (State.modSec_stays _ i _)).trans (State.arbiter_stays _ i)).finished

theorem State.sec_toActive (s : State) (i j : SectionId) :
    (s.toActive i).sec j =
      if i = j then
        SectionCtl.retime s.nowMs { s.sec i with power := .active, line := .idle, exch := .quiet, settleTimer := none,
                                                 idleSince := some s.nowMs }
      else s.sec j :=
  s.sec_modLine i j (fun x => { x with power := .active, line := .idle, exch := .quiet, settleTimer := none,
                                       idleSince := some s.nowMs })

/-- A wake cause touches no transaction. -/
theorem State.arrive_transactions (s : State) (i : SectionId) (w : WakeReason) :
    ((s.arrive i w).sec i).queue = (s.sec i).queue ∧ ((s.arrive i w).sec i).inFlight = (s.sec i).inFlight := by
  unfold State.arrive
  split
  · simp [State.startWake, SectionCtl.retime]
  · simp
  · simp [State.sec_toActive, SectionCtl.retime]
  all_goals exact ⟨rfl, rfl⟩

/-- A host entry joins a queue that has a place for it (R76). -/
theorem State.hostEntry_acts (s : State) (i : SectionId) (f : List Txn → List Txn)
    (h : QueueOk (s.sec i).queue (s.sec i).inFlight → QueueOk (f (s.sec i).queue) (s.sec i).inFlight) :
    s.Acts (s.hostEntry i f) := by
  have hsame := s.arrive_transactions i .host
  have hjoined : (s.arrive i .host).Stays ((s.arrive i .host).modQueue i f) :=
    State.modQueue_stays _ i f (by rw [hsame.1, hsame.2]; exact h)
  exact (((s.arrive_stays i .host).trans hjoined).trans (State.workArrived_stays _ i)).finished

theorem State.lampAct_acts (s : State) (p n : Nat) : s.Acts (s.lampAct p n).1 := by
  unfold State.lampAct
  split
  · next pat _ =>
    refine s.onPost_acts p (fun c e _ => ?_)
    split
    · exact .refl s
    · split
      · exact .refl s
      · next hroom =>
        refine s.hostEntry_acts e.sec _ (fun hq => hq.joinLamp (p := pat) rfl rfl ?_)
        simpa [SectionCtl.lampQueued, SectionCtl.hostCount_eq, Txn.fresh, -List.any_eq_true, or_iff_not_imp_left] using hroom
  · exact .refl s

theorem State.messageAct_acts (s : State) (p : Nat) (text : List Byte) : s.Acts (s.messageAct p text).1 := by
  refine s.onPost_acts p (fun c e _ => ?_)
  split
  · exact .refl s
  · split
    · exact .refl s
    · next hroom =>
      refine s.hostEntry_acts e.sec _ (fun hq => hq.append rfl (by simp [Txn.fresh]) rfl ?_)
      rw [SectionCtl.hostCount_eq] at hroom
      omega

theorem State.refuseDirection_acts (s : State) (n : Nat) : s.Acts (s.refuseDirection n).1 := by
  unfold State.refuseDirection
  split <;> exact .refl s

theorem State.setChannelOutAct_acts (s : State) (n d : Nat) : s.Acts (s.setChannelOutAct n d).1 := by
  unfold State.setChannelOutAct
  split
  · dsimp only
    split
    iterate 2 exact ((s.setChan_stays _ _).acts).trans (State.post_acts _ _)
    all_goals exact .refl s
  · exact s.refuseDirection_acts n

theorem State.setChannelInAct_acts (s : State) (n d : Nat) : s.Acts (s.setChannelInAct n d).1 := by
  unfold State.setChannelInAct
  split
  · next ch _ =>
    dsimp only
    have hback := (s.setChan_stays ch (s.chan ch).released).trans (State.post_stays _ (.channelState ch (s.chan ch).released.state
      (s.chan ch).ready .setIn))
    split
    · dsimp only
      split
      · exact (hback.trans (State.markDispatch_stays _)).finished
      · exact hback.acts (by simp)
    · exact .refl s
  · exact s.refuseDirection_acts n

theorem State.answerAct_acts (s : State) (r : Nat) : s.Acts (s.answerAct r).1 := by
  refine s.onCall_acts r (fun c => ?_)
  split
  · exact (s.connect_stays c _).finished
  · exact .refl s

theorem State.pickAct_acts (s : State) (r n : Nat) : s.Acts (s.pickAct r n).1 := by
  unfold State.pickAct
  split
  · refine s.onCall_acts r (fun c => ?_)
    split
    · split
      · split
        · exact (s.connect_stays c _).finished
        · exact .refl s
      · exact .refl s
    · exact .refl s
  · exact s.refuseNamed_acts _ r

theorem State.parkAct_acts (s : State) (r : Nat) : s.Acts (s.parkAct r).1 := by
  refine s.onCall_acts r (fun c => ?_)
  split
  · exact (s.parkCall_stays c _).finished
  · exact .refl s

theorem State.retrieveAct_acts (s : State) (r n : Nat) : s.Acts (s.retrieveAct r n).1 := by
  unfold State.retrieveAct
  split
  · refine s.onCall_acts r (fun c => ?_)
    split
    · split
      · exact (s.connect_stays c _).finished
      · exact .refl s
    · exact .refl s
  · exact s.refuseNamed_acts _ r

theorem State.clearAct_acts (s : State) (r : Nat) : s.Acts (s.clearAct r).1 := by
  refine s.onCall_acts r (fun c => ?_)
  split
  · exact .refl s
  · exact (s.endCall_stays c _).finished

theorem State.dismissAct_acts (s : State) (r : Nat) : s.Acts (s.dismissAct r).1 := by
  refine s.onCall_acts r (fun c => ?_)
  split
  · exact (s.endCall_stays c _).finished
  · exact .refl s

theorem State.ringNew_acts (s : State) (i : SectionId) (a : Addr) (ch : ChanId) : s.Acts (s.ringNew i a ch).1 :=
  ((s.addCall_stays _).trans (State.ring_stays _ _ ch)).finished

theorem State.callEntry_acts (s : State) (e : PostEntry) (ch : Option ChanId) : s.Acts (s.callEntry e ch).1 := by
  unfold State.callEntry
  split
  · split
    · split
      · exact .refl s
      · split
        · exact (s.ring_stays _ _).finished
        · exact .refl s
    · exact .refl s
  · split
    · exact .refl s
    · split
      · split
        · exact s.ringNew_acts _ _ _
        · split
          · exact ⟨(s.endCall_stays _ _).trans (State.ringNew_acts _ _ _ _).toStays, fun _ => State.finish_due _⟩
          · exact .refl s
      · exact .refl s

theorem State.callPostAct_acts (s : State) (p n : Nat) : s.Acts (s.callPostAct p n).1 := by
  unfold State.callPostAct
  split
  · refine s.onPost_acts p (fun c e _ => ?_)
    split
    · exact .refl s
    · exact s.callEntry_acts e _
  · exact .refl s

theorem State.getEventAct_acts (s : State) : s.Acts s.getEventAct.1 := by
  unfold State.getEventAct
  split
  · next e es hes =>
    refine State.Stays.acts ⟨rfl, fun he => ?_, id, rfl, fun _ => .refl _, id, fun h => h.congr rfl rfl (fun _ => ⟨rfl, rfl, rfl⟩)⟩
    obtain ⟨hlen, hlost⟩ := he
    rw [hes] at hlen hlost
    exact ⟨Nat.le_of_succ_le hlen, fun x hx => hlost x (List.mem_cons_of_mem _ hx)⟩
  · exact .refl s

theorem State.readHistoryAct_acts (s : State) (n : Nat) : s.Acts (s.readHistoryAct n).1 := by
  unfold State.readHistoryAct
  split <;> exact .refl s

theorem State.readUnresolvedAct_acts (s : State) : s.Acts s.readUnresolvedAct.1 := (State.Stays.ofFields).acts

/-! ## The requests that write the directory -/

/-- A write to entries and slots that keeps the directory's laws. -/
theorem State.Acts.ofFiled {s t : State} (h : s.Filed → t.Filed) (hp : t.pending = s.pending := by simp)
    (he : t.events = s.events := by simp) (hb : t.buffer = s.buffer := by simp) (hm : t.mode = s.mode := by simp)
    (hs : t.secs = s.secs := by simp) (hd : t.dispatchDue = s.dispatchDue := by simp) : s.Acts t := by
  refine ⟨⟨hp, .ofEvents he, .ofBuffer hb, hm, fun i => ?_, .ofSecs hs, h⟩, fun h => hd.trans h⟩
  rw [show t.sec i = s.sec i by simp [State.sec, hs]]
  exact .refl _

theorem State.removePostAct_acts (s : State) (p : Nat) : s.Acts (s.removePostAct p).1 := by
  refine s.onPost_acts p (fun c e hl => ?_)
  split
  · exact .refl s
  · exact .ofFiled (fun h => h.remove (State.entry_of_lookup hl).1)

theorem State.setServiceAct_acts (s : State) (p : Nat) (st : ServiceState) : s.Acts (s.setServiceAct p st).1 := by
  refine s.onPost_acts p (fun c e hl => ?_)
  obtain ⟨he, -⟩ := State.entry_of_lookup hl
  exact .ofFiled (fun h => h.setEntry he ⟨rfl, rfl, rfl, rfl⟩ (h.counted _ c e he))

/-- A new entry has no missed poll, and every threshold is at least 1 (R8, R62). -/
theorem State.Filed.newEntry_counts {s : State} (h : s.Filed) (p : Nat) (i : SectionId) (a : Addr) (o : Nat) (cls : PostClass)
    (cw : Carriageway) : (newEntry p i a o cls cw).CountOk (s.thresholdOf i) := by
  refine ⟨Nat.zero_le _, ?_⟩
  have := (h.threshold i).1
  unfold State.thresholdOf
  exact ⟨nofun, fun hle => absurd hle (by simp [newEntry]; omega)⟩

theorem State.defineChecked_acts (s : State) {e : PostEntry} (ha : 1 ≤ e.addr.val)
    (hcount : s.Filed → e.CountOk (s.thresholdOf e.sec)) (hoff : e.offset ≤ s.offsetLimit e.sec) :
    s.Acts (s.defineChecked e).1 := by
  unfold State.defineChecked
  split
  · exact .refl s
  · next hsome =>
    obtain ⟨d, hd⟩ : ∃ d, (s.sec e.sec).defn = some d := by
      cases h : (s.sec e.sec).defn with
      | none => simp [h] at hsome
      | some d => exact ⟨d, rfl⟩
    have hoff : e.offset ≤ d.length := by simpa [State.offsetLimit, hd] using hoff
    split
    · next c old hl =>
      split
      · exact .refl s
      · split
        · exact .refl s
        · next hfree =>
          have hfiled := fun h : s.Filed => h.redefine ha hl (Bool.eq_false_iff.2 hfree) (hcount h) hd hoff
          exact .ofFiled hfiled (by simp [State.redefinePost]) (by simp [State.redefinePost]) (by simp [State.redefinePost])
            (by simp [State.redefinePost]) (by simp [State.redefinePost]) (by simp [State.redefinePost])
    · next hl =>
      split
      · exact .refl s
      · next hfree =>
        split
        · next c hc =>
          have hopen : s.entry (rowOf e.post) c = none := by
            unfold State.openColumn at hc
            split at hc
            · next h0 => cases hc; simpa using h0
            · split at hc
              · next h1 => cases hc; simpa using h1
              · cases hc
          have hfiled := fun h : s.Filed => h.place ha hl hopen (Bool.eq_false_iff.2 hfree) (hcount h) hd hoff
          exact .ofFiled hfiled (by simp [State.placePost]) (by simp [State.placePost]) (by simp [State.placePost])
            (by simp [State.placePost]) (by simp [State.placePost]) (by simp [State.placePost])
        · exact .refl s

theorem State.definePostAct_acts (s : State) (p : RawPost) : s.Acts (s.definePostAct p).1 := by
  unfold State.definePostAct
  split
  · next i a cls cw _ ha _ _ =>
    split
    · next hfields =>
      have haddr : 1 ≤ a.val := by
        unfold addrOf at ha
        split at ha
        · next h => cases ha; exact h.1
        · cases ha
      simp only [Bool.and_eq_true, decide_eq_true_eq] at hfields
      exact s.defineChecked_acts haddr (fun h => h.newEntry_counts ..) hfields.2
    · exact .refl s
  · exact .refl s

theorem vget_mem {α : Type} {n : Nat} (v : Vector α n) (i : Fin n) : v.get i ∈ v.toList :=
  Vector.mem_toList_iff.2 (v.get_eq_getElem i ▸ Vector.getElem_mem i.isLt)

/-- A valid entry is one of its section's posts. -/
theorem State.mem_postsOn {s : State} {r : Fin 64} {c : Fin 2} {e : PostEntry} (h : s.entry r c = some e) :
    e ∈ s.postsOn e.sec := by
  have hrow : some e ∈ (s.dir.get r).toList := by
    rw [← h]
    exact vget_mem _ c
  unfold State.postsOn State.entries
  rw [List.mem_filter, List.mem_flatMap]
  exact ⟨⟨s.dir.get r, vget_mem _ r, List.mem_filterMap.2 ⟨some e, hrow, rfl⟩⟩, by simp⟩

theorem foldl_max_offset (l : List PostEntry) (m : Nat) :
    m ≤ l.foldl (fun m e => max m e.offset) m ∧ ∀ e ∈ l, e.offset ≤ l.foldl (fun m e => max m e.offset) m := by
  induction l generalizing m with
  | nil => simp
  | cons x xs ih =>
    obtain ⟨hstart, hall⟩ := ih (max m x.offset)
    simp only [List.foldl_cons, List.mem_cons, forall_eq_or_imp]
    exact ⟨(Nat.le_max_left _ _).trans hstart, (Nat.le_max_right _ _).trans hstart, hall⟩

/-- The offset of a section's post is at most the largest one (R13). -/
theorem State.offset_le_largest {s : State} {r : Fin 64} {c : Fin 2} {e : PostEntry} (h : s.entry r c = some e) :
    e.offset ≤ s.largestOffset e.sec := (foldl_max_offset _ 0).2 e (State.mem_postsOn h)

/-- A section's definition is stored with a length that every post's offset is within, and its timing stays what it was in force
(R13, R61). -/
theorem State.Filed.define {s : State} (h : s.Filed) {i : SectionId} {v : SectionDef} (hlen : s.largestOffset i ≤ v.length) :
    (s.modSec i (SectionCtl.define v)).Filed := by
  have htim : ∀ j, ((s.modSec i (SectionCtl.define v)).sec j).timingD = (s.sec j).timingD ∧
      ((s.modSec i (SectionCtl.define v)).sec j).pendingTiming = (s.sec j).pendingTiming := by
    intro j
    rw [State.sec_modSec]
    split
    · next hj => subst hj; simp [SectionCtl.define, SectionCtl.timingD]
    · exact ⟨rfl, rfl⟩
  refine h.rewrite (fun _ _ e => e) rfl (fun r c => by simp) (fun _ _ e _ => .refl e) (fun j => ?_) (fun r c e he => ?_)
    (fun r c e he => ?_)
  · rw [(htim j).1, (htim j).2]
    exact h.threshold j
  · rw [State.thresholdOf, (htim _).1]
    exact h.counted r c e he
  · rw [State.sec_modSec]
    split
    · next hi => exact ⟨v, rfl, Nat.le_trans (State.offset_le_largest he) (hi ▸ hlen)⟩
    · exact h.placed r c e he

theorem State.defineSectionAct_acts (s : State) (n : Nat) (d : RawSection) : s.Acts (s.defineSectionAct n d).1 := by
  unfold State.defineSectionAct
  split
  · next i v _ _ =>
    split
    · exact .refl s
    · split
      · exact .refl s
      · next hlen =>
        refine State.Stays.acts ⟨rfl, id, id, rfl, fun j => ?_, fun hq j => ?_, fun h => h.define (Nat.le_of_not_lt hlen)⟩
        · rw [State.sec_modSec]
          split
          · next hj => exact hj ▸ .refl _
          · exact .refl _
        · rw [State.sec_modSec]
          split
          · exact (hq i).congr rfl rfl
          · exact hq j
  · exact .refl s

/-! ## Section resets -/

theorem State.abortQueue_power' (s : State) (i j : SectionId) : ((s.abortQueue i).sec j).power = (s.sec j).power := by
  unfold State.abortQueue State.abortMeasure
  split
  · simp only [State.sec_post, State.sec_modSec, State.sec_setLtu, State.sec_modLine, if_true]
    split
    · next hj => subst hj; rfl
    · rfl
  · split
    · simp only [State.sec_post, State.sec_modSec, State.sec_modLine, if_true]
      split
      · next hj => subst hj; rfl
      · rfl
    · simp only [State.sec_modLine]
      split
      · next hj => subst hj; rfl
      · rfl

theorem State.resetLine_stays (s : State) (i : SectionId) (h : (s.sec i).power ≠ .off) : s.Stays (s.resetLine i) := by
  unfold State.resetLine
  split
  · exact s.modLine_stays i _
  · next hon => exact s.startWake_stays i _ h hon

/-- A section in service is reset (R81): it stays in service. -/
theorem State.resetSection_acts (s : State) (i : SectionId) (h : (s.sec i).power ≠ .off) : s.Acts (s.resetSection i) := by
  have hcleared : s.Stays (((State.endCallsQuietly .sectionReset (s.callsInOrder i) (s.abortQueue i)).modSec i
      (fun x => { x with round := none })).applyPending i) :=
    (((s.abortQueue_stays i).trans (State.endCallsQuietly_stays _ _ _)).trans (State.modSec_stays _ i _)).trans
      (State.applyPending_stays _ i)
  refine ((hcleared.trans (State.resetLine_stays _ i ?_)).trans (State.reportAborted_stays i _ _)).finished
  rcases hcleared.power i with hp | ⟨-, hp | ⟨w, hp⟩⟩
  · rw [hp]; exact h
  · rw [hp]; nofun
  · rw [hp]; nofun

theorem State.sectionResetAct_acts (s : State) (n : Nat) : s.Acts (s.sectionResetAct n).1 :=
  s.onSectionInService_acts n (fun i h => s.resetSection_acts i h)

end Sys2Proof.Machine
end

section
-- One theorem after another: elaborated side by side, they ask for more thread stacks than the check has memory for.
set_option Elab.async false
/-! SUPPORT. What every step keeps (O2, O18, O19, O20): the commands that let a section fall asleep, go OFF or start, the resets, and
all 73 commands together. -/

namespace Sys2Proof.Machine

/-! ## What a command keeps -/

/-- What every command keeps, whatever it does to the power states. -/
structure State.Keeps (s t : State) : Prop where
  pending : t.pending = s.pending
  events : s.EventLaw → t.EventLaw
  buffer : s.BufferLaw → t.BufferLaw
  setup : s.SetupLaw → t.SetupLaw
  queue : s.QueueLaw → t.QueueLaw
  filed : s.Filed → t.Filed

theorem State.Keeps.trans {s t u : State} (h1 : s.Keeps t) (h2 : t.Keeps u) : s.Keeps u :=
  ⟨h2.pending.trans h1.pending, h2.events ∘ h1.events, h2.buffer ∘ h1.buffer, h2.setup ∘ h1.setup, h2.queue ∘ h1.queue,
    h2.filed ∘ h1.filed⟩

/-- In SETUP a section that is OFF stays OFF where no operation takes it out (R191). -/
theorem State.Stays.keeps {s t : State} (h : s.Stays t) : s.Keeps t := by
  refine ⟨h.pending, h.events, h.buffer, fun hs hm i => ?_, h.queue, h.filed⟩
  have hp := h.power i
  rw [hs (h.mode ▸ hm) i] at hp
  exact hp.off

/-- A section controller changed with its transactions, its definition and its timing as they were; in SETUP it stays OFF. -/
theorem State.setSec_keeps (s : State) (i : SectionId) {x : SectionCtl} (hsetup : s.SetupLaw → s.mode = .setup → x.power = .off)
    (hq : x.queue = (s.sec i).queue := by rfl) (hf : x.inFlight = (s.sec i).inFlight := by rfl)
    (hd : x.defn = (s.sec i).defn := by rfl) (ht : x.timing = (s.sec i).timing := by rfl)
    (hpt : x.pendingTiming = (s.sec i).pendingTiming := by rfl) : s.Keeps (s.setSec i x) := by
  refine ⟨rfl, id, id, fun hs hm j => ?_, fun hlaw j => ?_, fun h => h.congr rfl rfl (fun j => ?_)⟩
  all_goals rw [State.sec_setSec]; split
  · exact hsetup hs hm
  · exact hs hm j
  · exact (hlaw i).congr hq hf
  · exact hlaw j
  · next hj => exact hj ▸ ⟨hd, ht, hpt⟩
  · exact ⟨rfl, rfl, rfl⟩

/-- A section in service is none of SETUP's (R191). -/
theorem State.SetupLaw.absurd_power {s : State} {i : SectionId} {P : Prop} (hs : s.SetupLaw) (hm : s.mode = .setup)
    (hp : (s.sec i).power ≠ .off) : P := absurd (hs hm i) hp

/-- What every command keeps, the dispatcher's due act among it (R161). -/
structure State.Steps (s t : State) : Prop extends State.Keeps s t where
  due : s.dispatchDue = false → t.dispatchDue = false

theorem State.Acts.steps {s t : State} (h : s.Acts t) : s.Steps t := ⟨h.toStays.keeps, h.due⟩

theorem State.Steps.trans {s t u : State} (h1 : s.Steps t) (h2 : t.Steps u) : s.Steps u :=
  ⟨h1.toKeeps.trans h2.toKeeps, h2.due ∘ h1.due⟩

/-! ## Sections that fall asleep -/

theorem State.enterSettling_steps (s : State) (i : SectionId) : s.Steps (s.enterSettling i) := by
  unfold State.enterSettling
  split
  · next hmay =>
    have hactive : (s.sec i).power = .active := by
      simp only [State.maySettle, Bool.and_eq_true, beq_iff_eq] at hmay
      tauto
    exact ⟨s.setSec_keeps i (fun hs hm => hs.absurd_power hm (i := i) (by simp [hactive])), id⟩
  · exact (State.Acts.refl s).steps

theorem State.shutdownDone_steps (s : State) (i : SectionId) : s.Steps (s.shutdownDone i) := by
  unfold State.shutdownDone
  split
  · next hp _ => exact ⟨s.setSec_keeps i (fun hs hm => hs.absurd_power hm (i := i) (by simp [hp])), id⟩
  · exact (State.Acts.refl s).steps

theorem State.settleEnds_steps (s : State) (i : SectionId) (off : Bool) : s.Steps (s.settleEnds i off) := by
  unfold State.settleEnds
  split
  · next t hp _ =>
    have hslept : (s.reach t.due).Keeps ((s.reach t.due).modLine i (fun x => { x with power := .hibernate, settleTimer := none })) :=
      State.setSec_keeps _ i (fun hs hm => hs.absurd_power hm (i := i) (by simp [hp]))
    have hasleep : s.Steps (((s.reach t.due).modLine i (fun x => { x with power := .hibernate, settleTimer := none })).post
        (.sectionState i .hibernate .empty)) :=
      ((s.reach_acts _).steps.trans ⟨hslept, id⟩).trans (State.post_acts _ _).steps
    dsimp only
    split
    · exact hasleep.trans ((State.arrive_stays _ i .post).acts (State.arrive_due _ i .post (by simp [SectionCtl.retime]))).steps
    · exact hasleep
  · exact (State.Acts.refl s).steps

/-! ## Sections that go into and out of service -/

theorem State.beginService_mode (s : State) (i : SectionId) : (s.beginService i).mode = s.mode := rfl

/-- The service of a section begins in SERVICE only (R94, R192). -/
theorem State.beginService_steps (s : State) (i : SectionId) (h : s.mode = .service) : s.Steps (s.beginService i) := by
  have hservice : ∀ {x : SectionCtl}, s.SetupLaw → s.mode = .setup → x.power = .off := fun _ hm => by
    rw [h] at hm
    cases hm
  have hwoken : s.Keeps (s.startWake i (ReasonSet.empty.add .host)) := s.setSec_keeps i hservice
  exact ⟨hwoken.trans (State.modSec_stays _ i _).keeps, id⟩

theorem State.beginServices_steps (is : List SectionId) (s : State) (h : s.mode = .service) :
    s.Steps (State.beginServices is s) := by
  induction is generalizing s with
  | nil => exact (State.Acts.refl s).steps
  | cons i is ih => exact (s.beginService_steps i h).trans (ih _ h)

theorem State.startAct_steps (s : State) : s.Steps s.startAct.1 := by
  unfold State.startAct
  split
  · exact (State.Acts.refl s).steps
  · have hmode : s.Steps { s with mode := .service } :=
      ⟨⟨rfl, id, id, (fun _ hm => nomatch hm), id, fun h => h.congr rfl rfl (fun _ => ⟨rfl, rfl, rfl⟩)⟩, id⟩
    exact hmode.trans (State.beginServices_steps _ _ rfl)

theorem State.onSection_steps (s : State) (n : Nat) {act : SectionId → Answered} (h : ∀ i, s.Steps (act i).1) :
    s.Steps (s.onSection n act).1 := by
  unfold State.onSection
  split
  · split
    · exact h _
    · exact (State.Acts.refl s).steps
  · exact (State.Acts.refl s).steps

theorem State.serviceInAct_steps (s : State) (n d f : Nat) (h : s.mode = .service) : s.Steps (s.serviceInAct n d f).1 := by
  unfold State.serviceInAct
  split
  · refine s.onSection_steps n (fun i => ?_)
    dsimp only
    split
    · exact s.beginService_steps i h
    · exact (State.Acts.refl s).steps
  · exact (State.Acts.refl s).steps

theorem State.takeOut_steps (s : State) (i : SectionId) : s.Steps (s.takeOut i) := by
  have hoff : ∀ u : State, u.Keeps (u.modLine i SectionCtl.goOff) := fun u => u.setSec_keeps i (fun _ _ => rfl)
  exact ⟨((((((s.abortQueue_stays i).keeps.trans (hoff _)).trans (State.post_stays _ _).keeps).trans
    (State.applyPending_stays _ i).keeps).trans (State.endCalls_stays _ _ _).keeps).trans
    (State.reportAborted_stays i _ _).keeps).trans (State.finish_stays _).keeps, fun _ => State.finish_due _⟩

theorem State.serviceOutAct_steps (s : State) (n d f : Nat) : s.Steps (s.serviceOutAct n d f).1 := by
  unfold State.serviceOutAct
  split
  · refine s.onSection_steps n (fun i => ?_)
    split
    · exact (State.Acts.refl s).steps
    · split
      · exact s.takeOut_steps i
      · exact (State.Acts.refl s).steps
  · exact (State.Acts.refl s).steps

/-! ## The resets -/

theorem State.deviceReset_filed (s : State) : s.deviceReset.Filed := by
  refine ⟨⟨fun r c => ?_, fun r => ?_⟩, ?_, ?_, fun i => ?_, ?_, ?_⟩
  · simp
  · simp
  · simp
  · simp
  · rw [State.sec_deviceReset]
    have hdefault : ((s.sec i).deviceReset.timingD).unreachable = 3 := rfl
    exact ⟨by omega, by omega, nofun⟩
  · simp
  · simp

theorem State.deviceReset_queueLaw (s : State) : s.deviceReset.QueueLaw := fun i => by
  rw [State.sec_deviceReset, SectionCtl.queueLaw_iff]
  exact .empty

theorem State.deviceReset_setupLaw (s : State) : s.deviceReset.SetupLaw := fun _ i => by
  rw [State.sec_deviceReset]
  rfl

/-- A device reset leaves every law, and the commands that wait are as they were (R199). -/
theorem State.deviceReset_steps (s : State) : s.Steps s.deviceReset :=
  ⟨⟨rfl, fun _ => ⟨by simp [State.deviceReset, State.reset], nofun⟩, fun _ => Nat.zero_le _, fun _ => s.deviceReset_setupLaw,
    fun _ => s.deviceReset_queueLaw, fun _ => s.deviceReset_filed⟩, fun _ => rfl⟩

theorem State.replySent_steps (s : State) : s.Steps s.replySent := by
  unfold State.replySent
  split
  · split
    · exact s.deviceReset_steps
    · refine State.Acts.steps ⟨⟨rfl, id, fun h => ?_, rfl, fun _ => .refl _, id, fun h => h.congr rfl rfl (fun _ => ⟨rfl, rfl, rfl⟩)⟩, id⟩
      unfold State.BufferLaw at *
      dsimp only
      split
      · exact (List.length_tail ▸ Nat.sub_le _ _ : s.buffer.tail.length ≤ _).trans h
      · exact h
  · exact (State.Acts.refl s).steps

theorem State.powerSteady_steps (s : State) : s.Steps s.powerSteady :=
  (State.Stays.ofFields (t := { s with poweringUp := false })).acts.steps.trans (State.deviceReset_steps _)

theorem State.releaseReset_steps (s : State) : s.Steps s.releaseReset := by
  unfold State.releaseReset
  split
  · exact (State.Stays.ofFields (t := { s with resetHeld := false })).acts.steps.trans (State.deviceReset_steps _)
  · exact (State.Acts.refl s).steps

/-- A cut burst leaves the controller's exchange behind and nothing else (R199). -/
theorem SectionCtl.cutBurst_eq (x : SectionCtl) : ∃ e, x.cutBurst = { x with exch := e } := by
  unfold SectionCtl.cutBurst
  split <;> exact ⟨_, rfl⟩

theorem State.cutBursts_acts (is : List SectionId) (s : State) : s.Acts (State.cutBursts is s) := by
  induction is generalizing s with
  | nil => exact .refl s
  | cons i is ih =>
    obtain ⟨e, he⟩ := (s.sec i).cutBurst_eq
    have hcut : s.Acts (s.modLine i SectionCtl.cutBurst) :=
      (s.modLine_stays' i _ (by rw [he]; exact .ofQueue id)).acts
    exact hcut.trans (ih _)

theorem State.assertReset_steps (s : State) : s.Steps s.assertReset := by
  unfold State.assertReset
  split
  · exact (State.Acts.refl s).steps
  · refine State.Steps.trans (t := { s with rx := .hunting, buffer := [], reply := none, headTaken := false,
                                            resetHeld := true, events := [] }) ?_ (State.cutBursts_acts allSections _).steps
    exact ⟨⟨rfl, fun _ => ⟨Nat.zero_le _, fun _ he => nomatch he⟩, fun _ => Nat.zero_le _, id, id,
      fun h => h.congr rfl rfl (fun _ => ⟨rfl, rfl, rfl⟩)⟩, id⟩

/-! ## Every command -/

/-- What a request's owner keeps, the request keeps: taking it fills one place of an empty buffer at most (R188). -/
theorem State.request_steps (s : State) {k : ReqKind} {h : Hdr} {body : List Byte} {want : Nat} {act : State → Answered}
    (hact : ∀ u : State, k.allowedIn u.mode = true → u.Steps (act u).1) : s.Steps (s.request k h body want act) := by
  have htaken : s.Steps (s.take k h body) := by
    refine State.Acts.steps ⟨⟨rfl, id, fun hb => ?_, rfl, fun _ => .refl _, id, fun h => h.congr rfl rfl (fun _ => ⟨rfl, rfl, rfl⟩)⟩, id⟩
    unfold State.BufferLaw State.take at *
    dsimp only
    split
    · simp [Config.bufferDepth]
    · exact hb
  have hanswered : ∀ (u : State) (st : Status) (b : ReplyBody), u.Steps (u.answered k h st b) :=
    fun u st b => (State.Stays.ofFields (t := u.answered k h st b)).acts.steps
  unfold State.request
  split
  · dsimp only
    split
    · exact htaken.trans (hanswered _ _ _)
    · split
      · next hm => exact (htaken.trans (hact _ hm)).trans (hanswered _ _ _)
      · exact htaken.trans (hanswered _ _ _)
  · exact (State.Acts.refl s).steps

theorem State.request_steps_of_acts (s : State) {k : ReqKind} {h : Hdr} {body : List Byte} {want : Nat} {act : State → Answered}
    (hact : ∀ u : State, u.Acts (act u).1) : s.Steps (s.request k h body want act) := s.request_steps (fun u _ => (hact u).steps)

/-- SECTION SERVICE is a request of SERVICE only (R191). -/
theorem mode_of_sectionService {m : Mode} (h : ReqKind.sectionService.allowedIn m = true) : m = .service := by
  cases m with
  | setup => cases h
  | service => rfl

theorem exec_steps (c : Instr) (s : State) : ∃ t, exec c s = .next t ∧ s.Steps t :=
  match c with
  | .identify _ => ⟨_, rfl, s.request_steps_of_acts .refl⟩
  | .reset _ => ⟨_, rfl, s.request_steps_of_acts .refl⟩
  | .start _ => ⟨_, rfl, s.request_steps (fun u _ => u.startAct_steps)⟩
  | .setGlobals _ g => ⟨_, rfl, s.request_steps_of_acts (·.setGlobalsAct_acts g)⟩
  | .defineSection _ n d => ⟨_, rfl, s.request_steps_of_acts (·.defineSectionAct_acts n d)⟩
  | .setSectionTiming _ n t => ⟨_, rfl, s.request_steps_of_acts (·.setTimingAct_acts n t)⟩
  | .sectionServiceIn _ n d f =>
    ⟨_, rfl, s.request_steps (fun u hm => u.serviceInAct_steps n d f (mode_of_sectionService hm))⟩
  | .sectionServiceOut _ n d f => ⟨_, rfl, s.request_steps (fun u _ => u.serviceOutAct_steps n d f)⟩
  | .sectionReset _ n => ⟨_, rfl, s.request_steps_of_acts (·.sectionResetAct_acts n)⟩
  | .forceIdle _ n => ⟨_, rfl, s.request_steps_of_acts (·.forceIdleAct_acts n)⟩
  | .definePost _ p => ⟨_, rfl, s.request_steps_of_acts (·.definePostAct_acts p)⟩
  | .removePost _ p => ⟨_, rfl, s.request_steps_of_acts (·.removePostAct_acts p)⟩
  | .suspendPost _ p => ⟨_, rfl, s.request_steps_of_acts (·.setServiceAct_acts p _)⟩
  | .resumePost _ p => ⟨_, rfl, s.request_steps_of_acts (·.setServiceAct_acts p _)⟩
  | .lamp _ p n => ⟨_, rfl, s.request_steps_of_acts (·.lampAct_acts p n)⟩
  | .message _ p _ text => ⟨_, rfl, s.request_steps_of_acts (·.messageAct_acts p text)⟩
  | .pollNow _ n => ⟨_, rfl, s.request_steps_of_acts (·.pollNowAct_acts n)⟩
  | .measure _ n => ⟨_, rfl, s.request_steps_of_acts (·.measureAct_acts n)⟩
  | .setChannelOut _ n d => ⟨_, rfl, s.request_steps_of_acts (·.setChannelOutAct_acts n d)⟩
  | .setChannelIn _ n d => ⟨_, rfl, s.request_steps_of_acts (·.setChannelInAct_acts n d)⟩
  | .answer _ r => ⟨_, rfl, s.request_steps_of_acts (·.answerAct_acts r)⟩
  | .pick _ r n => ⟨_, rfl, s.request_steps_of_acts (·.pickAct_acts r n)⟩
  | .park _ r => ⟨_, rfl, s.request_steps_of_acts (·.parkAct_acts r)⟩
  | .retrieve _ r n => ⟨_, rfl, s.request_steps_of_acts (·.retrieveAct_acts r n)⟩
  | .clear _ r => ⟨_, rfl, s.request_steps_of_acts (·.clearAct_acts r)⟩
  | .callPost _ p n => ⟨_, rfl, s.request_steps_of_acts (·.callPostAct_acts p n)⟩
  | .dismiss _ r => ⟨_, rfl, s.request_steps_of_acts (·.dismissAct_acts r)⟩
  | .getEvent _ => ⟨_, rfl, s.request_steps_of_acts State.getEventAct_acts⟩
  | .listCalls _ => ⟨_, rfl, s.request_steps_of_acts .refl⟩
  | .readCall _ r => ⟨_, rfl, s.request_steps_of_acts (fun u => u.onCall_acts r (fun _ => .refl u))⟩
  | .readPost _ p => ⟨_, rfl, s.request_steps_of_acts (fun u => u.onPost_acts p (fun _ _ _ => .refl u))⟩
  | .readSection _ n => ⟨_, rfl, s.request_steps_of_acts (fun u => u.onSection_acts n (fun _ => .refl u))⟩
  | .readChannels _ => ⟨_, rfl, s.request_steps_of_acts .refl⟩
  | .readUnresolved _ => ⟨_, rfl, s.request_steps_of_acts State.readUnresolvedAct_acts⟩
  | .readHistory _ n => ⟨_, rfl, s.request_steps_of_acts (·.readHistoryAct_acts n)⟩
  | .readMeasurement _ n => ⟨_, rfl, s.request_steps_of_acts (fun u => u.onSection_acts n (fun _ => .refl u))⟩
  | .frameReceived bs => ⟨_, rfl, (s.receiveBytes_acts bs).steps⟩
  | .frameByteGap => ⟨_, rfl, s.byteGap_acts.steps⟩
  | .discardNoticeReply => ⟨_, rfl, s.noticeReply_acts.steps⟩
  | .replySent => ⟨_, rfl, s.replySent_steps⟩
  | .powerSteady => ⟨_, rfl, s.powerSteady_steps⟩
  | .resetInputAsserted => ⟨_, rfl, s.assertReset_steps⟩
  | .resetInputReleased => ⟨_, rfl, s.releaseReset_steps⟩
  | .secondsTick => ⟨_, rfl, (State.Stays.ofFields (t := s.tickSecond)).acts.steps⟩
  | .ageingStep r => ⟨_, rfl, (s.ageingStep_acts r).steps⟩
  | .pollCountdownExpiry i => ⟨_, rfl, (s.countdown_acts i).steps⟩
  | .enterSettling i => ⟨_, rfl, s.enterSettling_steps i⟩
  | .shutdownSent i => ⟨_, rfl, s.shutdownDone_steps i⟩
  | .settleTimerExpiry i off => ⟨_, rfl, s.settleEnds_steps i off⟩
  | .offHookDetected i => ⟨_, rfl, (s.offHook_acts i).steps⟩
  | .powerUpEnd i => ⟨_, rfl, (s.powerUpEnds_acts i).steps⟩
  | .announceEnd i => ⟨_, rfl, (s.announceEnds_acts i).steps⟩
  | .leadWindowEnd i => ⟨_, rfl, (s.leadEnds_acts i).steps⟩
  | .transactionBurstSent i => ⟨_, rfl, (s.burstSent_acts i).steps⟩
  | .replyWindowExpiry i => ⟨_, rfl, (s.windowEnds_acts i).steps⟩
  | .postBurstStart i w => ⟨_, rfl, (s.postBurstStarts_acts i w).steps⟩
  | .replyBurstEnd i recs => ⟨_, rfl, (s.replyEnds_acts i recs).steps⟩
  | .postBurstEnd i recs => ⟨_, rfl, (s.postEnds_acts i recs).steps⟩
  | .answerBurstSent i => ⟨_, rfl, (s.answerSent_acts i).steps⟩
  | .carrierAppears i => ⟨_, rfl, (s.carrierUp_acts i).steps⟩
  | .carrierDrops i => ⟨_, rfl, (s.carrierDown_acts i).steps⟩
  | .stuckLimit i => ⟨_, rfl, (s.stuckLimit_acts i).steps⟩
  | .spaceAppears i => ⟨_, rfl, (s.spaceUp_acts i).steps⟩
  | .breakTime i => ⟨_, rfl, (s.breakTime_acts i).steps⟩
  | .spaceEnds i => ⟨_, rfl, (s.spaceDown_acts i).steps⟩
  | .settleQuiet i => ⟨_, rfl, (s.settleQuiet_acts i).steps⟩
  | .endMarkObserved i => ⟨_, rfl, (s.endMark_acts i).steps⟩
  | .sampleTaken i n => ⟨_, rfl, (s.takeSample_acts i n).steps⟩
  | .offerTimeout r => ⟨_, rfl, (s.offerExpires_acts r).steps⟩
  | .ringTimeout r => ⟨_, rfl, (s.ringExpires_acts r).steps⟩
  | .readyLost ch => ⟨_, rfl, (s.readyFalls_acts ch).steps⟩
  | .readyRegained ch => ⟨_, rfl, (s.readyRises_acts ch).steps⟩
  | .byteReceived b => ⟨_, rfl, (s.receiveByte_acts b).steps⟩

/-- A step keeps what every command keeps: only the waiting commands change beside it, or a millisecond passes (log 1). -/
theorem step_cases {s t : State} (h : step s = .next t) :
    t = s.tickMs ∨ ∃ c q, exec c { s with pending := q } = .next t := by
  unfold step at h
  split at h
  · exact Or.inl (Host.Outcome.next.inj h).symm
  · exact Or.inr ⟨_, _, h⟩

theorem exec_steps_of_next {c : Instr} {s t : State} (h : exec c s = .next t) : s.Steps t := by
  obtain ⟨u, hu, hs⟩ := exec_steps c s
  cases hu.symm.trans h
  exact hs

/-- What holds of a state, whatever waits in its command queue, and is kept by `Keeps`, a step keeps. -/
theorem step_keeps {s t : State} (h : step s = .next t) :
    ∃ u : State, u.Steps t ∧ ∃ q n, u = { s with pending := q, nowMs := n } := by
  obtain rfl | ⟨c, q, hc⟩ := step_cases h
  · exact ⟨s.tickMs, (State.Acts.refl _).steps, s.pending, s.nowMs + 1, rfl⟩
  · exact ⟨_, exec_steps_of_next hc, q, s.nowMs, rfl⟩

/-! ## The statements -/

/-- Settles O2: every arm of `exec` answers a next state, and no operation of the part writes the waiting commands. -/
theorem everyCommandIsTakenAndKeepsTheQueue : Obligations.EveryCommandIsTakenAndKeepsTheQueue := by
  unfold Obligations.EveryCommandIsTakenAndKeepsTheQueue
  intro c s
  obtain ⟨t, ht, hs⟩ := exec_steps c s
  exact ⟨t, ht, hs.pending⟩

/-- Settles O18, command by command: an event is posted in a queue with room or counted on its tail, an entry joins a buffer with
room, and every occasion of the dispatcher is followed by its act. -/
theorem stepKeepsTheEventAndBufferLaws : Obligations.StepKeepsTheEventAndBufferLaws := by
  unfold Obligations.StepKeepsTheEventAndBufferLaws
  intro s t he hb hd h
  obtain ⟨u, hsteps, q, n, rfl⟩ := step_keeps h
  exact ⟨hsteps.events he, hsteps.buffer hb, hsteps.due hd⟩

/-- Settles O19, command by command, through `QueueOk`, the law of one section's queue and transaction in flight. -/
theorem stepKeepsTheQueueLaw : Obligations.StepKeepsTheQueueLaw := by
  unfold Obligations.StepKeepsTheQueueLaw
  intro s t hq h
  obtain ⟨u, hsteps, q, n, rfl⟩ := step_keeps h
  exact hsteps.queue hq

/-- Settles O20, command by command, through `State.Filed`, the directory's laws said entry by entry. -/
theorem stepKeepsTheDirectoryLaw : Obligations.StepKeepsTheDirectoryLaw := by
  unfold Obligations.StepKeepsTheDirectoryLaw
  intro s t hd h
  obtain ⟨u, hsteps, q, n, rfl⟩ := step_keeps h
  have hfiled : State.Filed { s with pending := q, nowMs := n } :=
    (s.directoryLaw_iff.1 hd).congr rfl rfl (fun _ => ⟨rfl, rfl, rfl⟩)
  exact t.directoryLaw_iff.2 (hsteps.filed hfiled)

end Sys2Proof.Machine
end

section
/-! SUPPORT. A line that is neither IDLE nor in BREAK on an ACTIVE section is the section controller's own: whatever the call manager
and the directory do meanwhile leaves it alone, and changes the section's queue, round, overrun flag and bracket at most. -/

-- One theorem after another: elaborated side by side, they ask for more thread stacks than the check has memory for.
set_option Elab.async false

namespace Sys2Proof.Machine

/-- The section is ACTIVE and its line is in a state in which the arbiter does not act (R73). -/
structure SectionCtl.Busy (x : SectionCtl) : Prop where
  active : x.power = .active
  idle : x.line ≠ .idle
  brk : x.line ≠ .brk

/-- The controllers differ in queue, round, overrun flag and bracket at most. -/
def SectionCtl.SameLine (x y : SectionCtl) : Prop :=
  y = { x with queue := y.queue, round := y.round, overrun := y.overrun, bracket := y.bracket }

theorem SectionCtl.SameLine.refl (x : SectionCtl) : x.SameLine x := rfl

theorem SectionCtl.SameLine.trans {x y z : SectionCtl} (h1 : x.SameLine y) (h2 : y.SameLine z) : x.SameLine z := by
  unfold SectionCtl.SameLine at *
  rw [h2, h1]

theorem SectionCtl.SameLine.busy {x y : SectionCtl} (h : x.SameLine y) (hx : x.Busy) : y.Busy := by
  obtain ⟨h1, h2, h3⟩ := hx
  rw [SectionCtl.SameLine] at h
  rw [h]
  exact ⟨h1, h2, h3⟩

theorem SectionCtl.SameLine.inFlight {x y : SectionCtl} (h : x.SameLine y) : y.inFlight = x.inFlight := by
  rw [SectionCtl.SameLine] at h
  rw [h]

theorem SectionCtl.SameLine.exch {x y : SectionCtl} (h : x.SameLine y) : y.exch = x.exch := by
  rw [SectionCtl.SameLine] at h
  rw [h]

theorem SectionCtl.SameLine.line {x y : SectionCtl} (h : x.SameLine y) : y.line = x.line := by
  rw [SectionCtl.SameLine] at h
  rw [h]

/-- Every busy line is left alone. -/
def State.LineKept (s t : State) : Prop := ∀ i, (s.sec i).Busy → (s.sec i).SameLine (t.sec i)

theorem State.LineKept.refl (s : State) : s.LineKept s := fun _ _ => .refl _

theorem State.LineKept.trans {s t u : State} (h1 : s.LineKept t) (h2 : t.LineKept u) : s.LineKept u :=
  fun i hi => (h1 i hi).trans (h2 i ((h1 i hi).busy hi))

theorem State.LineKept.ofSecs {s t : State} (h : t.secs = s.secs := by rfl) : s.LineKept t := fun i _ => by
  rw [State.sec, State.sec, h]
  exact .refl _

theorem State.setSec_lineKept (s : State) (i : SectionId) {x : SectionCtl} (h : (s.sec i).Busy → (s.sec i).SameLine x) :
    s.LineKept (s.setSec i x) := fun j hj => by
  rw [State.sec_setSec]
  split
  · next hij => exact hij ▸ h (hij ▸ hj)
  · exact .refl _

theorem State.post_lineKept (s : State) (b : EventBody) : s.LineKept (s.post b) := .ofSecs (by simp)

theorem State.modSec_lineKept (s : State) (i : SectionId) (f : SectionCtl → SectionCtl)
    (h : (s.sec i).SameLine (f (s.sec i)) := by rfl) : s.LineKept (s.modSec i f) := s.setSec_lineKept i (fun _ => h)

theorem State.ByLine.lineKept {i : SectionId} {s t : State} (h : s.ByLine i t) (hi : (s.sec i).Busy → (s.sec i).SameLine (t.sec i)) :
    s.LineKept t := fun j hj => by
  by_cases hij : j = i
  · exact hij ▸ hi (hij ▸ hj)
  · rw [(h.others j hij).1]
    exact .refl _

/-! ## The section controller's operations -/

/-- The arbiter acts in IDLE and in BREAK only (R73). -/
theorem State.arbiter_lineKept (s : State) (i : SectionId) : s.LineKept (s.arbiter i) := by
  refine (s.arbiter_byLine i).lineKept (fun hb => ?_)
  unfold State.arbiter
  split
  · next hl => exact absurd hl hb.idle
  · next hl => exact absurd hl hb.brk
  all_goals exact .refl _

theorem State.workArrived_lineKept (s : State) (i : SectionId) : s.LineKept (s.workArrived i) := by
  unfold State.workArrived
  split
  · exact s.arbiter_lineKept i
  · exact .refl s

theorem State.arrive_lineKept (s : State) (i : SectionId) (w : WakeReason) : s.LineKept (s.arrive i w) := by
  have hsleeping : ∀ {x : SectionCtl}, (s.sec i).power ≠ .active → (s.sec i).Busy → (s.sec i).SameLine x :=
    fun h hb => absurd hb.active h
  unfold State.arrive
  split
  · next h => exact s.setSec_lineKept i (hsleeping (by simp [h]))
  · next h => exact s.setSec_lineKept i (hsleeping (by simp [h]))
  · next h => exact (s.setSec_lineKept i (hsleeping (by simp [h]))).trans .ofSecs
  all_goals exact .refl s

theorem State.modQueue_lineKept (s : State) (i : SectionId) (f : List Txn → List Txn) : s.LineKept (s.modQueue i f) :=
  s.modSec_lineKept i _

theorem State.offerNotice_lineKept (s : State) (i : SectionId) (a : Addr) (k : TxnKind) (r : Nat) :
    s.LineKept (s.offerNotice i a k r) := by
  unfold State.offerNotice
  split
  · exact .refl s
  all_goals exact ((s.arrive_lineKept i .call).trans (State.modQueue_lineKept _ i _)).trans (State.workArrived_lineKept _ i)

theorem State.offerQuietNotice_lineKept (s : State) (i : SectionId) (a : Addr) (k : TxnKind) (r : Nat) :
    s.LineKept (s.offerQuietNotice i a k r) := by
  unfold State.offerQuietNotice
  split
  · exact .refl s
  all_goals exact s.modQueue_lineKept i _

theorem State.compareBracket_lineKept (s : State) (i : SectionId) : s.LineKept (s.compareBracket i) := by
  unfold State.compareBracket
  dsimp only
  split
  · exact .refl s
  · exact (s.modSec_lineKept i _).trans (State.post_lineKept _ _)
  · split
    · exact .refl s
    · exact (s.modSec_lineKept i _).trans (State.post_lineKept _ _)

theorem State.closeRound_lineKept (s : State) (i : SectionId) : s.LineKept (s.closeRound i) := by
  unfold State.closeRound
  split
  · exact (((s.modSec_lineKept i _).trans (State.post_lineKept _ _)).trans (State.modSec_lineKept _ i _)).trans
      (State.compareBracket_lineKept _ i)
  · exact .refl s

theorem State.closeIfDone_lineKept (s : State) (i : SectionId) : s.LineKept (s.closeIfDone i) := by
  unfold State.closeIfDone
  split
  · split
    · exact .refl s
    · exact s.closeRound_lineKept i
  · exact .refl s

theorem State.pollEnded_lineKept (s : State) (i : SectionId) (a : Addr) (f : Round → Round) : s.LineKept (s.pollEnded i a f) := by
  unfold State.pollEnded
  split
  · exact (s.modSec_lineKept i _).trans (State.closeIfDone_lineKept _ i)
  · exact .refl s

theorem State.returnTxn_lineKept (s : State) (i : SectionId) (t : Txn) : s.LineKept (s.returnTxn i t) := by
  unfold State.returnTxn
  split
  · exact s.modSec_lineKept i _
  · exact s.modQueue_lineKept i _

/-! ## The call manager's operations -/

theorem State.freeHeld_lineKept (s : State) (c : Call) : s.LineKept (s.freeHeld c) := by
  unfold State.freeHeld
  split
  · exact (State.LineKept.ofSecs (s.releaseHeld_secs c)).trans (State.arbiter_lineKept _ c.sec)
  · exact .ofSecs (s.releaseHeld_secs c)

theorem State.endCall_lineKept (s : State) (c : Call) (e : EndCause) : s.LineKept (s.endCall c e) :=
  ((State.LineKept.ofSecs (s.retireCall_secs c e)).trans (State.offerNotice_lineKept _ c.sec _ _ _)).trans
    (State.freeHeld_lineKept _ c)

theorem State.finish_lineKept (s : State) : s.LineKept s.finish := .ofSecs (by simp)

theorem State.connect_lineKept (s : State) (c : Call) (ch : ChanId) : s.LineKept (s.connect c ch) := by
  unfold State.connect
  exact (State.LineKept.ofSecs (by simp)).trans (State.offerNotice_lineKept _ c.sec _ _ _)

theorem State.postAnswers_lineKept (s : State) (c : Call) : s.LineKept (s.postAnswers c) := by
  unfold State.postAnswers
  split
  · exact s.connect_lineKept c _
  · exact .refl s

theorem State.createFromAlert_lineKept (s : State) (o : CallOrigin) (i : SectionId) (a : Addr) :
    s.LineKept (s.createFromAlert o i a).1 := .ofSecs (by simp [State.createFromAlert, State.addCall_secs])

theorem State.newAlert_lineKept (s : State) (o : CallOrigin) (i : SectionId) (a : Addr) : s.LineKept (s.newAlert o i a).1 := by
  unfold State.newAlert State.deferAlert
  split
  · exact s.createFromAlert_lineKept o i a
  · split
    · exact (s.endCall_lineKept _ _).trans (State.createFromAlert_lineKept _ o i a)
    · split
      · exact .refl s
      · exact .ofSecs (by simp)

theorem State.alert_lineKept (s : State) (o : CallOrigin) (i : SectionId) (a : Addr) : s.LineKept (s.alert o i a).1 := by
  unfold State.alert
  split
  · exact .refl s
  · split
    · split
      · exact s.postAnswers_lineKept _
      · exact .ofSecs (by simp [State.revive])
      all_goals exact .refl s
    · exact s.newAlert_lineKept o i a

theorem State.answerRecord_lineKept (s : State) (i : SectionId) (a : Addr) : s.LineKept (s.answerRecord i a) := by
  unfold State.answerRecord
  split
  · split
    · exact s.postAnswers_lineKept _
    · exact .refl s
  · exact .refl s

theorem State.abandon_lineKept (s : State) (c : Call) : s.LineKept (s.abandon c) := by
  unfold State.abandon
  dsimp only
  have htold : s.LineKept (State.offerNotice c.sec c.addr .clear c.ref
      (State.post (.callAbandoned c.ref c.post c.sec c.addr c.state) (State.dropPath c.sec c.ref (State.releaseChannel c.channel
        (s.modCall c.ref (fun x => { x with state := .abandoned, channel := none, offerTimer := none })))))) :=
    (State.LineKept.ofSecs (by simp [State.dropPath_secs, State.releaseChannel_secs])).trans
      (State.offerNotice_lineKept _ c.sec _ _ _)
  split
  · exact htold.trans (State.arbiter_lineKept _ c.sec)
  · exact htold

theorem State.onhook_lineKept (s : State) (i : SectionId) (a : Addr) : s.LineKept (s.onhook i a) := by
  unfold State.onhook
  split
  · split
    · exact s.endCall_lineKept _ _
    · exact s.abandon_lineKept _
    · exact s.abandon_lineKept _
    · exact s.abandon_lineKept _
    all_goals exact .refl s
  · exact .refl s

theorem State.impliedAlert_lineKept (s : State) (i : SectionId) (a : Addr) (st : StatusFields) :
    s.LineKept (s.impliedAlert i a st) := by
  unfold State.impliedAlert
  split
  · exact (s.alert_lineKept _ i a).trans (State.finish_lineKept _)
  · exact .refl s

theorem State.noticeFailed_lineKept (s : State) (k : TxnKind) (r : Nat) : s.LineKept (s.noticeFailed k r) := by
  unfold State.noticeFailed
  split
  · split
    · exact s.endCall_lineKept _ _
    · exact .refl s
  · exact .refl s

/-! ## Outcomes told to their consumers -/

theorem State.pollFailed_lineKept (s : State) (i : SectionId) (a : Addr) (r : FailReason) : s.LineKept (s.pollFailed i a r) := by
  unfold State.pollFailed
  split
  · exact (State.LineKept.ofSecs (s.missedReport_secs i a)).trans (State.pollEnded_lineKept _ i a _)
  · exact s.pollEnded_lineKept i a _
  all_goals exact .refl s

theorem State.reportFailed_lineKept (s : State) (i : SectionId) (t : Txn) (r : FailReason) : s.LineKept (s.reportFailed i t r) := by
  unfold State.reportFailed
  dsimp only
  split
  · exact (s.post_lineKept _).trans (State.pollFailed_lineKept _ i _ r)
  · exact s.post_lineKept _
  · exact (s.post_lineKept _).trans (State.noticeFailed_lineKept _ _ _)

theorem State.takeNotice_lineKept (s : State) (i : SectionId) (a : Addr) (st : StatusFields) : s.LineKept (s.takeNotice i a st) := by
  unfold State.takeNotice
  split
  · exact (State.LineKept.ofSecs (s.statusReport_secs i a st)).trans (State.impliedAlert_lineKept _ i a st)
  · exact .refl s

theorem State.driveUnresolved_secs (s : State) (i : SectionId) (g : GoodRec) : (s.driveUnresolved i g).secs = s.secs := by
  unfold State.driveUnresolved
  split
  · rfl
  · simp

theorem State.handRecord_lineKept (s : State) (i : SectionId) (g : GoodRec) : s.LineKept (s.handRecord i g).1 := by
  unfold State.handRecord
  split
  · exact (s.alert_lineKept _ i _).trans (State.finish_lineKept _)
  · exact (s.answerRecord_lineKept i _).trans (State.finish_lineKept _)
  · exact (s.onhook_lineKept i _).trans (State.finish_lineKept _)
  · split
    · exact s.takeNotice_lineKept i _ _
    · exact .refl s
  all_goals exact .refl s

theorem State.handRecords_lineKept (i : SectionId) (gs : List GoodRec) (driven : Bool) (s : State) :
    s.LineKept (State.handRecords i gs driven s).1 := by
  induction gs generalizing driven s with
  | nil => exact .refl s
  | cons g gs ih =>
    unfold State.handRecords
    dsimp only
    refine State.LineKept.trans ?_ (ih _ _)
    split
    · exact (State.LineKept.ofSecs (s.driveUnresolved_secs i g)).trans (State.handRecord_lineKept _ i g)
    · exact s.handRecord_lineKept i g

end Sys2Proof.Machine
end

section
/-! SUPPORT. What each command needs of the power law to keep it (O21): where something is in flight, or under way on the pair, the
section is ACTIVE, and a line that enters IDLE has nothing in flight. -/

-- One theorem after another: elaborated side by side, they ask for more thread stacks than the check has memory for.
set_option Elab.async false

namespace Sys2Proof.Machine

/-! ## What the law says of a section -/

theorem State.PowerLaw.active_of_line {s : State} (h : s.PowerLaw) {i : SectionId} (hl : (s.sec i).line ≠ .down) :
    (s.sec i).power = .active := State.active_of_idle hl (h i)

/-- Only an ACTIVE section sends or receives anything but the SHUTDOWN and the announce burst (R59, R65). -/
theorem State.PowerLaw.active_of_exch {s : State} (h : s.PowerLaw) {i : SectionId} {e : Exchange} (he : (s.sec i).exch = e)
    (hk : e.idleKind = false) : (s.sec i).power = .active := by
  by_contra hn
  obtain ⟨-, -, -, hidle⟩ := (h i).1 hn
  rw [he, hk] at hidle
  cases hidle

theorem State.PowerLaw.noFlight {s : State} (h : s.PowerLaw) {i : SectionId} (h1 : (s.sec i).line ≠ .owned)
    (h2 : (s.sec i).line ≠ .foreign) : (s.sec i).inFlight = none := by
  by_contra hn
  exact ((h i).2.1 (Option.isSome_iff_ne_none.2 hn)).elim h1 h2

theorem State.PowerLaw.busy {s : State} (h : s.PowerLaw) {i : SectionId} {t : Txn} (ht : (s.sec i).inFlight = some t) :
    (s.sec i).Busy := by
  obtain hl | hl := (h i).2.1 (Option.isSome_iff_exists.2 ⟨t, ht⟩)
  · exact ⟨h.active_of_line (by simp [hl]), by simp [hl], by simp [hl]⟩
  · exact ⟨h.active_of_line (by simp [hl]), by simp [hl], by simp [hl]⟩

theorem State.PowerLaw.kept {s t : State} (h : s.PowerLaw) (hk : s.PowerKept t) : t.PowerLaw := hk.1 h

/-! ## Transactions on the line -/

theorem State.sec_clearFlight (s : State) (i j : SectionId) :
    (s.clearFlight i).sec j = if i = j then { s.sec i with inFlight := none, exch := .quiet }.retime s.nowMs else s.sec j :=
  State.sec_modLine s i j _

theorem State.clearFlight_busy {s : State} {i : SectionId} (h : (s.sec i).Busy) : ((s.clearFlight i).sec i).Busy := by
  rw [State.sec_clearFlight, if_pos rfl]
  exact ⟨h.active, h.idle, h.brk⟩

theorem State.clearFlight_inFlight (s : State) (i : SectionId) : ((s.clearFlight i).sec i).inFlight = none := by
  rw [State.sec_clearFlight, if_pos rfl]
  rfl

theorem State.clearFlight_powerOf (s : State) (i j : SectionId) : ((s.clearFlight i).sec j).power = (s.sec j).power := by
  rw [State.sec_clearFlight]
  split
  · next h => exact h ▸ rfl
  · rfl

/-- What follows the end of a transaction leaves the line with nothing in flight, and the line enters IDLE. -/
theorem State.clearFlight_enterIdle {s t : State} {i : SectionId} (h : (s.sec i).Busy) (hk : (s.clearFlight i).PowerKept t)
    (hl : (s.clearFlight i).LineKept t) : s.PowerKept (t.enterIdle i) := by
  have hclear := State.clearFlight_busy h
  have hsame := hl i hclear
  exact ((s.clearFlight_power i).trans hk).trans
    (t.enterIdle_power i (hsame.busy hclear).active (hsame.inFlight.trans (s.clearFlight_inFlight i)))

theorem State.failFlight_power {s : State} {i : SectionId} (h : (s.sec i).Busy) (t : Txn) (r : FailReason) :
    s.PowerKept (s.failFlight i t r) :=
  State.clearFlight_enterIdle h ((State.reportFailed_power _ i t r).trans (State.finish_power _))
    ((State.reportFailed_lineKept _ i t r).trans (State.finish_lineKept _))

theorem State.succeed_power {s : State} {i : SectionId} (h : (s.sec i).Busy) : s.PowerKept (s.succeed i) :=
  State.clearFlight_enterIdle h (.refl _) (.refl _)

theorem State.resumeFlight_powerLaw {s : State} (h : s.PowerLaw) (i : SectionId) : (s.resumeFlight i).PowerLaw := by
  unfold State.resumeFlight
  split
  · next t ht =>
    split
    · exact h.kept (State.failFlight_power (h.busy ht) t .noReply)
    · exact h.kept (s.sendAttempt_power i t (fun _ => (h.busy ht).active))
  · exact h

theorem State.attemptFailed_powerLaw {s : State} (h : s.PowerLaw) (i : SectionId) : (s.attemptFailed i).PowerLaw := by
  unfold State.attemptFailed
  split
  · next t ht =>
    have hbusy := h.busy ht
    split
    · exact h.kept (State.failFlight_power hbusy t.oneMore .noReply)
    · split
      · exact h.kept (s.sendAttempt_power i t.oneMore (fun _ => hbusy.active))
      · refine h.kept (s.modLine_power i _ (fun hx => ⟨fun hn => absurd hbusy.active hn, fun _ => ?_⟩) id)
        exact hx.2.1 (Option.isSome_iff_exists.2 ⟨t, ht⟩)
  · exact h

/-- What was in flight is off the line when the yielded transaction has been returned or has failed (R50). -/
theorem State.returnYielded_power {s : State} (h : s.PowerLaw) (i : SectionId) :
    s.PowerKept (s.returnYielded i) ∧ ((s.returnYielded i).sec i).inFlight = none := by
  unfold State.returnYielded
  split
  · next t ht =>
    have hclear := State.clearFlight_busy (h.busy ht)
    split
    · have hline := ((State.reportFailed_lineKept (s.clearFlight i) i t.oneLoss .arbLost).trans (State.finish_lineKept _)) i hclear
      exact ⟨((s.clearFlight_power i).trans (State.reportFailed_power _ i _ _)).trans (State.finish_power _),
        hline.inFlight.trans (s.clearFlight_inFlight i)⟩
    · have hline := State.returnTxn_lineKept (s.clearFlight i) i t.oneLoss i hclear
      exact ⟨(s.clearFlight_power i).trans (State.returnTxn_power _ i _), hline.inFlight.trans (s.clearFlight_inFlight i)⟩
  · exact ⟨s.clearFlight_power i, s.clearFlight_inFlight i⟩

theorem State.endForeign_powerLaw {s : State} (h : s.PowerLaw) (i : SectionId) (ha : (s.sec i).power = .active) :
    (s.endForeign i).PowerLaw := by
  obtain ⟨hk, hf⟩ := State.returnYielded_power h i
  exact (h.kept hk).kept (State.enterIdle_power _ i (hk.2 i ha) hf)

theorem State.modLine_powerLaw {s : State} (h : s.PowerLaw) (i : SectionId) (f : SectionCtl → SectionCtl)
    (hf : (f (s.sec i)).PowerCore) : (s.modLine i f).PowerLaw := fun j => by
  rw [State.sec_modLine]
  split
  · exact hf.retime _
  · exact h j

/-- On an ACTIVE section the exchange may be any. -/
theorem State.setExch_powerLaw {s : State} (h : s.PowerLaw) (i : SectionId) (e : Exchange) (ha : (s.sec i).power = .active) :
    (s.setExch i e).PowerLaw := State.modLine_powerLaw h i _ ⟨fun hn => absurd ha hn, (h i).2.1⟩

theorem State.receivePost_powerLaw {s : State} (h : s.PowerLaw) (i : SectionId) (ha : (s.sec i).power = .active) :
    (s.receivePost i).PowerLaw := State.modLine_powerLaw h i _ ⟨fun hn => absurd ha hn, fun _ => Or.inr rfl⟩

theorem State.sendAnswer_powerLaw {s : State} (h : s.PowerLaw) (i : SectionId) (rs : List OutRec) (l : List CheckFlag)
    (ha : (s.sec i).power = .active) : (s.sendAnswer i rs l).PowerLaw := by
  unfold State.sendAnswer
  split
  · exact State.modLine_powerLaw h i _ ⟨fun hn => absurd ha hn, (h i).2.1⟩
  · exact State.modLine_powerLaw h i _ ⟨fun hn => absurd ha hn, (h i).2.1⟩

theorem State.takeNotice_power (s : State) (i : SectionId) (a : Addr) (st : StatusFields) : s.PowerKept (s.takeNotice i a st) := by
  unfold State.takeNotice
  split
  · exact (State.PowerKept.ofSecs (s.statusReport_secs i a st)).trans (State.impliedAlert_power _ i a st)
  · exact .refl s

theorem State.handRecord_power (s : State) (i : SectionId) (g : GoodRec) : s.PowerKept (s.handRecord i g).1 := by
  unfold State.handRecord
  split
  · exact (s.alert_power _ i _).trans (State.finish_power _)
  · exact (s.answerRecord_power i _).trans (State.finish_power _)
  · exact (s.onhook_power i _).trans (State.finish_power _)
  · split
    · exact s.takeNotice_power i _ _
    · exact .refl s
  all_goals exact .refl s

theorem State.handRecords_power (i : SectionId) (gs : List GoodRec) (driven : Bool) (s : State) :
    s.PowerKept (State.handRecords i gs driven s).1 := by
  induction gs generalizing driven s with
  | nil => exact .refl s
  | cons g gs ih =>
    unfold State.handRecords
    dsimp only
    refine State.PowerKept.trans ?_ (ih _ _)
    split
    · exact (State.PowerKept.ofSecs (s.driveUnresolved_secs i g)).trans (State.handRecord_power _ i g)
    · exact s.handRecord_power i g

theorem State.textAcked_power {s : State} {i : SectionId} (h : (s.sec i).Busy) (t : Txn) (cs : List Byte) :
    s.PowerKept (s.textAcked i t cs) := by
  have hnext : ∀ u, s.PowerKept (s.nextStep i u) := fun u => s.sendAttempt_power i _ (fun _ => h.active)
  unfold State.textAcked
  split
  · split
    · exact State.succeed_power h
    · exact hnext _
  · exact hnext _

theorem State.pollAnswered_power {s : State} {i : SectionId} (h : (s.sec i).Busy) (a : Addr) (st : StatusFields) :
    s.PowerKept (s.pollAnswered i a st) :=
  State.clearFlight_enterIdle h
    (((State.PowerKept.ofSecs (State.statusReport_secs _ i a st)).trans (State.impliedAlert_power _ i a st)).trans
      (State.pollEnded_power _ i a _))
    (((State.LineKept.ofSecs (State.statusReport_secs _ i a st)).trans (State.impliedAlert_lineKept _ i a st)).trans
      (State.pollEnded_lineKept _ i a _))

theorem State.judgeReply_powerLaw {s : State} (h : s.PowerLaw) {i : SectionId} {t : Txn} (ht : (s.sec i).inFlight = some t)
    (g : GoodRec) : (s.judgeReply i t g).PowerLaw := by
  have hbusy := h.busy ht
  have hfailed := State.attemptFailed_powerLaw h i
  unfold State.judgeReply
  split
  · split
    · split
      · exact h.kept (State.pollAnswered_power hbusy _ _)
      · exact hfailed
    · split
      · exact h.kept (State.textAcked_power hbusy t _)
      · exact h.kept (State.failFlight_power hbusy t _)
      · exact hfailed
    all_goals
      split
      · exact h.kept (State.succeed_power hbusy)
      · exact hfailed
  · exact hfailed

/-! ## What happens on a pair -/

theorem State.reach_powerLaw {s : State} (h : s.PowerLaw) (n : Nat) : (s.reach n).PowerLaw := h

theorem State.leadEnds_powerLaw {s : State} (h : s.PowerLaw) (i : SectionId) : (s.leadEnds i).PowerLaw := by
  unfold State.leadEnds
  split
  · next he => exact State.setExch_powerLaw (State.reach_powerLaw h _) i _ (h.active_of_exch he rfl)
  · exact h

theorem State.burstSent_powerLaw {s : State} (h : s.PowerLaw) (i : SectionId) : (s.burstSent i).PowerLaw := by
  unfold State.burstSent
  split
  · next he =>
    split
    · exact State.setExch_powerLaw h i _ (h.active_of_exch he rfl)
    · exact h
  · next he => exact State.setExch_powerLaw h i _ (h.active_of_exch he rfl)
  · next he =>
    have hfree := State.setExch_powerLaw h i .retryWait (h.active_of_exch he rfl)
    dsimp only
    split
    · exact State.resumeFlight_powerLaw hfree i
    · exact hfree
  · exact h

theorem State.windowEnds_powerLaw {s : State} (h : s.PowerLaw) (i : SectionId) : (s.windowEnds i).PowerLaw := by
  unfold State.windowEnds
  split
  · exact State.attemptFailed_powerLaw (State.reach_powerLaw h _) i
  · exact h

theorem State.answerSent_powerLaw {s : State} (h : s.PowerLaw) (i : SectionId) : (s.answerSent i).PowerLaw := by
  unfold State.answerSent
  split
  · next he => exact State.endForeign_powerLaw h i (h.active_of_exch he rfl)
  · exact h

theorem State.collide_powerLaw {s : State} (h : s.PowerLaw) (i : SectionId) (b : Burst) (ha : (s.sec i).power = .active) :
    (s.collide i b).PowerLaw :=
  State.modLine_powerLaw h i _ ⟨fun hn => absurd ha hn, fun hf => (h i).2.1 (by simpa using hf)⟩

theorem State.burstInWait_powerLaw {s : State} (h : s.PowerLaw) (i : SectionId) (ha : (s.sec i).power = .active) :
    (s.burstInWait i).PowerLaw := by
  unfold State.burstInWait
  split
  · next t ht =>
    split
    · have hfailed := State.failFlight_power (h.busy ht) t .noReply
      dsimp only
      split
      · exact State.receivePost_powerLaw (h.kept hfailed) i (hfailed.2 i ha)
      · exact h.kept hfailed
    · exact State.receivePost_powerLaw h i ha
  · exact State.receivePost_powerLaw h i ha

theorem State.burstOnOwned_powerLaw {s : State} (h : s.PowerLaw) (i : SectionId) (ha : (s.sec i).power = .active) :
    (s.burstOnOwned i).PowerLaw := by
  unfold State.burstOnOwned
  split
  · split
    · exact State.receivePost_powerLaw h i ha
    · exact State.collide_powerLaw h i _ ha
  · split
    · exact State.receivePost_powerLaw h i ha
    · exact State.collide_powerLaw h i _ ha
  · exact State.burstInWait_powerLaw h i ha
  · exact State.setExch_powerLaw h i _ ha
  · exact h

theorem State.toActive_active (s : State) (i : SectionId) : ((s.toActive i).sec i).power = .active := by
  rw [State.sec_toActive, if_pos rfl]
  rfl

theorem State.postBurstStarts_powerLaw {s : State} (h : s.PowerLaw) (i : SectionId) (w : SyncWord) :
    (s.postBurstStarts i w).PowerLaw := by
  unfold State.postBurstStarts
  split
  · split
    · split
      · next hp =>
        have hup := h.kept (s.toActive_power i (by simp [hp]))
        exact (State.receivePost_powerLaw hup i (s.toActive_active i)).kept (State.finish_power _)
      · next hp =>
        split
        · exact State.receivePost_powerLaw h i hp
        · exact State.burstOnOwned_powerLaw h i hp
        all_goals exact h
      all_goals exact h
    · exact h
  · exact h

theorem State.replyEnds_powerLaw {s : State} (h : s.PowerLaw) (i : SectionId) (recs : List LineRec) :
    (s.replyEnds i recs).PowerLaw := by
  have hended := h.kept (s.burstEnded_power i)
  unfold State.replyEnds
  split
  · next t _ ht =>
    split
    · exact State.judgeReply_powerLaw hended (by simpa [State.burstEnded] using ht) _
    · exact State.attemptFailed_powerLaw hended i
  · exact h

theorem State.discardPost_powerLaw {s : State} (h : s.PowerLaw) (i : SectionId) (ha : (s.sec i).power = .active) :
    (s.discardPost i).PowerLaw := by
  unfold State.discardPost
  split
  · exact State.endForeign_powerLaw h i ha
  · exact State.setExch_powerLaw h i _ ha

theorem State.postEnds_powerLaw {s : State} (h : s.PowerLaw) (i : SectionId) (recs : List LineRec) : (s.postEnds i recs).PowerLaw := by
  unfold State.postEnds
  split
  · next he =>
    have hactive := h.active_of_exch he rfl
    have hended := s.burstEnded_power i
    split
    · next gs _ =>
      have hhanded := hended.trans (State.handRecords_power i gs false _)
      dsimp only
      split
      · exact State.endForeign_powerLaw (h.kept hhanded) i (hhanded.2 i hactive)
      · exact State.sendAnswer_powerLaw (h.kept hhanded) i _ _ (hhanded.2 i hactive)
    · exact State.discardPost_powerLaw (h.kept hended) i (hended.2 i hactive)
  · exact h

theorem State.carrierUp_powerLaw {s : State} (h : s.PowerLaw) (i : SectionId) : (s.carrierUp i).PowerLaw := by
  unfold State.carrierUp
  split
  · exact h
  · exact State.modLine_powerLaw h i _ (h i).core

theorem State.carrierGone_powerLaw {s : State} (h : s.PowerLaw) (i : SectionId) : (s.carrierGone i).PowerLaw := by
  have hended := s.burstEnded_power i
  unfold State.carrierGone
  split
  · exact h.kept (s.workArrived_power i)
  · exact State.resumeFlight_powerLaw h i
  · exact State.attemptFailed_powerLaw (h.kept hended) i
  · next he => exact State.endForeign_powerLaw (h.kept hended) i (hended.2 i (h.active_of_exch he rfl))
  · next he => exact State.endForeign_powerLaw h i (h.active_of_exch he rfl)
  · next he => exact State.sendAnswer_powerLaw h i _ _ (h.active_of_exch he rfl)
  all_goals exact h

theorem State.carrierDown_powerLaw {s : State} (h : s.PowerLaw) (i : SectionId) : (s.carrierDown i).PowerLaw := by
  unfold State.carrierDown
  split
  · exact State.carrierGone_powerLaw (State.modLine_powerLaw h i _ (h i).core) i
  · exact h

theorem State.stuckOutcome_powerLaw {s : State} (h : s.PowerLaw) (i : SectionId) : (s.stuckOutcome i).PowerLaw := by
  have hended := s.burstEnded_power i
  unfold State.stuckOutcome
  split
  · exact h.kept (s.workArrived_power i)
  · exact State.resumeFlight_powerLaw h i
  · exact State.attemptFailed_powerLaw h i
  · exact State.attemptFailed_powerLaw (h.kept hended) i
  · next he => exact State.endForeign_powerLaw (h.kept hended) i (hended.2 i (h.active_of_exch he rfl))
  · next he => exact State.endForeign_powerLaw h i (h.active_of_exch he rfl)
  · next he => exact State.endForeign_powerLaw h i (h.active_of_exch he rfl)
  all_goals exact h

theorem State.stuckLimit_powerLaw {s : State} (h : s.PowerLaw) (i : SectionId) : (s.stuckLimit i).PowerLaw := by
  unfold State.stuckLimit
  split
  · next t _ =>
    have hreached := State.reach_powerLaw h t.due
    exact State.stuckOutcome_powerLaw ((State.modLine_powerLaw hreached i _ (hreached i).core).kept (State.post_power _ _)) i
  · exact h

theorem State.spaceUp_powerLaw {s : State} (h : s.PowerLaw) (i : SectionId) : (s.spaceUp i).PowerLaw := by
  unfold State.spaceUp
  split
  · exact h
  · exact State.modLine_powerLaw h i _ (h i).core

/-- What was in flight is off the line when the controller has given it up for a break (R71). -/
theorem State.abandonForBreak_power {s : State} (h : s.PowerLaw) (i : SectionId) :
    s.PowerKept (s.abandonForBreak i) ∧ ((s.abandonForBreak i).sec i).inFlight = none := by
  unfold State.abandonForBreak
  split
  · exact State.returnYielded_power h i
  · split
    · next t ht =>
      have hline := State.returnTxn_lineKept (s.clearFlight i) i t i (State.clearFlight_busy (h.busy ht))
      exact ⟨(s.clearFlight_power i).trans (State.returnTxn_power _ i _), hline.inFlight.trans (s.clearFlight_inFlight i)⟩
    · exact ⟨s.clearFlight_power i, s.clearFlight_inFlight i⟩

theorem State.autoTrigger_power (s : State) (i : SectionId) : s.PowerKept (s.autoTrigger i) := by
  unfold State.autoTrigger
  split
  · exact (s.modSec_power i _).trans (State.arbiter_power _ i)
  · exact .refl s

theorem State.enterBreak_powerLaw {s : State} (h : s.PowerLaw) (i : SectionId) (ha : (s.sec i).power = .active)
    (hf : (s.sec i).inFlight = none) : (s.enterBreak i).PowerLaw := by
  have hcore : ∀ e : Bool, SectionCtl.PowerCore { s.sec i with line := .brk, exch := .quiet, episode := e } := fun e =>
    ⟨fun hn => absurd ha hn, fun hsome => by simp [hf] at hsome⟩
  unfold State.enterBreak
  split
  · exact State.modLine_powerLaw h i _ (hcore _)
  · exact ((State.modLine_powerLaw h i _ (hcore true)).kept (State.post_power _ _)).kept (State.autoTrigger_power _ i)

theorem State.breakTime_powerLaw {s : State} (h : s.PowerLaw) (i : SectionId) : (s.breakTime i).PowerLaw := by
  unfold State.breakTime
  split
  · next t ht =>
    have hruns : (s.sec i).breakRuns = true := by rw [← (h i).2.2.2.1, ht]; rfl
    have hactive : (s.sec i).power = .active := by
      simp only [SectionCtl.breakRuns, Bool.and_eq_true, beq_iff_eq] at hruns
      exact hruns.1.1
    have hreached := State.reach_powerLaw h t.due
    obtain ⟨hk, hf⟩ := State.abandonForBreak_power hreached i
    exact State.enterBreak_powerLaw (hreached.kept hk) i (hk.2 i hactive) hf
  · exact h

theorem State.closeEpisode_power (s : State) (i : SectionId) : s.PowerKept (s.closeEpisode i) := by
  unfold State.closeEpisode
  split
  · exact (s.post_power _).trans (State.modSec_power _ i _)
  · exact .refl s

theorem State.spaceDown_powerLaw {s : State} (h : s.PowerLaw) (i : SectionId) : (s.spaceDown i).PowerLaw := by
  unfold State.spaceDown
  split
  · have hclosed := h.kept (s.closeEpisode_power i)
    obtain ⟨hasleep, hflight⟩ := (hclosed i).core
    refine State.modLine_powerLaw hclosed i _ ⟨fun hn => ?_, fun hsome => ?_⟩
    · obtain ⟨hl, hrest⟩ := hasleep hn
      exact ⟨by simp [hl], hrest⟩
    · obtain hl | hl := hflight hsome
      · exact Or.inl (by simp [hl])
      · exact Or.inr (by simp [hl])
  · exact h

theorem State.enterIdle_powerLaw {s : State} (h : s.PowerLaw) (i : SectionId) (hl : (s.sec i).line = .unknown) :
    (s.enterIdle i).PowerLaw :=
  h.kept (s.enterIdle_power i (h.active_of_line (by simp [hl])) (h.noFlight (by simp [hl]) (by simp [hl])))

theorem State.settleQuiet_powerLaw {s : State} (h : s.PowerLaw) (i : SectionId) : (s.settleQuiet i).PowerLaw := by
  unfold State.settleQuiet
  split
  · next t ht =>
    have hruns : (s.sec i).quietRuns = true := by rw [← (h i).2.2.2.2, ht]; rfl
    have hline : (s.sec i).line = .unknown := by
      simp only [SectionCtl.quietRuns, Bool.and_eq_true, beq_iff_eq] at hruns
      exact hruns.1.1.2
    exact State.enterIdle_powerLaw (State.reach_powerLaw h t.due) i hline
  · exact h

theorem State.endMark_powerLaw {s : State} (h : s.PowerLaw) (i : SectionId) : (s.endMark i).PowerLaw := by
  unfold State.endMark
  split
  · next hl => exact State.enterIdle_powerLaw h i hl
  · exact h

theorem State.completeMeasure_powerLaw {s : State} (h : s.PowerLaw) (i : SectionId) (r : Running) (l : List Nat)
    (hl : (s.sec i).line = .testing) : (s.completeMeasure i r l).PowerLaw := by
  have hactive := h.active_of_line (i := i) (by simp [hl])
  have hfree := h.noFlight (i := i) (by simp [hl]) (by simp [hl])
  have htold : ∀ b u, State.PowerKept s ((s.setLtu i u).post b) := fun b u => .ofSecs (by simp)
  exact State.modLine_powerLaw (h.kept (htold _ _)) i _
    ⟨fun hn => absurd (by simpa using hactive) hn, fun hsome => by simp [hfree] at hsome⟩

theorem State.takeSample_powerLaw {s : State} (h : s.PowerLaw) (i : SectionId) (n : Nat) : (s.takeSample i n).PowerLaw := by
  unfold State.takeSample
  split
  · next r _ hl =>
    dsimp only
    split
    · exact State.completeMeasure_powerLaw (State.reach_powerLaw h _) i r _ hl
    · exact h
  · exact h

end Sys2Proof.Machine
end

section
/-! SUPPORT. The power law through the power states, the timebase, the calls, the requests and the resets, and every step keeps it
(O21). -/

-- One theorem after another: elaborated side by side, they ask for more thread stacks than the check has memory for.
set_option Elab.async false

namespace Sys2Proof.Machine

/-! ## Power states and the timebase -/

theorem sending_idleKind (silent : Bool) {e : Exchange} (h : e.idleKind = true) : (sending silent e).idleKind = true := by
  unfold sending
  split
  · rfl
  · exact h

/-- Settling begins on an IDLE line with no round open (R84). -/
theorem State.maySettle_spec {s : State} {i : SectionId} (h : s.maySettle i = true) :
    (s.sec i).power = .active ∧ (s.sec i).line = .idle ∧ (s.sec i).round = none ∧ s.holder i = none ∧
      ∀ c ∈ s.callsOn i, c.state = .abandoned := by
  simp only [State.maySettle, Bool.and_eq_true, beq_iff_eq, Option.isNone_iff_eq_none, List.all_eq_true] at h
  tauto

theorem State.enterSettling_powerLaw {s : State} (h : s.PowerLaw) (i : SectionId) : (s.enterSettling i).PowerLaw := by
  unfold State.enterSettling
  split
  · next hmay =>
    obtain ⟨-, hl, hr, -⟩ := State.maySettle_spec hmay
    have hfree := h.noFlight (i := i) (by simp [hl]) (by simp [hl])
    exact State.modLine_powerLaw h i _
      ⟨fun _ => ⟨rfl, hfree, hr, sending_idleKind _ rfl⟩, fun hsome => by simp [hfree] at hsome⟩
  · exact h

theorem State.shutdownDone_powerLaw {s : State} (h : s.PowerLaw) (i : SectionId) : (s.shutdownDone i).PowerLaw := by
  unfold State.shutdownDone
  split
  · next hp _ =>
    obtain ⟨hl, hf, hr, -⟩ := (h i).1 (by simp [hp])
    exact State.modLine_powerLaw h i _ ⟨fun _ => ⟨hl, hf, hr, rfl⟩, fun hsome => by simp [hf] at hsome⟩
  · exact h

theorem State.settleEnds_powerLaw {s : State} (h : s.PowerLaw) (i : SectionId) (off : Bool) : (s.settleEnds i off).PowerLaw := by
  unfold State.settleEnds
  split
  · next t hp _ =>
    obtain ⟨hl, hf, hr, he⟩ := (h i).1 (by simp [hp])
    have hslept := (State.modLine_powerLaw (State.reach_powerLaw h t.due) i
      (fun x => { x with power := .hibernate, settleTimer := none })
      ⟨fun _ => ⟨hl, hf, hr, he⟩, fun hsome => by simp [State.reach, State.sec] at hsome hf; simp [hf] at hsome⟩).kept
        (State.post_power _ (.sectionState i .hibernate .empty))
    dsimp only
    split
    · exact hslept.kept (State.arrive_power _ i .post)
    · exact hslept
  · exact h

theorem State.offHook_powerLaw {s : State} (h : s.PowerLaw) (i : SectionId) : (s.offHook i).PowerLaw := by
  unfold State.offHook
  split
  · exact h.kept (s.arrive_power i _)
  · exact h

theorem State.powerUpEnds_powerLaw {s : State} (h : s.PowerLaw) (i : SectionId) : (s.powerUpEnds i).PowerLaw := by
  unfold State.powerUpEnds
  split
  · next t hp _ =>
    obtain ⟨hl, hf, hr, -⟩ := (h i).1 (by simp [hp])
    exact State.modLine_powerLaw (State.reach_powerLaw h t.due) i _
      ⟨fun _ => ⟨hl, hf, hr, sending_idleKind _ rfl⟩, fun hsome => by simp [State.reach, State.sec] at hsome hf; simp [hf] at hsome⟩
  · exact h

theorem State.openDue_power (s : State) (i : SectionId) (ha : (s.sec i).power = .active) : s.PowerKept (s.openDue i) := by
  unfold State.openDue
  split
  · exact (s.modSec_power i _).trans (State.openRound_power _ i (by simpa using ha))
  · exact .refl s

theorem State.tellActive_power (s : State) (i : SectionId) : s.PowerKept (s.tellActive i) :=
  (s.post_power _).trans (State.modSec_power _ i _)

theorem State.occasion_power (s : State) : s.PowerKept s.markDispatch.finish := .ofSecs (by simp)

theorem State.announceEnds_powerLaw {s : State} (h : s.PowerLaw) (i : SectionId) : (s.announceEnds i).PowerLaw := by
  unfold State.announceEnds
  split
  · next t hp _ =>
    obtain ⟨-, hf, -⟩ := (h i).1 (by simp [hp])
    dsimp only
    generalize hu : (s.reach t.due).modLine i (fun x => { x with power := .active, wakeTimer := none }) = u
    have hreached : (s.reach t.due).sec i = s.sec i := rfl
    have hsec : u.sec i = { s.sec i with power := .active, wakeTimer := none }.retime (s.reach t.due).nowMs := by
      rw [← hu, State.sec_modLine, if_pos rfl, hreached]
    have hactive : (u.sec i).power = .active := by rw [hsec]; rfl
    have hfree : (u.sec i).inFlight = none := by rw [hsec]; exact hf
    have hup : u.PowerLaw := by
      rw [← hu]
      exact State.modLine_powerLaw (State.reach_powerLaw h t.due) i _
        ⟨fun hn => absurd rfl hn, fun hsome => by rw [hreached] at hsome; simp [hf] at hsome⟩
    have hidle := (u.settleIdle_power i hactive hfree).trans (State.tellActive_power _ i)
    have hopened := hidle.trans (State.openDue_power _ i (hidle.2 i hactive))
    exact hup.kept ((hopened.trans (State.arbiter_power _ i)).trans (State.occasion_power _))
  · exact h

theorem State.ageingStep_power (s : State) (r : Nat) : s.PowerKept (s.ageingStep r) := by
  unfold State.ageingStep
  split
  · split
    · exact .ofSecs (by simp)
    · exact .refl s
  · exact .refl s

theorem State.openAndAct_power (s : State) (i : SectionId) (ha : (s.sec i).power = .active) : s.PowerKept (s.openAndAct i) :=
  (s.openRound_power i ha).trans (State.workArrived_power _ i)

/-- A section in SETTLING is ACTIVE after a wake cause (R87). -/
theorem State.arrive_of_settling {s : State} {i : SectionId} {part : SettlePart} (hp : (s.sec i).power = .settling part)
    (w : WakeReason) : s.arrive i w = s.toActive i := by
  unfold State.arrive
  rw [hp]

/-- A round that falls due in SETTLING opens on the section that the cause has returned to ACTIVE (R87, R100, R107). -/
theorem State.openFromSettling_power {s : State} {i : SectionId} {part : SettlePart} (hp : (s.sec i).power = .settling part)
    (w : WakeReason) : s.PowerKept (((s.arrive i w).openAndAct i).finish) := by
  refine ((s.arrive_power i w).trans (State.openAndAct_power _ i ?_)).trans (State.finish_power _)
  rw [State.arrive_of_settling hp]
  exact s.toActive_active i

theorem State.roundFallsDue_power (s : State) (i : SectionId) : s.PowerKept (s.roundFallsDue i) := by
  have hmarked : ∀ f : SectionCtl → SectionCtl, s.PowerKept (s.modSec i f) → s.PowerKept ((s.modSec i f).arrive i .schedule) :=
    fun f hf => hf.trans (State.arrive_power _ i .schedule)
  unfold State.roundFallsDue
  split
  · next hp =>
    split
    · exact s.modSec_power i _
    · exact s.openAndAct_power i hp
  · next hp => exact State.openFromSettling_power hp .schedule
  · exact hmarked _ (s.modSec_power i _)
  · exact hmarked _ (s.modSec_power i _)
  · exact .refl s

theorem State.countdown_power (s : State) (i : SectionId) : s.PowerKept (s.countdown i) := by
  unfold State.countdown
  split
  · split
    · exact (s.modSec_power i _).trans (State.roundFallsDue_power _ i)
    · exact .refl s
  · exact .refl s

/-! ## Calls and channels -/

theorem State.offerExpires_power (s : State) (r : Nat) : s.PowerKept (s.offerExpires r) := by
  have hreached : ∀ n, s.PowerKept (s.reach n) := fun _ => .ofSecs rfl
  unfold State.offerExpires
  split
  · split
    · exact ((hreached _).trans (State.requeue_power _ _ _)).trans (State.finish_power _)
    · exact .refl s
  · exact .refl s

theorem State.ringExpires_power (s : State) (r : Nat) : s.PowerKept (s.ringExpires r) := by
  have hreached : ∀ n, s.PowerKept (s.reach n) := fun _ => .ofSecs rfl
  unfold State.ringExpires
  split
  · split
    · exact ((hreached _).trans (State.endCall_power _ _ _)).trans (State.finish_power _)
    · exact .refl s
  · exact .refl s

theorem State.setChan_power (s : State) (ch : ChanId) (x : Channel) : s.PowerKept (s.setChan ch x) := .ofSecs rfl

theorem State.loseCall_power (s : State) (c : Call) : s.PowerKept (s.loseCall c) := by
  unfold State.loseCall
  split
  · exact s.endCall_power _ _
  · exact s.requeue_power _ _

theorem State.readyFalls_power (s : State) (ch : ChanId) : s.PowerKept (s.readyFalls ch) := by
  have hlow := s.setChan_power ch { s.chan ch with ready := false }
  unfold State.readyFalls
  split
  · dsimp only
    split
    · exact (hlow.trans (State.setChan_power _ ch _)).trans (State.post_power _ _)
    iterate 3
      split
      · exact ((hlow.trans (State.loseCall_power _ _)).trans (State.post_power _ _)).trans (State.finish_power _)
      · exact hlow
    all_goals exact hlow
  · exact .refl s

theorem State.readyRises_power (s : State) (ch : ChanId) : s.PowerKept (s.readyRises ch) := by
  unfold State.readyRises
  split
  · exact .refl s
  · dsimp only
    split
    · exact .ofSecs (by simp)
    all_goals exact s.setChan_power ch _

/-! ## Requests -/

theorem State.onSection_power (s : State) (n : Nat) {act : SectionId → Answered} (h : ∀ i, s.PowerKept (act i).1) :
    s.PowerKept (s.onSection n act).1 := by
  unfold State.onSection
  split
  · split
    · exact h _
    · exact .refl s
  · exact .refl s

theorem State.onSectionInService_power (s : State) (n : Nat) {act : SectionId → Answered}
    (h : ∀ i, (s.sec i).power ≠ .off → s.PowerKept (act i).1) : s.PowerKept (s.onSectionInService n act).1 := by
  refine s.onSection_power n (fun i => ?_)
  split
  · exact .refl s
  · next hp => exact h i hp

theorem State.onPost_power (s : State) (p : Nat) {act : Fin 2 → PostEntry → Answered} (h : ∀ c e, s.PowerKept (act c e).1) :
    s.PowerKept (s.onPost p act).1 := by
  unfold State.onPost
  split
  · split
    · exact h _ _
    · exact .refl s
  · exact .refl s

theorem State.onCall_power (s : State) (r : Nat) {act : Call → Answered} (h : ∀ c, s.PowerKept (act c).1) :
    s.PowerKept (s.onCall r act).1 := by
  unfold State.onCall
  split
  · split
    · exact h _
    · exact .refl s
  · exact .refl s

theorem State.refuseNamed_power (s : State) (st : Status) (r : Nat) : s.PowerKept (s.refuseNamed st r).1 := by
  unfold State.refuseNamed
  split
  · split <;> exact .refl s
  · exact .refl s

theorem State.setGlobalsAct_power (s : State) (g : RawGlobals) : s.PowerKept (s.setGlobalsAct g).1 := by
  unfold State.setGlobalsAct
  split
  · exact .ofSecs (by simp)
  · exact .refl s

theorem State.defineSectionAct_power (s : State) (n : Nat) (d : RawSection) : s.PowerKept (s.defineSectionAct n d).1 := by
  unfold State.defineSectionAct
  split
  · split
    · exact .refl s
    · split
      · exact .refl s
      · exact s.modSec_power _ _
  · exact .refl s

theorem State.setTimingAct_power (s : State) (n : Nat) (t : RawTiming) : s.PowerKept (s.setTimingAct n t).1 := by
  refine s.onSection_power n (fun i => ?_)
  split
  · exact s.modSec_power i _
  · exact s.applyTiming_power i _

theorem State.beginService_power (s : State) (i : SectionId) (h : (s.sec i).power ≠ .active) : s.PowerKept (s.beginService i) :=
  (s.startWake_power i _ h).trans (State.modSec_power _ i _)

theorem State.serviceInAct_power (s : State) (n d f : Nat) : s.PowerKept (s.serviceInAct n d f).1 := by
  unfold State.serviceInAct
  split
  · refine s.onSection_power n (fun i => ?_)
    dsimp only
    split
    · next hp => exact s.beginService_power i (by simp [hp])
    · exact .refl s
  · exact .refl s

/-- A service that begins wakes its section: no ACTIVE section comes of it (R90, R97). -/
theorem State.beginService_sleeps {s : State} (h : ∀ j, (s.sec j).power ≠ .active) (i j : SectionId) :
    ((s.beginService i).sec j).power ≠ .active := by
  unfold State.beginService State.startWake
  rw [State.sec_modSec, State.sec_modLine, State.sec_modLine]
  split
  · simp [SectionCtl.retime]
  · exact h j

theorem State.beginServices_power (is : List SectionId) (s : State) (h : ∀ j, (s.sec j).power ≠ .active) :
    s.PowerKept (State.beginServices is s) := by
  induction is generalizing s with
  | nil => exact .refl s
  | cons i is ih => exact (s.beginService_power i (h i)).trans (ih _ (State.beginService_sleeps h i))

theorem State.startAct_power (s : State) (hm : s.mode = .setup) (hs : s.SetupLaw) : s.PowerKept s.startAct.1 := by
  unfold State.startAct
  split
  · exact .refl s
  · have hoff : ∀ j, (State.sec { s with mode := .service } j).power ≠ .active := fun j hj => by
      rw [show State.sec { s with mode := .service } j = s.sec j from rfl, hs hm j] at hj
      cases hj
    exact (State.PowerKept.ofSecs rfl).trans (State.beginServices_power _ _ hoff)

theorem State.reportAborted_power (i : SectionId) (ts : List Txn) (s : State) : s.PowerKept (State.reportAborted i ts s) := by
  induction ts generalizing s with
  | nil => exact .refl s
  | cons t ts ih => exact (s.reportFailed_power i t _).trans (ih _)

theorem State.takeOut_powerLaw {s : State} (h : s.PowerLaw) (i : SectionId) : (s.takeOut i).PowerLaw := by
  have haborted := h.kept (s.abortQueue_power i)
  obtain ⟨hf, -⟩ := s.abortQueue_clears i
  have hoff : ((s.abortQueue i).modLine i SectionCtl.goOff).PowerLaw :=
    State.modLine_powerLaw haborted i _ ⟨fun _ => ⟨rfl, hf, rfl, rfl⟩, fun hsome => by simp [SectionCtl.goOff, hf] at hsome⟩
  exact hoff.kept (((((State.post_power _ _).trans (State.applyPending_power _ i)).trans (State.endCalls_power _ _ _)).trans
    (State.reportAborted_power i _ _)).trans (State.finish_power _))

/-- What every outcome of a request about a section has, the answer has: the outcome at the section named, or a refusal. -/
theorem State.onSection_cases {P : State → Prop} {s : State} (hs : P s) (n : Nat) {act : SectionId → Answered}
    (h : ∀ i, P (act i).1) : P (s.onSection n act).1 := by
  unfold State.onSection
  split
  · split
    · exact h _
    · exact hs
  · exact hs

theorem State.onSectionInService_cases {P : State → Prop} {s : State} (hs : P s) (n : Nat) {act : SectionId → Answered}
    (h : ∀ i, (s.sec i).power ≠ .off → P (act i).1) : P (s.onSectionInService n act).1 := by
  refine State.onSection_cases hs n (fun i => ?_)
  split
  · exact hs
  · next hp => exact h i hp

theorem State.serviceOutAct_powerLaw {s : State} (h : s.PowerLaw) (n d f : Nat) : (s.serviceOutAct n d f).1.PowerLaw := by
  unfold State.serviceOutAct
  split
  · refine State.onSection_cases h n (fun i => ?_)
    split
    · exact h
    · split
      · exact State.takeOut_powerLaw h i
      · exact h
  · exact h

/-- The calls of a section that is reset end with no act of its arbiter: the line keeps nothing in flight (R81). -/
theorem State.endCallsQuietly_inFlight (e : EndCause) (cs : List Call) (s : State) (i : SectionId) :
    ((State.endCallsQuietly e cs s).sec i).inFlight = (s.sec i).inFlight := by
  induction cs generalizing s with
  | nil => rfl
  | cons c cs ih =>
    refine (ih _).trans ?_
    have hquiet : ∀ u : State, ((u.offerQuietNotice c.sec c.addr c.closing c.ref).sec i).inFlight = (u.sec i).inFlight := fun u => by
      unfold State.offerQuietNotice
      split
      · rfl
      all_goals
        rw [State.modQueue, State.sec_modSec]
        split
        · next hi => rw [hi]
        · rfl
    have hheld : ∀ u : State, (u.releaseHeld c).sec i = u.sec i := fun u => by rw [State.sec, State.releaseHeld_secs]; rfl
    have hretired : (s.retireCall c e).sec i = s.sec i := by rw [State.sec, State.retireCall_secs]; rfl
    rw [State.endCallQuietly, hheld, hquiet, hretired]

theorem State.resetLine_powerLaw {s : State} (h : s.PowerLaw) (i : SectionId) (hf : (s.sec i).inFlight = none) :
    (s.resetLine i).PowerLaw := by
  unfold State.resetLine
  split
  · next hp => exact State.modLine_powerLaw h i _ ⟨fun hn => absurd hp hn, fun hsome => by simp [hf] at hsome⟩
  · next hp => exact h.kept (s.startWake_power i _ hp)

theorem State.resetSection_powerLaw {s : State} (h : s.PowerLaw) (i : SectionId) : (s.resetSection i).PowerLaw := by
  unfold State.resetSection
  dsimp only
  obtain ⟨hf, -⟩ := s.abortQueue_clears i
  have haborted := h.kept ((s.abortQueue_power i).trans (State.endCallsQuietly_power .sectionReset (s.callsInOrder i) _))
  have hfree : ((State.endCallsQuietly .sectionReset (s.callsInOrder i) (s.abortQueue i)).sec i).inFlight = none :=
    (State.endCallsQuietly_inFlight _ _ _ i).trans hf
  generalize State.endCallsQuietly .sectionReset (s.callsInOrder i) (s.abortQueue i) = u at haborted hfree ⊢
  have hclosed := haborted.kept ((u.modSec_power i (fun x => { x with round := none }) (hr := fun _ _ => rfl)).trans
    (State.applyPending_power _ i))
  have hstill : (((u.modSec i (fun x => { x with round := none })).applyPending i).sec i).inFlight = none := by
    obtain ⟨d, hd⟩ := (u.modSec i (fun x => { x with round := none })).sec_applyPending i
    rw [hd]
    simpa using hfree
  exact (State.resetLine_powerLaw hclosed i hstill).kept ((State.reportAborted_power i _ _).trans (State.finish_power _))

theorem State.sectionResetAct_powerLaw {s : State} (h : s.PowerLaw) (n : Nat) : (s.sectionResetAct n).1.PowerLaw :=
  State.onSectionInService_cases h n (fun i _ => State.resetSection_powerLaw h i)

theorem State.forceIdleAct_powerLaw {s : State} (h : s.PowerLaw) (n : Nat) : (s.forceIdleAct n).1.PowerLaw := by
  refine State.onSectionInService_cases h n (fun i _ => ?_)
  dsimp only
  split
  · next hl => exact State.enterIdle_powerLaw h i hl.2
  · exact h

theorem State.pollNowAct_power (s : State) (n : Nat) : s.PowerKept (s.pollNowAct n).1 := by
  refine s.onSectionInService_power n (fun i _ => ?_)
  split
  · next hp =>
    split
    · exact .refl s
    · exact s.openAndAct_power i hp
  · next hp => exact State.openFromSettling_power hp .host
  · exact (s.modSec_power i _).trans (State.arrive_power _ i .host)
  · exact (s.modSec_power i _).trans (State.arrive_power _ i .host)
  · exact .refl s

theorem State.measureAct_power (s : State) (n : Nat) : s.PowerKept (s.measureAct n).1 := by
  refine s.onSectionInService_power n (fun i _ => ?_)
  split
  · exact .refl s
  · exact (((s.arrive_power i .host).trans (State.modSec_power _ i _)).trans (State.arbiter_power _ i)).trans (State.finish_power _)

theorem State.hostEntry_power (s : State) (i : SectionId) (f : List Txn → List Txn) : s.PowerKept (s.hostEntry i f) :=
  (((s.arrive_power i .host).trans (State.modQueue_power _ i f)).trans (State.workArrived_power _ i)).trans (State.finish_power _)

theorem State.lampAct_power (s : State) (p n : Nat) : s.PowerKept (s.lampAct p n).1 := by
  unfold State.lampAct
  split
  · refine s.onPost_power p (fun _ e => ?_)
    split
    · exact .refl s
    · split
      · exact .refl s
      · exact s.hostEntry_power _ _
  · exact .refl s

theorem State.messageAct_power (s : State) (p : Nat) (text : List Byte) : s.PowerKept (s.messageAct p text).1 := by
  refine s.onPost_power p (fun _ e => ?_)
  split
  · exact .refl s
  · split
    · exact .refl s
    · exact s.hostEntry_power _ _

theorem State.refuseDirection_power (s : State) (n : Nat) : s.PowerKept (s.refuseDirection n).1 := by
  unfold State.refuseDirection
  split <;> exact .refl s

theorem State.setChannelOutAct_power (s : State) (n d : Nat) : s.PowerKept (s.setChannelOutAct n d).1 := by
  unfold State.setChannelOutAct
  split
  · dsimp only
    split
    · exact (s.setChan_power _ _).trans (State.post_power _ _)
    · exact (s.setChan_power _ _).trans (State.post_power _ _)
    all_goals exact .refl s
  · exact s.refuseDirection_power n

theorem State.setChannelInAct_power (s : State) (n d : Nat) : s.PowerKept (s.setChannelInAct n d).1 := by
  unfold State.setChannelInAct
  split
  · dsimp only
    split
    · dsimp only
      split
      · exact ((s.setChan_power _ _).trans (State.post_power _ _)).trans (State.occasion_power _)
      · exact (s.setChan_power _ _).trans (State.post_power _ _)
    · exact .refl s
  · exact s.refuseDirection_power n

theorem State.connected_power (s : State) (c : Call) (ch : ChanId) : s.PowerKept (s.connect c ch).finish :=
  (s.connect_power c ch).trans (State.finish_power _)

theorem State.answerAct_power (s : State) (r : Nat) : s.PowerKept (s.answerAct r).1 := by
  refine s.onCall_power r (fun c => ?_)
  split
  · exact s.connected_power c _
  · exact .refl s

theorem State.pickAct_power (s : State) (r n : Nat) : s.PowerKept (s.pickAct r n).1 := by
  unfold State.pickAct
  split
  · refine s.onCall_power r (fun c => ?_)
    split
    · split
      · split
        · exact s.connected_power c _
        · exact .refl s
      · exact .refl s
    · exact .refl s
  · exact s.refuseNamed_power _ r

theorem State.parkAct_power (s : State) (r : Nat) : s.PowerKept (s.parkAct r).1 := by
  refine s.onCall_power r (fun c => ?_)
  split
  · exact (s.parkCall_power c _).trans (State.finish_power _)
  · exact .refl s

theorem State.retrieveAct_power (s : State) (r n : Nat) : s.PowerKept (s.retrieveAct r n).1 := by
  unfold State.retrieveAct
  split
  · refine s.onCall_power r (fun c => ?_)
    split
    · split
      · exact s.connected_power c _
      · exact .refl s
    · exact .refl s
  · exact s.refuseNamed_power _ r

theorem State.ended_power (s : State) (c : Call) (e : EndCause) : s.PowerKept (s.endCall c e).finish :=
  (s.endCall_power c e).trans (State.finish_power _)

theorem State.clearAct_power (s : State) (r : Nat) : s.PowerKept (s.clearAct r).1 := by
  refine s.onCall_power r (fun c => ?_)
  split
  · exact .refl s
  · exact s.ended_power c _

theorem State.dismissAct_power (s : State) (r : Nat) : s.PowerKept (s.dismissAct r).1 := by
  refine s.onCall_power r (fun c => ?_)
  split
  · exact s.ended_power c _
  · exact .refl s

theorem State.ringNew_power (s : State) (i : SectionId) (a : Addr) (ch : ChanId) : s.PowerKept (s.ringNew i a ch).1 :=
  ((State.PowerKept.ofSecs (s.addCall_secs _)).trans (State.ring_power _ _ ch)).trans (State.finish_power _)

theorem State.callEntry_power (s : State) (e : PostEntry) (named : Option ChanId) : s.PowerKept (s.callEntry e named).1 := by
  unfold State.callEntry
  split
  · split
    · split
      · exact .refl s
      · split
        · exact (s.ring_power _ _).trans (State.finish_power _)
        · exact .refl s
    · exact .refl s
  · split
    · exact .refl s
    · split
      · split
        · exact s.ringNew_power _ _ _
        · split
          · exact (s.endCall_power _ _).trans (State.ringNew_power _ _ _ _)
          · exact .refl s
      · exact .refl s

theorem State.callPostAct_power (s : State) (p n : Nat) : s.PowerKept (s.callPostAct p n).1 := by
  unfold State.callPostAct
  split
  · refine s.onPost_power p (fun _ e => ?_)
    split
    · exact .refl s
    · exact s.callEntry_power e _
  · exact .refl s

theorem State.defineChecked_secs (s : State) (e : PostEntry) : (s.defineChecked e).1.secs = s.secs := by
  unfold State.defineChecked State.redefinePost State.placePost
  split
  · rfl
  · split
    · split
      · rfl
      · split
        · rfl
        · simp
    · split
      · rfl
      · split
        · simp
        · rfl

theorem State.definePostAct_power (s : State) (p : RawPost) : s.PowerKept (s.definePostAct p).1 := by
  unfold State.definePostAct
  split
  · split
    · exact .ofSecs (s.defineChecked_secs _)
    · exact .refl s
  · exact .refl s

theorem State.removePostAct_power (s : State) (p : Nat) : s.PowerKept (s.removePostAct p).1 := by
  refine s.onPost_power p (fun c e => ?_)
  split
  · exact .refl s
  · exact .ofSecs (by simp)

theorem State.setServiceAct_power (s : State) (p : Nat) (st : ServiceState) : s.PowerKept (s.setServiceAct p st).1 :=
  s.onPost_power p (fun _ _ => .ofSecs (by simp))

theorem State.getEventAct_power (s : State) : s.PowerKept s.getEventAct.1 := by
  unfold State.getEventAct
  split <;> exact .ofSecs rfl

theorem State.readHistoryAct_power (s : State) (n : Nat) : s.PowerKept (s.readHistoryAct n).1 := by
  unfold State.readHistoryAct
  split <;> exact .refl s

end Sys2Proof.Machine
end

section
/-! SUPPORT. The power law through the serial link and the resets, and the statement that every step keeps it (O21). -/

-- One theorem after another: elaborated side by side, they ask for more thread stacks than the check has memory for.
set_option Elab.async false

namespace Sys2Proof.Machine

/-! ## The serial link -/

theorem State.joinBuffer_secs (s : State) (e : BufEntry) : (s.joinBuffer e).secs = s.secs := by
  unfold State.joinBuffer
  split <;> rfl

theorem State.frameByte_secs (s : State) (got : List Byte) : (s.frameByte got).secs = s.secs := by
  unfold State.frameByte
  split
  · split
    · exact State.joinBuffer_secs _ _
    · split
      · exact State.joinBuffer_secs _ _
      · rfl
  · rfl

theorem State.receiveByte_secs (s : State) (b : Byte) : (s.receiveByte b).secs = s.secs := by
  unfold State.receiveByte
  split
  · rfl
  · split
    · split <;> rfl
    · exact s.frameByte_secs _

theorem State.receiveBytes_secs (bs : List Byte) (s : State) : (s.receiveBytes bs).secs = s.secs := by
  induction bs generalizing s with
  | nil => rfl
  | cons b bs ih => exact (ih _).trans (s.receiveByte_secs b)

theorem State.byteGap_secs (s : State) : s.byteGap.secs = s.secs := by
  unfold State.byteGap
  split
  · exact State.joinBuffer_secs _ _
  · rfl

theorem State.noticeReply_secs (s : State) : s.noticeReply.secs = s.secs := by
  unfold State.noticeReply
  split
  · split <;> rfl
  all_goals rfl

/-! ## The resets -/

theorem State.deviceReset_powerLaw (s : State) : s.deviceReset.PowerLaw := fun i => by
  rw [State.sec_deviceReset]
  exact ⟨fun _ => ⟨rfl, rfl, rfl, rfl⟩, nofun, rfl, rfl, rfl⟩

theorem State.replySent_powerLaw {s : State} (h : s.PowerLaw) : s.replySent.PowerLaw := by
  unfold State.replySent
  split
  · split
    · exact s.deviceReset_powerLaw
    · exact h
  · exact h

theorem State.releaseReset_powerLaw {s : State} (h : s.PowerLaw) : s.releaseReset.PowerLaw := by
  unfold State.releaseReset
  split
  · exact State.deviceReset_powerLaw _
  · exact h

/-- A burst cut off leaves a sleeping section quiet (R199). -/
theorem SectionCtl.cutBurst_idleKind {x : SectionCtl} (h : x.exch.idleKind = true) : x.cutBurst.exch.idleKind = true := by
  unfold SectionCtl.cutBurst
  split
  · next he => rw [he] at h; cases h
  · next he => rw [he] at h; cases h
  · next he => rw [he] at h; cases h
  · next he => rw [he] at h; cases h
  · rfl
  · rfl
  all_goals exact h

theorem State.cutBursts_powerLaw (is : List SectionId) {s : State} (h : s.PowerLaw) : (State.cutBursts is s).PowerLaw := by
  induction is generalizing s with
  | nil => exact h
  | cons i is ih =>
    refine ih (State.modLine_powerLaw h i _ ?_)
    obtain ⟨hasleep, hflight⟩ := (h i).core
    obtain ⟨e, he⟩ := (s.sec i).cutBurst_eq
    have hidle := SectionCtl.cutBurst_idleKind (x := s.sec i)
    rw [he] at hidle ⊢
    exact ⟨fun hn => ⟨(hasleep hn).1, (hasleep hn).2.1, (hasleep hn).2.2.1, hidle (hasleep hn).2.2.2⟩, hflight⟩

theorem State.assertReset_powerLaw {s : State} (h : s.PowerLaw) : s.assertReset.PowerLaw := by
  unfold State.assertReset
  split
  · exact h
  · exact State.cutBursts_powerLaw _ h

/-! ## Every command -/

/-- A command's outcome, where the laws of power states are to be kept. -/
def State.KeepsPower (s t : State) : Prop := s.SetupLaw → s.PowerLaw → t.PowerLaw

theorem State.PowerKept.keeps {s t : State} (h : s.PowerKept t) : s.KeepsPower t := fun _ => h.1

theorem State.KeepsPower.ofSecs {s t : State} (h : t.secs = s.secs := by rfl) : s.KeepsPower t := (State.PowerKept.ofSecs h).keeps

theorem State.request_keepsPower (s : State) {k : ReqKind} {h : Hdr} {body : List Byte} {want : Nat} {act : State → Answered}
    (hact : ∀ u : State, k.allowedIn u.mode = true → u.KeepsPower (act u).1) : s.KeepsPower (s.request k h body want act) := by
  intro hsetup hpower
  unfold State.request
  split
  · dsimp only
    split
    · exact hpower
    · split
      · next hm => exact hact _ hm hsetup hpower
      · exact hpower
  · exact hpower

theorem State.request_keepsPower_of_kept (s : State) {k : ReqKind} {h : Hdr} {body : List Byte} {want : Nat} {act : State → Answered}
    (hact : ∀ u : State, u.PowerKept (act u).1) : s.KeepsPower (s.request k h body want act) :=
  s.request_keepsPower (fun u _ => (hact u).keeps)

/-- START is a request of SETUP only (R191). -/
theorem mode_of_start {m : Mode} (h : ReqKind.start.allowedIn m = true) : m = .setup := by
  cases m with
  | setup => rfl
  | service => cases h

theorem exec_keepsPower (c : Instr) (s : State) : ∃ t, exec c s = .next t ∧ s.KeepsPower t :=
  match c with
  | .identify _ => ⟨_, rfl, s.request_keepsPower_of_kept .refl⟩
  | .reset _ => ⟨_, rfl, s.request_keepsPower_of_kept .refl⟩
  | .start _ => ⟨_, rfl, s.request_keepsPower (fun u hm hs => (u.startAct_power (mode_of_start hm) hs).1)⟩
  | .setGlobals _ g => ⟨_, rfl, s.request_keepsPower_of_kept (·.setGlobalsAct_power g)⟩
  | .defineSection _ n d => ⟨_, rfl, s.request_keepsPower_of_kept (·.defineSectionAct_power n d)⟩
  | .setSectionTiming _ n t => ⟨_, rfl, s.request_keepsPower_of_kept (·.setTimingAct_power n t)⟩
  | .sectionServiceIn _ n d f => ⟨_, rfl, s.request_keepsPower_of_kept (·.serviceInAct_power n d f)⟩
  | .sectionServiceOut _ n d f => ⟨_, rfl, s.request_keepsPower (fun _ _ _ h => State.serviceOutAct_powerLaw h n d f)⟩
  | .sectionReset _ n => ⟨_, rfl, s.request_keepsPower (fun _ _ _ h => State.sectionResetAct_powerLaw h n)⟩
  | .forceIdle _ n => ⟨_, rfl, s.request_keepsPower (fun _ _ _ h => State.forceIdleAct_powerLaw h n)⟩
  | .definePost _ p => ⟨_, rfl, s.request_keepsPower_of_kept (·.definePostAct_power p)⟩
  | .removePost _ p => ⟨_, rfl, s.request_keepsPower_of_kept (·.removePostAct_power p)⟩
  | .suspendPost _ p => ⟨_, rfl, s.request_keepsPower_of_kept (·.setServiceAct_power p _)⟩
  | .resumePost _ p => ⟨_, rfl, s.request_keepsPower_of_kept (·.setServiceAct_power p _)⟩
  | .lamp _ p n => ⟨_, rfl, s.request_keepsPower_of_kept (·.lampAct_power p n)⟩
  | .message _ p _ text => ⟨_, rfl, s.request_keepsPower_of_kept (·.messageAct_power p text)⟩
  | .pollNow _ n => ⟨_, rfl, s.request_keepsPower_of_kept (·.pollNowAct_power n)⟩
  | .measure _ n => ⟨_, rfl, s.request_keepsPower_of_kept (·.measureAct_power n)⟩
  | .setChannelOut _ n d => ⟨_, rfl, s.request_keepsPower_of_kept (·.setChannelOutAct_power n d)⟩
  | .setChannelIn _ n d => ⟨_, rfl, s.request_keepsPower_of_kept (·.setChannelInAct_power n d)⟩
  | .answer _ r => ⟨_, rfl, s.request_keepsPower_of_kept (·.answerAct_power r)⟩
  | .pick _ r n => ⟨_, rfl, s.request_keepsPower_of_kept (·.pickAct_power r n)⟩
  | .park _ r => ⟨_, rfl, s.request_keepsPower_of_kept (·.parkAct_power r)⟩
  | .retrieve _ r n => ⟨_, rfl, s.request_keepsPower_of_kept (·.retrieveAct_power r n)⟩
  | .clear _ r => ⟨_, rfl, s.request_keepsPower_of_kept (·.clearAct_power r)⟩
  | .callPost _ p n => ⟨_, rfl, s.request_keepsPower_of_kept (·.callPostAct_power p n)⟩
  | .dismiss _ r => ⟨_, rfl, s.request_keepsPower_of_kept (·.dismissAct_power r)⟩
  | .getEvent _ => ⟨_, rfl, s.request_keepsPower_of_kept State.getEventAct_power⟩
  | .listCalls _ => ⟨_, rfl, s.request_keepsPower_of_kept .refl⟩
  | .readCall _ r => ⟨_, rfl, s.request_keepsPower_of_kept (fun u => u.onCall_power r (fun _ => .refl u))⟩
  | .readPost _ p => ⟨_, rfl, s.request_keepsPower_of_kept (fun u => u.onPost_power p (fun _ _ => .refl u))⟩
  | .readSection _ n => ⟨_, rfl, s.request_keepsPower_of_kept (fun u => u.onSection_power n (fun _ => .refl u))⟩
  | .readChannels _ => ⟨_, rfl, s.request_keepsPower_of_kept .refl⟩
  | .readUnresolved _ => ⟨_, rfl, s.request_keepsPower_of_kept (fun _ => .ofSecs rfl)⟩
  | .readHistory _ n => ⟨_, rfl, s.request_keepsPower_of_kept (·.readHistoryAct_power n)⟩
  | .readMeasurement _ n => ⟨_, rfl, s.request_keepsPower_of_kept (fun u => u.onSection_power n (fun _ => .refl u))⟩
  | .frameReceived bs => ⟨_, rfl, .ofSecs (s.receiveBytes_secs bs)⟩
  | .frameByteGap => ⟨_, rfl, .ofSecs s.byteGap_secs⟩
  | .discardNoticeReply => ⟨_, rfl, .ofSecs s.noticeReply_secs⟩
  | .replySent => ⟨_, rfl, fun _ => State.replySent_powerLaw⟩
  | .powerSteady => ⟨_, rfl, fun _ _ => State.deviceReset_powerLaw _⟩
  | .resetInputAsserted => ⟨_, rfl, fun _ => State.assertReset_powerLaw⟩
  | .resetInputReleased => ⟨_, rfl, fun _ => State.releaseReset_powerLaw⟩
  | .secondsTick => ⟨_, rfl, .ofSecs⟩
  | .ageingStep r => ⟨_, rfl, (s.ageingStep_power r).keeps⟩
  | .pollCountdownExpiry i => ⟨_, rfl, (s.countdown_power i).keeps⟩
  | .enterSettling i => ⟨_, rfl, fun _ h => State.enterSettling_powerLaw h i⟩
  | .shutdownSent i => ⟨_, rfl, fun _ h => State.shutdownDone_powerLaw h i⟩
  | .settleTimerExpiry i off => ⟨_, rfl, fun _ h => State.settleEnds_powerLaw h i off⟩
  | .offHookDetected i => ⟨_, rfl, fun _ h => State.offHook_powerLaw h i⟩
  | .powerUpEnd i => ⟨_, rfl, fun _ h => State.powerUpEnds_powerLaw h i⟩
  | .announceEnd i => ⟨_, rfl, fun _ h => State.announceEnds_powerLaw h i⟩
  | .leadWindowEnd i => ⟨_, rfl, fun _ h => State.leadEnds_powerLaw h i⟩
  | .transactionBurstSent i => ⟨_, rfl, fun _ h => State.burstSent_powerLaw h i⟩
  | .replyWindowExpiry i => ⟨_, rfl, fun _ h => State.windowEnds_powerLaw h i⟩
  | .postBurstStart i w => ⟨_, rfl, fun _ h => State.postBurstStarts_powerLaw h i w⟩
  | .replyBurstEnd i recs => ⟨_, rfl, fun _ h => State.replyEnds_powerLaw h i recs⟩
  | .postBurstEnd i recs => ⟨_, rfl, fun _ h => State.postEnds_powerLaw h i recs⟩
  | .answerBurstSent i => ⟨_, rfl, fun _ h => State.answerSent_powerLaw h i⟩
  | .carrierAppears i => ⟨_, rfl, fun _ h => State.carrierUp_powerLaw h i⟩
  | .carrierDrops i => ⟨_, rfl, fun _ h => State.carrierDown_powerLaw h i⟩
  | .stuckLimit i => ⟨_, rfl, fun _ h => State.stuckLimit_powerLaw h i⟩
  | .spaceAppears i => ⟨_, rfl, fun _ h => State.spaceUp_powerLaw h i⟩
  | .breakTime i => ⟨_, rfl, fun _ h => State.breakTime_powerLaw h i⟩
  | .spaceEnds i => ⟨_, rfl, fun _ h => State.spaceDown_powerLaw h i⟩
  | .settleQuiet i => ⟨_, rfl, fun _ h => State.settleQuiet_powerLaw h i⟩
  | .endMarkObserved i => ⟨_, rfl, fun _ h => State.endMark_powerLaw h i⟩
  | .sampleTaken i n => ⟨_, rfl, fun _ h => State.takeSample_powerLaw h i n⟩
  | .offerTimeout r => ⟨_, rfl, (s.offerExpires_power r).keeps⟩
  | .ringTimeout r => ⟨_, rfl, (s.ringExpires_power r).keeps⟩
  | .readyLost ch => ⟨_, rfl, (s.readyFalls_power ch).keeps⟩
  | .readyRegained ch => ⟨_, rfl, (s.readyRises_power ch).keeps⟩
  | .byteReceived b => ⟨_, rfl, .ofSecs (s.receiveByte_secs b)⟩

theorem exec_powerLaw {c : Instr} {s t : State} (h : exec c s = .next t) (hsetup : s.SetupLaw) (hpower : s.PowerLaw) : t.PowerLaw := by
  obtain ⟨u, hu, hk⟩ := exec_keepsPower c s
  cases hu.symm.trans h
  exact hk hsetup hpower

/-- Settles O21, command by command: SETUP by what every command keeps, and the power law by the fact that where the line is sent
anywhere, or anything is in flight, the section is ACTIVE. -/
theorem stepKeepsThePowerLaw : Obligations.StepKeepsThePowerLaw := by
  unfold Obligations.StepKeepsThePowerLaw
  intro s t hsetup hpower h
  obtain rfl | ⟨c, q, hc⟩ := step_cases h
  · exact ⟨hsetup, hpower⟩
  · exact ⟨(exec_steps_of_next hc).setup hsetup, exec_powerLaw hc hsetup hpower⟩

end Sys2Proof.Machine
end

section
/-! SUPPORT. The laws of calls, channels, paths and joins said call by call, and the three things that may happen to a call table: one
call moves to another state, one leaves, and one joins (R129, R132, R149, R155, R159, R160). -/

-- One theorem after another: elaborated side by side, they ask for more thread stacks than the check has memory for.
set_option Elab.async false

namespace Sys2Proof.Machine

/-! ## The laws call by call -/

/-- The states whose table says that the call holds its section's path (R132). -/
def CallState.holds : CallState → Bool
  | .offered | .connected | .parked | .ringing => true
  | .queued | .abandoned => false

theorem CallState.holds_iff {st : CallState} :
    st.holds = true ↔ st = .offered ∨ st = .connected ∨ st = .parked ∨ st = .ringing := by cases st <;> simp [CallState.holds]

/-- The laws of calls, channels, paths and joins, without the power states. -/
structure State.CallsOk (s : State) : Prop where
  size : s.TableLaw
  place : s.PlaceLaw
  refs : s.RefLaw
  named : ∀ ch r, (s.chan ch).call = some r →
    ∃ c ∈ s.calls, c.ref = r ∧ c.channel = some ch ∧ c.state.channelState = some (s.chan ch).state
  idle : ∀ ch, (s.chan ch).call = none → (s.chan ch).state.busy = false
  names : ∀ c ∈ s.calls, ∀ ch, c.channel = some ch → (s.chan ch).call = some c.ref ∧ c.state.channelState = some (s.chan ch).state
  unswitched : ∀ c ∈ s.calls, c.channel = none → c.state.channelState = none
  held : ∀ i r, s.holder i = some r → ∃ c ∈ s.calls, c.ref = r ∧ c.sec = i ∧ c.state ≠ .abandoned ∧ s.join i = c.joinOf
  unheld : ∀ i, s.holder i = none → s.join i = .nothing
  holds : ∀ c ∈ s.calls, c.state.holds = true → s.holder c.sec = some c.ref
  timed : s.CallTimerLaw

/-- A reference names one call (R149). -/
theorem State.RefLaw.unique {s : State} (h : s.RefLaw) {c d : Call} (hc : c ∈ s.calls) (hd : d ∈ s.calls) (hr : c.ref = d.ref) :
    c = d := Option.some.inj ((h.findCall hc).symm.trans (hr ▸ h.findCall hd))

/-- A section in ACTIVE or WAKING may have live calls in every state (R82). -/
def Power.Awake (p : Power) : Prop := p = .active ∨ ∃ w, p = .waking w

theorem Power.Rises.awake {p q : Power} (h : p.Rises q) (hp : p.Awake) : q.Awake := by
  rcases h with rfl | ⟨-, hq⟩
  · exact hp
  · exact hq

theorem Power.Rises.ne_off {p q : Power} (h : p.Rises q) (hp : p ≠ .off) : q ≠ .off := by
  rcases h with rfl | ⟨-, rfl | ⟨w, rfl⟩⟩
  · exact hp
  · nofun
  · nofun

theorem State.sleepLaw_iff (s : State) : s.SleepLaw ↔
    ∀ c ∈ s.calls, (s.sec c.sec).power ≠ .off ∧ (c.state ≠ .abandoned → (s.sec c.sec).power.Awake) := by
  refine forall₂_congr (fun c _ => ?_)
  cases (s.sec c.sec).power <;> simp [Power.Awake]

/-- The call table, the channels, the paths and the joins are lawful, and no sleeping section has a call but an ABANDONED one. -/
structure State.Switched (s : State) : Prop extends State.CallsOk s where
  sleep : s.SleepLaw

theorem State.callLaw_iff (s : State) : s.CallLaw ↔ s.PowerLaw ∧ s.Switched := by
  constructor
  · rintro ⟨hpower, hsize, hplace, hrefs, ⟨hchan, hcall⟩, hpath, hhold, hjoin, hsleep, htimed⟩
    refine ⟨hpower, ⟨hsize, hplace, hrefs, fun ch r hr => ?_, fun ch hr => ?_, fun c hc ch hch => ?_, fun c hc hch => ?_,
      fun i r hr => ?_, fun i hr => ?_, fun c hc hst => hhold c hc (CallState.holds_iff.1 hst), htimed⟩, hsleep⟩
    · have h := hchan ch
      rwa [hr] at h
    · have h := hchan ch
      rwa [hr] at h
    · have h := hcall c hc
      rwa [hch] at h
    · have h := hcall c hc
      rwa [hch] at h
    · have h := hpath i
      have hj := hjoin i
      rw [hr] at h hj
      obtain ⟨c, hc, href, hsec, hst⟩ := h
      exact ⟨c, hc, href, hsec, hst, hj c hc href⟩
    · have h := hjoin i
      rwa [hr] at h
  · rintro ⟨hpower, hok, hsleep⟩
    refine ⟨hpower, hok.size, hok.place, hok.refs, ⟨fun ch => ?_, fun c hc => ?_⟩, fun i => ?_,
      fun c hc hst => hok.holds c hc (CallState.holds_iff.2 hst), fun i => ?_, hsleep, hok.timed⟩
    · split
      · next r hr => exact hok.named ch r hr
      · next hr => exact hok.idle ch hr
    · split
      · next ch hch => exact hok.names c hc ch hch
      · next hch => exact hok.unswitched c hc hch
    · split
      · next r hr =>
        obtain ⟨c, hc, href, hsec, hst, -⟩ := hok.held i r hr
        exact ⟨c, hc, href, hsec, hst⟩
      · trivial
    · split
      · next r hr =>
        obtain ⟨c, hc, href, -, -, hj⟩ := hok.held i r hr
        intro d hd hdr
        rw [hj, hok.refs.unique hc hd (href.trans hdr.symm)]
      · next hr => exact hok.unheld i hr

/-- The laws are of the call table, the channels' states and calls, the paths and the joins. -/
theorem State.CallsOk.congr {s t : State} (h : s.CallsOk) (hcalls : t.calls = s.calls) (hhist : t.history = s.history)
    (hnext : t.nextRef = s.nextRef) (hchan : ∀ ch, (t.chan ch).call = (s.chan ch).call ∧ (t.chan ch).state = (s.chan ch).state)
    (hholder : ∀ i, t.holder i = s.holder i) (hjoin : ∀ i, t.join i = s.join i) : t.CallsOk := by
  obtain ⟨hsize, hplace, hrefs, hnamed, hidle, hnames, hunsw, hheld, hunheld, hholds, htimed⟩ := h
  have hcall : ∀ ch, (t.chan ch).call = (s.chan ch).call := fun ch => (hchan ch).1
  have hstate : ∀ ch, (t.chan ch).state = (s.chan ch).state := fun ch => (hchan ch).2
  refine ⟨?_, ?_, ?_, ?_, ?_, ?_, ?_, ?_, ?_, ?_, ?_⟩
  · unfold State.TableLaw
    rwa [hcalls, hhist]
  · unfold State.PlaceLaw
    rwa [hcalls]
  · unfold State.RefLaw
    rwa [hcalls, hnext]
  · simpa only [hcalls, hcall, hstate] using hnamed
  · simpa only [hcall, hstate] using hidle
  · simpa only [hcalls, hcall, hstate] using hnames
  · simpa only [hcalls] using hunsw
  · simpa only [hcalls, hholder, hjoin] using hheld
  · simpa only [hholder, hjoin] using hunheld
  · simpa only [hcalls, hholder] using hholds
  · unfold State.CallTimerLaw
    rwa [hcalls]

theorem State.SameCalls.chan {s t : State} (h : s.SameCalls t) (ch : ChanId) : t.chan ch = s.chan ch := by
  obtain ⟨-, -, -, -, h, -⟩ := h
  rw [State.chan, h]
  rfl

theorem State.SameCalls.holder {s t : State} (h : s.SameCalls t) (i : SectionId) : t.holder i = s.holder i := by
  obtain ⟨-, -, -, -, -, h, -⟩ := h
  rw [State.holder, h]
  rfl

theorem State.SameCalls.join {s t : State} (h : s.SameCalls t) (i : SectionId) : t.join i = s.join i := by
  obtain ⟨-, -, -, -, -, -, h⟩ := h
  rw [State.join, h]
  rfl

theorem State.CallsOk.same {s t : State} (h : s.CallsOk) (hs : s.SameCalls t) : t.CallsOk :=
  h.congr hs.1 hs.2.1 hs.2.2.1 (fun ch => by simp [hs.chan]) hs.holder hs.join

/-- Where the live calls are as they were, or fewer, and no section has fallen asleep, the law of sleeping sections is kept. -/
theorem State.SleepLaw.shed {s t : State} (h : s.SleepLaw) (hcalls : ∀ c ∈ t.calls, c ∈ s.calls)
    (hp : ∀ i, (s.sec i).power.Rises (t.sec i).power) : t.SleepLaw := by
  rw [State.sleepLaw_iff] at *
  exact fun c hc => ⟨(hp _).ne_off (h c (hcalls c hc)).1, fun hst => (hp _).awake ((h c (hcalls c hc)).2 hst)⟩

theorem State.Switched.same {s t : State} (h : s.Switched) (hs : s.SameCalls t) (hp : ∀ i, (s.sec i).power.Rises (t.sec i).power) :
    t.Switched := ⟨h.toCallsOk.same hs, h.sleep.shed (fun _ hc => hs.1 ▸ hc) hp⟩

theorem State.Switched.stays {s t : State} (h : s.Switched) (hs : s.SameCalls t) (hp : s.Stays t) : t.Switched := h.same hs hp.power

theorem State.Switched.noCall {i : SectionId} {s t : State} (h : s.Switched) (hs : s.NoCall i t) (hp : s.Stays t) : t.Switched :=
  h.stays hs.calls hp

/-! ## Facts of one call -/

theorem CallState.channelState_busy {st : CallState} {x : ChannelState} (h : st.channelState = some x) : x.busy = true := by
  cases st <;> cases h <;> rfl

/-- A channel that is not busy names no call (R155). -/
theorem State.CallsOk.call_none {s : State} (h : s.CallsOk) {ch : ChanId} (hb : (s.chan ch).state.busy = false) :
    (s.chan ch).call = none := by
  by_contra hn
  obtain ⟨r, hr⟩ := Option.ne_none_iff_exists'.1 hn
  obtain ⟨c, -, -, -, hst⟩ := h.named ch r hr
  rw [CallState.channelState_busy hst] at hb
  cases hb

/-- A call in QUEUED, PARKED or ABANDONED has no channel (R155). -/
theorem State.CallsOk.channel_none {s : State} (h : s.CallsOk) {c : Call} (hc : c ∈ s.calls) (hst : c.state.channelState = none) :
    c.channel = none := by
  by_contra hn
  obtain ⟨ch, hch⟩ := Option.ne_none_iff_exists'.1 hn
  obtain ⟨-, h2⟩ := h.names c hc ch hch
  rw [hst] at h2
  cases h2

/-- An ABANDONED call holds no path (R159). -/
theorem State.CallsOk.not_held {s : State} (h : s.CallsOk) {c : Call} (hc : c ∈ s.calls) (hst : c.state = .abandoned) :
    s.holder c.sec ≠ some c.ref := by
  intro hh
  obtain ⟨d, hd, hr, -, hne, -⟩ := h.held c.sec c.ref hh
  exact hne (h.refs.unique hd hc hr ▸ hst)

theorem State.Switched.awake {s : State} (h : s.Switched) {c : Call} (hc : c ∈ s.calls) (hst : c.state ≠ .abandoned) :
    (s.sec c.sec).power.Awake := (s.sleepLaw_iff.1 h.sleep c hc).2 hst

/-! ## One call moves -/

/-- The call `c` of the table goes to `c'`: what it leaves of channels, paths and joins, and what it takes. -/
structure State.Moves (s t : State) (c c' : Call) : Prop where
  ref : c'.ref = c.ref
  sec : c'.sec = c.sec
  addr : c'.addr = c.addr
  calls : t.calls = s.calls.map (fun x => if x.ref == c.ref then c' else x)
  history : t.history = s.history
  next : t.nextRef = s.nextRef
  taken : ∀ ch, c'.channel = some ch →
    (c.channel = some ch ∨ (s.chan ch).call = none) ∧ (t.chan ch).call = some c.ref ∧ c'.state.channelState = some (t.chan ch).state
  left : ∀ ch, c.channel = some ch → c'.channel ≠ some ch → (t.chan ch).call = none ∧ (t.chan ch).state.busy = false
  chans : ∀ ch, c.channel ≠ some ch → c'.channel ≠ some ch →
    (t.chan ch).call = (s.chan ch).call ∧ (t.chan ch).state = (s.chan ch).state
  unswitched : c'.channel = none → c'.state.channelState = none
  paths : ∀ j, j ≠ c.sec → t.holder j = s.holder j ∧ t.join j = s.join j
  path :
    ((s.holder c.sec = none ∨ s.holder c.sec = some c.ref) ∧
      (t.holder c.sec = some c.ref ∧ t.join c.sec = c'.joinOf ∧ c'.state ≠ .abandoned ∨
       t.holder c.sec = none ∧ t.join c.sec = .nothing ∧ c'.state.holds = false)) ∨
    (s.holder c.sec ≠ some c.ref ∧ t.holder c.sec = s.holder c.sec ∧ t.join c.sec = s.join c.sec ∧ c'.state.holds = false)
  offerTimer : c'.offerTimer.isSome = true ↔ c'.state = .offered
  ringTimer : c'.ringTimer.isSome = true ↔ c'.state = .ringing

theorem State.Moves.mem {s t : State} {c c' d : Call} (h : s.Moves t c c') (hc : c ∈ s.calls) :
    d ∈ t.calls ↔ d = c' ∨ d ∈ s.calls ∧ d.ref ≠ c.ref := by
  rw [h.calls, List.mem_map]
  constructor
  · rintro ⟨x, hx, rfl⟩
    by_cases hr : x.ref = c.ref
    · exact Or.inl (by simp [hr])
    · exact Or.inr (by simp [hr, hx])
  · rintro (rfl | ⟨hd, hr⟩)
    · exact ⟨c, hc, by simp⟩
    · exact ⟨d, hd, by simp [hr]⟩

theorem State.CallsOk.moved {s t : State} {c c' : Call} (h : s.CallsOk) (hc : c ∈ s.calls) (hm : s.Moves t c c') : t.CallsOk := by
  have hmem : ∀ d, d ∈ t.calls ↔ d = c' ∨ d ∈ s.calls ∧ d.ref ≠ c.ref := fun d => hm.mem hc
  have hother : ∀ d ∈ s.calls, ∀ ch, d.ref ≠ c.ref → d.channel = some ch → c.channel ≠ some ch ∧ c'.channel ≠ some ch := by
    intro d hd ch hr hch
    obtain ⟨hcall, -⟩ := h.names d hd ch hch
    have hc1 : c.channel ≠ some ch := fun e => hr (Option.some.inj (hcall.symm.trans (h.names c hc ch e).1))
    refine ⟨hc1, fun e => ?_⟩
    obtain ⟨hfrom | hfrom, -⟩ := hm.taken ch e
    · exact hc1 hfrom
    · rw [hfrom] at hcall
      cases hcall
  refine ⟨?_, ?_, ?_, fun ch r hr => ?_, fun ch hn => ?_, fun d hd ch hch => ?_, fun d hd hch => ?_, fun i r hr => ?_, fun i hn => ?_,
    fun d hd hst => ?_, fun d hd => ?_⟩
  · unfold State.TableLaw
    rw [hm.calls, hm.history, List.length_map]
    exact h.size
  · unfold State.PlaceLaw
    rw [hm.calls, List.pairwise_map]
    refine h.place.imp_of_mem (fun {x y} hx hy hxy => ?_)
    have hsame : ∀ x ∈ s.calls, (if (x.ref == c.ref) = true then c' else x).sec = x.sec ∧
        (if (x.ref == c.ref) = true then c' else x).addr = x.addr := by
      intro x hx
      split
      · next hr =>
        obtain rfl := h.refs.unique hx hc (by simpa using hr)
        exact ⟨hm.sec, hm.addr⟩
      · exact ⟨rfl, rfl⟩
    rwa [(hsame x hx).1, (hsame x hx).2, (hsame y hy).1, (hsame y hy).2]
  · have hsame : ∀ x : Call, (if (x.ref == c.ref) = true then c' else x).ref = x.ref := by
      intro x
      split
      · next hr => rw [hm.ref]; exact (by simpa using hr : x.ref = c.ref).symm
      · rfl
    obtain ⟨hpair, h1, h2, hrange⟩ := h.refs
    refine ⟨?_, by rw [hm.next]; exact h1, by rw [hm.next]; exact h2, fun d hd => ?_⟩
    · rw [hm.calls, List.pairwise_map]
      exact hpair.imp (fun {x y} hxy => by rwa [hsame, hsame])
    · rcases (hmem d).1 hd with rfl | ⟨hd, -⟩
      · exact hm.ref ▸ hrange c hc
      · exact hrange d hd
  · by_cases hnew : c'.channel = some ch
    · obtain ⟨-, hcall, hst⟩ := hm.taken ch hnew
      exact ⟨c', (hmem c').2 (Or.inl rfl), hm.ref.trans (Option.some.inj (hcall.symm.trans hr)), hnew, hst⟩
    · by_cases hold : c.channel = some ch
      · rw [(hm.left ch hold hnew).1] at hr
        cases hr
      · obtain ⟨hcall, hst⟩ := hm.chans ch hold hnew
        obtain ⟨d, hd, hdr, hdch, hdst⟩ := h.named ch r (hcall ▸ hr)
        refine ⟨d, (hmem d).2 (Or.inr ⟨hd, fun e => hold ?_⟩), hdr, hdch, hst ▸ hdst⟩
        exact h.refs.unique hd hc e ▸ hdch
  · by_cases hnew : c'.channel = some ch
    · rw [(hm.taken ch hnew).2.1] at hn
      cases hn
    · by_cases hold : c.channel = some ch
      · exact (hm.left ch hold hnew).2
      · obtain ⟨hcall, hst⟩ := hm.chans ch hold hnew
        exact hst ▸ h.idle ch (hcall ▸ hn)
  · rcases (hmem d).1 hd with rfl | ⟨hd, hr⟩
    · obtain ⟨-, hcall, hst⟩ := hm.taken ch hch
      exact ⟨hm.ref ▸ hcall, hst⟩
    · obtain ⟨h1, h2⟩ := hother d hd ch hr hch
      obtain ⟨hcall, hst⟩ := hm.chans ch h1 h2
      rw [hcall, hst]
      exact h.names d hd ch hch
  · rcases (hmem d).1 hd with rfl | ⟨hd, -⟩
    · exact hm.unswitched hch
    · exact h.unswitched d hd hch
  · by_cases hi : i = c.sec
    · subst hi
      rcases hm.path with ⟨-, ⟨hh, hj, hst⟩ | ⟨hh, -⟩⟩ | ⟨hnot, hh, hj, -⟩
      · refine ⟨c', (hmem c').2 (Or.inl rfl), hm.ref.trans (Option.some.inj (hh.symm.trans hr)), hm.sec, hst, hj⟩
      · rw [hh] at hr
        cases hr
      · obtain ⟨d, hd, hdr, hds, hdst, hdj⟩ := h.held c.sec r (hh ▸ hr)
        refine ⟨d, (hmem d).2 (Or.inr ⟨hd, fun e => hnot ?_⟩), hdr, hds, hdst, hj.trans hdj⟩
        rw [← hh, hr, ← hdr, e]
    · obtain ⟨hh, hj⟩ := hm.paths i hi
      obtain ⟨d, hd, hdr, hds, hdst, hdj⟩ := h.held i r (hh ▸ hr)
      refine ⟨d, (hmem d).2 (Or.inr ⟨hd, fun e => hi ?_⟩), hdr, hds, hdst, hj.trans hdj⟩
      rw [← hds, h.refs.unique hd hc e]
  · by_cases hi : i = c.sec
    · subst hi
      rcases hm.path with ⟨-, ⟨hh, -⟩ | ⟨-, hj, -⟩⟩ | ⟨-, hh, hj, -⟩
      · rw [hh] at hn
        cases hn
      · exact hj
      · exact hj.trans (h.unheld _ (hh ▸ hn))
    · obtain ⟨hh, hj⟩ := hm.paths i hi
      exact hj.trans (h.unheld i (hh ▸ hn))
  · rcases (hmem d).1 hd with rfl | ⟨hd, hr⟩
    · rw [hm.sec, hm.ref]
      rcases hm.path with ⟨-, ⟨hh, -⟩ | ⟨-, -, hno⟩⟩ | ⟨-, -, -, hno⟩
      · exact hh
      · rw [hst] at hno
        cases hno
      · rw [hst] at hno
        cases hno
    · have hheld := h.holds d hd hst
      by_cases hi : d.sec = c.sec
      · rw [hi] at hheld ⊢
        rcases hm.path with ⟨hfrom, -⟩ | ⟨-, hh, -⟩
        · rw [hheld] at hfrom
          rcases hfrom with hf | hf
          · cases hf
          · exact absurd (Option.some.inj hf) hr
        · exact hh.trans hheld
      · exact (hm.paths d.sec hi).1.trans hheld
  · rcases (hmem d).1 hd with rfl | ⟨hd, -⟩
    · exact ⟨hm.offerTimer, hm.ringTimer⟩
    · exact h.timed d hd

/-- A call that moves to a state other than ABANDONED needs a section that is awake (R82). -/
theorem State.Switched.moved {s t : State} {c c' : Call} (h : s.Switched) (hc : c ∈ s.calls) (hm : s.Moves t c c')
    (hp : ∀ i, (s.sec i).power.Rises (t.sec i).power) (hawake : c'.state ≠ .abandoned → (t.sec c.sec).power.Awake) : t.Switched := by
  refine ⟨h.toCallsOk.moved hc hm, ?_⟩
  have hsleep := s.sleepLaw_iff.1 h.sleep
  rw [State.sleepLaw_iff]
  intro d hd
  rcases (hm.mem hc).1 hd with rfl | ⟨hd, -⟩
  · rw [hm.sec]
    exact ⟨(hp _).ne_off (hsleep c hc).1, hawake⟩
  · exact ⟨(hp _).ne_off (hsleep d hd).1, fun hst => (hp _).awake ((hsleep d hd).2 hst)⟩

/-! ## One call leaves -/

/-- The call `c` has left the table, and its channel and its path with it. -/
structure State.Leaves (s t : State) (c : Call) : Prop where
  calls : t.calls = s.calls.filter (fun x => x.ref != c.ref)
  history : t.history.length ≤ Config.historyDepth
  next : t.nextRef = s.nextRef
  left : ∀ ch, c.channel = some ch → (t.chan ch).call = none ∧ (t.chan ch).state.busy = false
  chans : ∀ ch, c.channel ≠ some ch → (t.chan ch).call = (s.chan ch).call ∧ (t.chan ch).state = (s.chan ch).state
  paths : ∀ j, s.holder j ≠ some c.ref ∨ j ≠ c.sec → t.holder j = s.holder j ∧ t.join j = s.join j
  path : s.holder c.sec = some c.ref → t.holder c.sec = none ∧ t.join c.sec = .nothing

theorem State.Leaves.mem {s t : State} {c d : Call} (h : s.Leaves t c) : d ∈ t.calls ↔ d ∈ s.calls ∧ d.ref ≠ c.ref := by
  rw [h.calls, List.mem_filter, bne_iff_ne]

theorem State.CallsOk.left {s t : State} {c : Call} (h : s.CallsOk) (hc : c ∈ s.calls) (hl : s.Leaves t c) : t.CallsOk := by
  have hmem : ∀ d, d ∈ t.calls ↔ d ∈ s.calls ∧ d.ref ≠ c.ref := fun d => hl.mem
  refine ⟨⟨?_, hl.history⟩, ?_, ?_, fun ch r hr => ?_, fun ch hn => ?_, fun d hd ch hch => ?_,
    fun d hd hch => h.unswitched d ((hmem d).1 hd).1 hch, fun i r hr => ?_, fun i hn => ?_, fun d hd hst => ?_,
    fun d hd => h.timed d ((hmem d).1 hd).1⟩
  · rw [hl.calls]
    exact (List.length_filter_le _ _).trans h.size.1
  · unfold State.PlaceLaw
    rw [hl.calls]
    exact h.place.filter _
  · obtain ⟨hpair, h1, h2, hrange⟩ := h.refs
    refine ⟨?_, by rw [hl.next]; exact h1, by rw [hl.next]; exact h2, fun d hd => hrange d ((hmem d).1 hd).1⟩
    rw [hl.calls]
    exact hpair.filter _
  · by_cases hch : c.channel = some ch
    · rw [(hl.left ch hch).1] at hr
      cases hr
    · obtain ⟨hcall, hst⟩ := hl.chans ch hch
      obtain ⟨d, hd, hdr, hdch, hdst⟩ := h.named ch r (hcall ▸ hr)
      refine ⟨d, (hmem d).2 ⟨hd, fun e => hch ?_⟩, hdr, hdch, hst ▸ hdst⟩
      exact h.refs.unique hd hc e ▸ hdch
  · by_cases hch : c.channel = some ch
    · exact (hl.left ch hch).2
    · obtain ⟨hcall, hst⟩ := hl.chans ch hch
      exact hst ▸ h.idle ch (hcall ▸ hn)
  · obtain ⟨hd, hr⟩ := (hmem d).1 hd
    have hnot : c.channel ≠ some ch := fun e =>
      hr (Option.some.inj ((h.names d hd ch hch).1.symm.trans (h.names c hc ch e).1))
    obtain ⟨hcall, hst⟩ := hl.chans ch hnot
    rw [hcall, hst]
    exact h.names d hd ch hch
  · have hkept : s.holder i ≠ some c.ref ∨ i ≠ c.sec := by
      by_contra hno
      simp only [not_or, not_not] at hno
      obtain ⟨hh, rfl⟩ := hno
      rw [(hl.path hh).1] at hr
      cases hr
    obtain ⟨hh, hj⟩ := hl.paths i hkept
    obtain ⟨d, hd, hdr, hds, hdst, hdj⟩ := h.held i r (hh ▸ hr)
    refine ⟨d, (hmem d).2 ⟨hd, fun e => ?_⟩, hdr, hds, hdst, hj.trans hdj⟩
    rcases hkept with hk | hk
    · exact hk (by rw [← hh, hr, ← hdr, e])
    · exact hk (by rw [← hds, h.refs.unique hd hc e])
  · by_cases hk : s.holder i ≠ some c.ref ∨ i ≠ c.sec
    · obtain ⟨hh, hj⟩ := hl.paths i hk
      exact hj.trans (h.unheld i (hh ▸ hn))
    · simp only [not_or, not_not] at hk
      obtain ⟨hh, rfl⟩ := hk
      exact (hl.path hh).2
  · obtain ⟨hd, hr⟩ := (hmem d).1 hd
    have hheld := h.holds d hd hst
    have hk : s.holder d.sec ≠ some c.ref := by
      rw [hheld]
      exact fun e => hr (Option.some.inj e)
    exact (hl.paths d.sec (Or.inl hk)).1.trans hheld

theorem State.Switched.left {s t : State} {c : Call} (h : s.Switched) (hc : c ∈ s.calls) (hl : s.Leaves t c)
    (hp : ∀ i, (s.sec i).power.Rises (t.sec i).power) : t.Switched :=
  ⟨h.toCallsOk.left hc hl, h.sleep.shed (fun _ hd => (hl.mem.1 hd).1) hp⟩

/-! ## One call joins -/

/-- A new QUEUED call with a reference of its own, at a place where no live call stands, joins a table with room (R134, R135). -/
theorem State.CallsOk.joined {s t : State} {c : Call} (h : s.CallsOk) (hroom : s.calls.length < Config.callDepth)
    (hcalls : t.calls = s.calls ++ [c]) (hhist : t.history = s.history) (hnext : 1 ≤ t.nextRef ∧ t.nextRef ≤ Config.refMax)
    (hchan : t.channels = s.channels) (hholder : t.holders = s.holders) (hjoin : t.joins = s.joins)
    (href : 1 ≤ c.ref ∧ c.ref ≤ Config.refMax ∧ ∀ d ∈ s.calls, d.ref ≠ c.ref) (hplace : ∀ d ∈ s.calls, ¬(d.sec = c.sec ∧ d.addr = c.addr))
    (hst : c.state = .queued) (hch : c.channel = none) (ho : c.offerTimer = none) (hr : c.ringTimer = none) : t.CallsOk := by
  have hmem : ∀ d, d ∈ t.calls ↔ d ∈ s.calls ∨ d = c := fun d => by rw [hcalls, List.mem_append, List.mem_singleton]
  have hkeep : ∀ d, d ∈ s.calls → d ∈ t.calls := fun d hd => (hmem d).2 (Or.inl hd)
  have hc : ∀ ch, t.chan ch = s.chan ch := fun ch => by rw [State.chan, hchan]; rfl
  have hh : ∀ i, t.holder i = s.holder i := fun i => by rw [State.holder, hholder]; rfl
  have hj : ∀ i, t.join i = s.join i := fun i => by rw [State.join, hjoin]; rfl
  obtain ⟨hlow, hhigh, hfresh⟩ := href
  refine ⟨⟨?_, hhist ▸ h.size.2⟩, ?_, ?_, fun ch r hcall => ?_, fun ch hn => ?_, fun d hd ch hdch => ?_, fun d hd hdch => ?_,
    fun i r hi => ?_, fun i hi => ?_, fun d hd hdst => ?_, fun d hd => ?_⟩
  · rw [hcalls, List.length_append, List.length_singleton]
    exact hroom
  · unfold State.PlaceLaw
    rw [hcalls, List.pairwise_append]
    exact ⟨h.place, List.pairwise_singleton _ _, fun d hd e he => List.mem_singleton.1 he ▸ hplace d hd⟩
  · obtain ⟨hpair, -, -, hrange⟩ := h.refs
    refine ⟨?_, hnext.1, hnext.2, fun d hd => ?_⟩
    · rw [hcalls, List.pairwise_append]
      exact ⟨hpair, List.pairwise_singleton _ _, fun d hd e he => List.mem_singleton.1 he ▸ hfresh d hd⟩
    · rcases (hmem d).1 hd with hd | rfl
      · exact hrange d hd
      · exact ⟨hlow, hhigh⟩
  · rw [hc] at hcall ⊢
    obtain ⟨d, hd, hrest⟩ := h.named ch r hcall
    exact ⟨d, hkeep d hd, hrest⟩
  · rw [hc] at hn ⊢
    exact h.idle ch hn
  · rw [hc]
    rcases (hmem d).1 hd with hd | rfl
    · exact h.names d hd ch hdch
    · rw [hch] at hdch
      cases hdch
  · rcases (hmem d).1 hd with hd | rfl
    · exact h.unswitched d hd hdch
    · rw [hst]
      rfl
  · rw [hh] at hi
    obtain ⟨d, hd, hrest⟩ := h.held i r hi
    exact ⟨d, hkeep d hd, hj i ▸ hrest⟩
  · rw [hh] at hi
    rw [hj]
    exact h.unheld i hi
  · rcases (hmem d).1 hd with hd | rfl
    · rw [hh]
      exact h.holds d hd hdst
    · rw [hst] at hdst
      cases hdst
  · rcases (hmem d).1 hd with hd | rfl
    · exact h.timed d hd
    · rw [hst, ho, hr]
      exact ⟨⟨nofun, nofun⟩, ⟨nofun, nofun⟩⟩

end Sys2Proof.Machine
end

section
/-! SUPPORT. The call manager's operations keep the laws of calls (O22): each is one call that moves, leaves or joins, and the notice it
gives its section. -/

-- One theorem after another: elaborated side by side, they ask for more thread stacks than the check has memory for.
set_option Elab.async false

namespace Sys2Proof.Machine

/-! ## References -/

theorem refAfter_range (r : Nat) : 1 ≤ refAfter r ∧ refAfter r ≤ Config.refMax := by
  unfold refAfter
  split
  · exact ⟨le_refl _, by decide⟩
  · omega

theorem refAfter_iterate (r : Nat) (h : 1 ≤ r ∧ r ≤ Config.refMax) (k : Nat) :
    refAfter^[k] r = (r - 1 + k) % Config.refMax + 1 := by
  have hmax : Config.refMax = 65535 := rfl
  induction k with
  | zero => rw [Function.iterate_zero, id, Nat.add_zero, Nat.mod_eq_of_lt (by omega)]; omega
  | succ k ih =>
    rw [Function.iterate_succ_apply', ih, refAfter, hmax]
    split <;> omega

/-- A search for a free reference either finds one, or has met a live call at every candidate. -/
theorem freeRef_spec (calls : List Call) (n r : Nat) :
    ((∀ c ∈ calls, c.ref ≠ freeRef calls n r) ∨ ∀ k < n, ∃ c ∈ calls, c.ref = refAfter^[k] r) ∧
      ∃ k, freeRef calls n r = refAfter^[k] r := by
  induction n generalizing r with
  | zero => exact ⟨Or.inr (fun k hk => absurd hk (Nat.not_lt_zero k)), 0, rfl⟩
  | succ n ih =>
    unfold freeRef
    split
    · next hany =>
      obtain ⟨hfound, k, hk⟩ := ih (refAfter r)
      refine ⟨hfound.imp_right (fun hall j hj => ?_), k + 1, hk⟩
      cases j with
      | zero => simpa using hany
      | succ j => exact hall j (Nat.lt_of_succ_lt_succ hj)
    · next hany =>
      refine ⟨Or.inl (fun c hc he => hany ?_), 0, rfl⟩
      rw [List.any_eq_true]
      exact ⟨c, hc, by simpa using he⟩

/-- With at most 32 live calls a free reference is found (R149): the candidates are distinct, and one more than the calls. -/
theorem State.RefLaw.newRef_spec {s : State} (h : s.RefLaw) (hsize : s.calls.length ≤ Config.callDepth) :
    (∀ c ∈ s.calls, c.ref ≠ s.newRef) ∧ 1 ≤ s.newRef ∧ s.newRef ≤ Config.refMax := by
  have hmax : Config.refMax = 65535 := rfl
  obtain ⟨-, hlow, hhigh, -⟩ := h
  obtain ⟨hfound, k, hk⟩ := freeRef_spec s.calls (s.calls.length + 1) s.nextRef
  have hrange : 1 ≤ s.newRef ∧ s.newRef ≤ Config.refMax := by
    rw [State.newRef, hk, refAfter_iterate _ ⟨hlow, hhigh⟩, hmax]
    omega
  refine ⟨hfound.resolve_right (fun hall => ?_), hrange⟩
  have hsize : s.calls.length ≤ 32 := hsize
  have hnodup : ((List.range (s.calls.length + 1)).map (fun k => refAfter^[k] s.nextRef)).Nodup := by
    rw [List.nodup_map_iff_inj_on List.nodup_range]
    intro a ha b hb hab
    rw [List.mem_range] at ha hb
    rw [refAfter_iterate _ ⟨hlow, hhigh⟩, refAfter_iterate _ ⟨hlow, hhigh⟩, hmax] at hab
    omega
  have hsub : (List.range (s.calls.length + 1)).map (fun k => refAfter^[k] s.nextRef) ⊆ s.calls.map Call.ref := by
    intro x hx
    obtain ⟨k, hk, rfl⟩ := List.mem_map.1 hx
    obtain ⟨c, hc, he⟩ := hall k (List.mem_range.1 hk)
    exact List.mem_map.2 ⟨c, hc, he⟩
  have hlen := (hnodup.subperm hsub).length_le
  simp only [List.length_map, List.length_range] at hlen
  omega

theorem State.newRef_spec {s : State} (h : s.CallsOk) :
    (∀ c ∈ s.calls, c.ref ≠ s.newRef) ∧ 1 ≤ s.newRef ∧ s.newRef ≤ Config.refMax :=
  h.refs.newRef_spec h.size.1

/-! ## Channels and paths given up -/

theorem Channel.released_idle (x : Channel) : x.released.call = none ∧ x.released.state.busy = false := by
  unfold Channel.released
  dsimp only
  split <;> exact ⟨rfl, rfl⟩

theorem State.chan_releaseChannel (s : State) (c : Option ChanId) (d : ChanId) :
    (s.releaseChannel c).chan d = if c = some d then (s.chan d).released else s.chan d := by
  unfold State.releaseChannel
  split
  · next ch =>
    by_cases h : ch = d
    · subst h
      split <;> simp
    · split <;> simp [h]
  · rfl

theorem State.holder_releaseChannel (s : State) (c : Option ChanId) (i : SectionId) :
    (s.releaseChannel c).holder i = s.holder i ∧ (s.releaseChannel c).join i = s.join i := by
  unfold State.releaseChannel
  split
  · split <;> exact ⟨rfl, rfl⟩
  · exact ⟨rfl, rfl⟩

theorem State.calls_releaseChannel (s : State) (c : Option ChanId) :
    (s.releaseChannel c).calls = s.calls ∧ (s.releaseChannel c).history = s.history ∧ (s.releaseChannel c).nextRef = s.nextRef ∧
      (s.releaseChannel c).fullEpisode = s.fullEpisode := by
  unfold State.releaseChannel
  split
  · split <;> exact ⟨rfl, rfl, rfl, rfl⟩
  · exact ⟨rfl, rfl, rfl, rfl⟩

theorem State.holder_dropPath (s : State) (i j : SectionId) (r : Nat) :
    (s.dropPath i r).holder j = (if j = i ∧ s.holder i = some r then none else s.holder j) ∧
      (s.dropPath i r).join j = (if j = i ∧ s.holder i = some r then .nothing else s.join j) := by
  unfold State.dropPath
  split
  · next h =>
    by_cases hj : j = i
    · subst hj
      simp [h]
    · simp [Ne.symm hj, hj]
  · next h => simp [h]

theorem State.calls_dropPath (s : State) (i : SectionId) (r : Nat) :
    (s.dropPath i r).calls = s.calls ∧ (s.dropPath i r).history = s.history ∧ (s.dropPath i r).nextRef = s.nextRef ∧
      (s.dropPath i r).fullEpisode = s.fullEpisode ∧ ∀ ch, (s.dropPath i r).chan ch = s.chan ch := by
  unfold State.dropPath
  split <;> exact ⟨rfl, rfl, rfl, rfl, fun _ => rfl⟩

/-! ## The end of a call -/

theorem State.calls_retireCall (s : State) (c : Call) (e : EndCause) :
    (s.retireCall c e).calls = s.calls.filter (fun x => x.ref != c.ref) ∧
      (s.retireCall c e).history = (c.histRec e s.seconds :: s.history).take Config.historyDepth ∧
      (s.retireCall c e).nextRef = s.nextRef ∧ (∀ ch, (s.retireCall c e).chan ch = s.chan ch) ∧
      ∀ i, (s.retireCall c e).holder i = s.holder i ∧ (s.retireCall c e).join i = s.join i := by
  unfold State.retireCall
  exact ⟨by simp, by simp, by simp, fun ch => by simp [State.chan], fun i => by simp [State.holder, State.join]⟩

/-- A state with the calls of one that has retired the call, once it has given up what the call held. -/
theorem State.releaseHeld_leaves {s u : State} {c : Call} {e : EndCause} (h : (s.retireCall c e).SameCalls u) :
    s.Leaves (u.releaseHeld c) c := by
  obtain ⟨hcalls, hhist, hnext, hchan, hpath⟩ := s.calls_retireCall c e
  have hch : ∀ d, (u.releaseHeld c).chan d = if c.channel = some d then (s.chan d).released else s.chan d := fun d => by
    rw [State.releaseHeld, (State.calls_dropPath _ _ _).2.2.2.2, State.chan_releaseChannel, h.chan, hchan]
  have hho : ∀ j, (u.releaseHeld c).holder j = (if j = c.sec ∧ s.holder c.sec = some c.ref then none else s.holder j) ∧
      (u.releaseHeld c).join j = (if j = c.sec ∧ s.holder c.sec = some c.ref then .nothing else s.join j) := fun j => by
    obtain ⟨h1, h2⟩ := State.holder_dropPath (u.releaseChannel c.channel) c.sec j c.ref
    rw [State.releaseHeld, h1, h2]
    simp only [State.holder_releaseChannel, h.holder, h.join, hpath, and_self]
  refine ⟨?_, ?_, ?_, fun ch hc => ?_, fun ch hc => ?_, fun j hj => ?_, fun hh => ?_⟩
  · rw [State.releaseHeld, (State.calls_dropPath _ _ _).1, (State.calls_releaseChannel _ _).1, h.1, hcalls]
  · rw [State.releaseHeld, (State.calls_dropPath _ _ _).2.1, (State.calls_releaseChannel _ _).2.1, h.2.1, hhist]
    exact List.length_take_le _ _
  · rw [State.releaseHeld, (State.calls_dropPath _ _ _).2.2.1, (State.calls_releaseChannel _ _).2.2.1, h.2.2.1, hnext]
  · rw [hch, if_pos hc]
    exact Channel.released_idle _
  · rw [hch, if_neg hc]
    exact ⟨rfl, rfl⟩
  · obtain ⟨h1, h2⟩ := hho j
    have hnot : ¬(j = c.sec ∧ s.holder c.sec = some c.ref) := fun ⟨e1, e2⟩ => hj.elim (fun hne => hne (e1 ▸ e2)) (fun hne => hne e1)
    rw [h1, h2, if_neg hnot, if_neg hnot]
    exact ⟨rfl, rfl⟩
  · obtain ⟨h1, h2⟩ := hho c.sec
    rw [h1, h2, if_pos ⟨rfl, hh⟩, if_pos ⟨rfl, hh⟩]
    exact ⟨rfl, rfl⟩

theorem State.Leaves.same {s t u : State} {c : Call} (h : s.Leaves t c) (hs : t.SameCalls u) : s.Leaves u c := by
  obtain ⟨h1, h2, h3, h4, h5, h6, h7⟩ := h
  refine ⟨hs.1.trans h1, hs.2.1 ▸ h2, hs.2.2.1.trans h3, ?_, ?_, ?_, ?_⟩
  · simpa only [hs.chan] using h4
  · simpa only [hs.chan] using h5
  · simpa only [hs.holder, hs.join] using h6
  · simpa only [hs.holder, hs.join] using h7

theorem State.endCall_leaves (s : State) (c : Call) (e : EndCause) : s.Leaves (s.endCall c e) c := by
  have hoffered := State.offerNotice_calls (s.retireCall c e) c.sec c.addr c.closing c.ref
  have hleft := State.releaseHeld_leaves hoffered
  unfold State.endCall State.freeHeld
  split
  · exact hleft.same (State.arbiter_byLine _ c.sec).calls
  · exact hleft

theorem State.endCallQuietly_leaves (s : State) (c : Call) (e : EndCause) : s.Leaves (s.endCallQuietly c e) c :=
  State.releaseHeld_leaves (State.offerQuietNotice_byLine _ c.sec c.addr c.closing c.ref).calls

theorem State.Switched.endCall {s : State} (h : s.Switched) {c : Call} (hc : c ∈ s.calls) (e : EndCause) : (s.endCall c e).Switched :=
  h.left hc (s.endCall_leaves c e) (s.endCall_stays c e).power

/-! ## A call that moves -/

theorem State.RefLaw.modCall {s : State} (h : s.RefLaw) {c : Call} (hc : c ∈ s.calls) (f : Call → Call) :
    (s.modCall c.ref f).calls = s.calls.map (fun x => if x.ref == c.ref then f c else x) := by
  rw [State.modCall_calls]
  refine List.map_congr_left (fun x hx => ?_)
  split
  · next hr => rw [h.unique hx hc (by simpa using hr)]
  · rfl

theorem State.Moves.same {s t u : State} {c c' : Call} (h : s.Moves t c c') (hs : t.SameCalls u) : s.Moves u c c' := by
  obtain ⟨h1, h2, h3, h4, h5, h6, h7, h8, h9, h10, h11, h12, h13, h14⟩ := h
  refine ⟨h1, h2, h3, hs.1.trans h4, hs.2.1.trans h5, hs.2.2.1.trans h6, ?_, ?_, ?_, h10, ?_, ?_, h13, h14⟩
  · simpa only [hs.chan] using h7
  · simpa only [hs.chan] using h8
  · simpa only [hs.chan] using h9
  · simpa only [hs.holder, hs.join] using h11
  · simpa only [hs.holder, hs.join] using h12

/-- The dispatcher's offer of an eligible call on a FREE channel (R162, R163). -/
theorem State.offer_moves {s : State} (h : s.CallsOk) {c : Call} {ch : ChanId} (hc : c ∈ s.calls) (hst : c.state = .queued)
    (hpath : s.holder c.sec = none ∨ s.holder c.sec = some c.ref) (hch : (s.chan ch).state = .free) :
    s.Moves (s.offer c ch) c
      { c with state := .offered, channel := some ch, offerTimer := some ⟨s.nowMs, 1000 * s.globals.offerTimeout⟩ } := by
  have hnone := h.channel_none hc (by rw [hst]; rfl)
  have hcall := h.call_none (ch := ch) (by rw [hch]; rfl)
  have htimed := (h.timed c hc).2
  rw [hst] at htimed
  refine ⟨rfl, rfl, rfl, ?_, ?_, ?_, fun d hd => ?_, fun d hd => ?_, fun d _ hd => ?_, nofun, fun j hj => ?_, Or.inl ⟨hpath, Or.inl ?_⟩,
    by simp, ?_⟩
  · exact (State.post_calls _ _).trans (h.refs.modCall hc _)
  · simp [State.offer]
  · simp [State.offer]
  · obtain rfl := Option.some.inj hd
    simp [State.offer, hcall, CallState.channelState]
  · rw [hnone] at hd
    cases hd
  · have hne : ch ≠ d := fun e => hd (e ▸ rfl)
    simp [State.offer, hne]
  · simp [State.offer, Ne.symm hj]
  · simp [State.offer, Call.joinOf]
  · simpa using htimed

theorem State.freeChannel_free {s : State} {ch : ChanId} (h : s.freeChannel = some ch) : (s.chan ch).state = .free := by
  simpa using List.find?_some h

theorem State.Switched.offer {s : State} (h : s.Switched) {c : Call} {ch : ChanId} (hc : c ∈ s.calls) (he : s.eligible c = true)
    (hch : (s.chan ch).state = .free) : (s.offer c ch).Switched := by
  simp only [State.eligible, Bool.and_eq_true, Bool.or_eq_true, beq_iff_eq] at he
  obtain ⟨⟨hst, hpath⟩, hactive⟩ := he
  have hsecs : ∀ i, (s.offer c ch).sec i = s.sec i := fun i => by rw [State.sec, (s.offer_offers c ch).secs]; rfl
  exact h.moved hc (State.offer_moves h.toCallsOk hc hst hpath hch) (fun i => hsecs i ▸ .refl _)
    (fun _ => Or.inl (hsecs c.sec ▸ hactive))

theorem State.Switched.dispatch {s : State} (h : s.Switched) (n : Nat) : (State.dispatch n s).Switched := by
  induction n generalizing s with
  | zero => exact h
  | succ n ih =>
    unfold State.dispatch
    split
    · next hch hbest =>
      obtain ⟨hc, he⟩ := State.bestCall_mem hbest
      exact ih (h.offer hc he (State.freeChannel_free hch))
    · exact h

theorem State.Switched.withDue {s : State} (h : s.Switched) (b : Bool) : State.Switched { s with dispatchDue := b } :=
  h.same ⟨rfl, rfl, rfl, rfl, rfl, rfl, rfl⟩ (fun _ => .refl _)

theorem State.Switched.post {s : State} (h : s.Switched) (b : EventBody) : (s.post b).Switched :=
  h.noCall (s.post_byLine 0 b).toNoCall (s.post_stays b)

theorem State.Switched.finish {s : State} (h : s.Switched) : s.finish.Switched := by
  unfold State.finish
  split
  · split
    · exact (h.withDue false).dispatch 4
    · exact h.withDue false
  · exact h

/-- What follows a move of the call: the notice to its section (R75). -/
theorem State.Switched.offerNotice {s : State} (h : s.Switched) (i : SectionId) (a : Addr) {k : TxnKind} (hk : k.isNotice = true)
    (r : Nat) : (s.offerNotice i a k r).Switched :=
  h.stays (s.offerNotice_calls i a k r) (s.offerNotice_stays i a hk r)

/-- A call goes to CONNECTED: it holds the path or nobody does, and the channel is its own or FREE (R166, R167, R169, R173). -/
theorem State.Switched.connect {s : State} (h : s.Switched) {c : Call} {ch : ChanId} (hc : c ∈ s.calls) (hst : c.state ≠ .abandoned)
    (hch : c.channel = some ch ∨ c.channel = none ∧ (s.chan ch).call = none)
    (hpath : s.holder c.sec = none ∨ s.holder c.sec = some c.ref) : (s.connect c ch).Switched := by
  refine State.Switched.offerNotice ?_ c.sec c.addr rfl c.ref
  refine h.moved hc (c' := { c with
    state := .connected, channel := some ch, connectedSince := some s.seconds, offerTimer := none, ringTimer := none })
    ?_ (fun i => ?_) (fun _ => ?_)
  · refine ⟨rfl, rfl, rfl, ?_, ?_, ?_, fun d hd => ?_, fun d hd hd' => ?_, fun d _ hd => ?_, nofun, fun j hj => ?_,
      Or.inl ⟨hpath, Or.inl ?_⟩, by simp, by simp⟩
    · exact (State.post_calls _ _).trans (h.refs.modCall hc _)
    · simp
    · simp
    · obtain rfl := Option.some.inj hd
      exact ⟨hch.imp_right And.right, by simp, by simp [CallState.channelState]⟩
    · rcases hch with hch | ⟨hch, -⟩
      · exact absurd (hch.symm.trans hd) hd'
      · rw [hch] at hd
        cases hd
    · have hne : ch ≠ d := fun e => hd (e ▸ rfl)
      simp [hne]
    · simp [Ne.symm hj]
    · simp [Call.joinOf]
  · simpa using Power.Rises.refl _
  · simpa using h.awake hc hst

/-- A channel given up by the call that it carries. -/
theorem State.releaseChannel_left (s : State) (c : Option ChanId) (ch : ChanId) (h : c = some ch) :
    ((s.releaseChannel c).chan ch).call = none ∧ ((s.releaseChannel c).chan ch).state.busy = false := by
  rw [State.chan_releaseChannel, if_pos h]
  exact Channel.released_idle _

/-- A CONNECTED call parked (R168). -/
theorem State.Switched.parkCall {s : State} (h : s.Switched) {c : Call} {ch : ChanId} (hc : c ∈ s.calls) (hst : c.state = .connected)
    (hch : c.channel = some ch) : (s.parkCall c ch).Switched := by
  have hheld := h.holds c hc (by rw [hst]; rfl)
  have htimed := h.timed c hc
  rw [hst] at htimed
  refine State.Switched.offerNotice ?_ c.sec c.addr rfl c.ref
  refine h.moved hc (c' := { c.closeConnected s.seconds with state := .parked, channel := none }) ?_ (fun i => ?_) (fun _ => ?_)
  · refine ⟨rfl, rfl, rfl, ?_, ?_, ?_, nofun, fun d hd _ => ?_, fun d hd _ => ?_, fun _ => rfl, fun j hj => ?_,
      Or.inl ⟨Or.inr hheld, Or.inl ?_⟩, by simpa [Call.closeConnected] using htimed.1,
      by simpa [Call.closeConnected] using htimed.2⟩
    · have hcalls := h.refs.modCall hc (fun x => { x.closeConnected s.seconds with state := .parked, channel := none })
      exact (State.post_calls _ _).trans ((State.calls_releaseChannel _ _).1.trans hcalls)
    · simp [State.calls_releaseChannel]
    · simp [State.calls_releaseChannel]
    · have hd : ch = d := Option.some.inj (hch.symm.trans hd)
      simpa using State.releaseChannel_left _ (some ch) d (by rw [hd])
    · have hne : ch ≠ d := fun e => hd (e ▸ hch)
      simp [State.chan_releaseChannel, hne]
    · simp [State.holder_releaseChannel, Ne.symm hj]
    · simp [State.holder_releaseChannel, hheld, Call.joinOf]
  · simpa [State.sec, State.releaseChannel_secs] using Power.Rises.refl _
  · simpa [State.sec, State.releaseChannel_secs] using h.awake hc (by simp [hst])

/-- An OFFERED or CONNECTED call requeued (R164). -/
theorem State.Switched.requeue {s : State} (h : s.Switched) {c : Call} (hc : c ∈ s.calls)
    (hst : c.state = .offered ∨ c.state = .connected) (e : RequeueCause) : (s.requeue c e).Switched := by
  have hheld := h.holds c hc (by rcases hst with hst | hst <;> rw [hst] <;> rfl)
  have hring : c.ringTimer.isSome = true ↔ c.state = .ringing := (h.timed c hc).2
  have hnotRinging : c.state ≠ .ringing := by rcases hst with hst | hst <;> simp [hst]
  refine State.Switched.withDue (State.Switched.offerNotice ?_ c.sec c.addr rfl c.ref) true
  refine h.moved hc (c' := { c.closeConnected s.seconds with state := .queued, boost := boostAfter c.boost, channel := none,
                                                               offerTimer := none }) ?_ (fun i => ?_) (fun _ => ?_)
  · refine ⟨rfl, rfl, rfl, ?_, ?_, ?_, nofun, fun d hd _ => ?_, fun d hd _ => ?_, fun _ => rfl, fun j hj => ?_,
      Or.inl ⟨Or.inr hheld, Or.inl ?_⟩, by simp, ?_⟩
    · have hcalls := h.refs.modCall hc (fun x => { x.closeConnected s.seconds with
        state := .queued, boost := boostAfter x.boost, channel := none, offerTimer := none })
      exact (State.post_calls _ _).trans ((State.calls_releaseChannel _ _).1.trans hcalls)
    · simp [State.calls_releaseChannel]
    · simp [State.calls_releaseChannel]
    · simpa using State.releaseChannel_left _ c.channel d hd
    · simp [State.chan_releaseChannel, hd]
    · simp [State.holder_releaseChannel, Ne.symm hj]
    · simp [State.holder_releaseChannel, hheld, Call.joinOf]
    · simpa [Call.closeConnected, hnotRinging] using hring
  · simpa [State.sec, State.releaseChannel_secs] using Power.Rises.refl _
  · simpa [State.sec, State.releaseChannel_secs] using h.awake hc (by rcases hst with hst | hst <;> simp [hst])

/-- An ABANDONED call revived on a section that is awake (R136). -/
theorem State.Switched.revive {s : State} (h : s.Switched) {c : Call} (hc : c ∈ s.calls) (hst : c.state = .abandoned)
    (hawake : (s.sec c.sec).power.Awake) : (s.revive c).Switched := by
  have hnone := h.channel_none hc (by rw [hst]; rfl)
  have htimed := h.timed c hc
  rw [hst] at htimed
  refine State.Switched.withDue (State.Switched.post ?_ _) true
  refine h.moved hc (c' := { c with state := .queued }) ?_ (fun i => .refl _) (fun _ => hawake)
  refine ⟨rfl, rfl, rfl, h.refs.modCall hc _, rfl, rfl, fun d hd => ?_, fun d hd => ?_, fun d _ _ => ⟨rfl, rfl⟩, fun _ => rfl,
    fun j _ => ⟨rfl, rfl⟩, Or.inr ⟨h.not_held hc hst, rfl, rfl, rfl⟩, by simpa using htimed.1, by simpa using htimed.2⟩
  · rw [hnone] at hd
    cases hd
  · rw [hnone] at hd
    cases hd

/-- A call in QUEUED, OFFERED or PARKED is abandoned (R143). -/
theorem State.Switched.abandon {s : State} (h : s.Switched) {c : Call} (hc : c ∈ s.calls)
    (hst : c.state = .queued ∨ c.state = .offered ∨ c.state = .parked) : (s.abandon c).Switched := by
  have hring : c.ringTimer.isSome = true ↔ c.state = .ringing := (h.timed c hc).2
  have hnotRinging : c.state ≠ .ringing := by rcases hst with hst | hst | hst <;> simp [hst]
  have htold : State.Switched (State.post (.callAbandoned c.ref c.post c.sec c.addr c.state)
      (State.dropPath c.sec c.ref (State.releaseChannel c.channel
        (s.modCall c.ref (fun x => { x with state := .abandoned, channel := none, offerTimer := none }))))) := by
    refine State.Switched.post ?_ _
    refine h.moved hc (c' := { c with state := .abandoned, channel := none, offerTimer := none }) ?_ (fun i => ?_) (fun hno => absurd rfl hno)
    · have hpaths := fun j => State.holder_dropPath (State.releaseChannel c.channel
        (s.modCall c.ref (fun x => { x with state := .abandoned, channel := none, offerTimer := none }))) c.sec j c.ref
      simp only [State.holder_releaseChannel] at hpaths
      refine ⟨rfl, rfl, rfl, ?_, ?_, ?_, nofun, fun d hd _ => ?_, fun d hd _ => ?_, fun _ => rfl, fun j hj => ?_, ?_, by simp, ?_⟩
      · exact ((State.calls_dropPath _ _ _).1.trans (State.calls_releaseChannel _ _).1).trans (h.refs.modCall hc _)
      · simp [State.calls_dropPath, State.calls_releaseChannel]
      · simp [State.calls_dropPath, State.calls_releaseChannel]
      · rw [(State.calls_dropPath _ _ _).2.2.2.2]
        exact State.releaseChannel_left _ c.channel d hd
      · rw [(State.calls_dropPath _ _ _).2.2.2.2, State.chan_releaseChannel, if_neg hd]
        exact ⟨rfl, rfl⟩
      · rw [(hpaths j).1, (hpaths j).2]
        simp [hj]
      · rw [(hpaths c.sec).1, (hpaths c.sec).2]
        by_cases hh : s.holder c.sec = some c.ref
        · exact Or.inl ⟨Or.inr hh, Or.inr (by simp [hh, CallState.holds])⟩
        · exact Or.inr (by simp [hh, CallState.holds])
      · simpa [hnotRinging] using hring
    · simpa [State.sec, State.dropPath_secs, State.releaseChannel_secs] using Power.Rises.refl _
  have hnotified := htold.offerNotice c.sec c.addr (k := .clear) rfl c.ref
  unfold State.abandon
  dsimp only
  split
  · exact hnotified.noCall (State.arbiter_byLine _ c.sec).toNoCall (State.arbiter_stays _ c.sec)
  · exact hnotified

end Sys2Proof.Machine
end

section
/-! SUPPORT. The laws of calls through rings, alerts, the records of posts and the outcomes of transactions (O22). -/

-- One theorem after another: elaborated side by side, they ask for more thread stacks than the check has memory for.
set_option Elab.async false

namespace Sys2Proof.Machine

/-! ## Changes that touch no call -/

theorem State.SameCalls.refl (s : State) : s.SameCalls s := ⟨rfl, rfl, rfl, rfl, rfl, rfl, rfl⟩

theorem State.Switched.setSec {s : State} (h : s.Switched) (i : SectionId) {x : SectionCtl} (hx : (s.sec i).power.Rises x.power) :
    (s.setSec i x).Switched := by
  refine h.same ⟨rfl, rfl, rfl, rfl, rfl, rfl, rfl⟩ (fun j => ?_)
  rw [State.sec_setSec]
  split
  · next hj => exact hj ▸ hx
  · exact .refl _

theorem State.Switched.modSec {s : State} (h : s.Switched) (i : SectionId) (f : SectionCtl → SectionCtl)
    (hf : (f (s.sec i)).power = (s.sec i).power := by rfl) : (s.modSec i f).Switched := h.setSec i (Or.inl hf)

theorem State.Switched.modLine {s : State} (h : s.Switched) (i : SectionId) (f : SectionCtl → SectionCtl)
    (hf : (f (s.sec i)).power = (s.sec i).power := by rfl) : (s.modLine i f).Switched := h.setSec i (Or.inl hf)

theorem State.Switched.reach {s : State} (h : s.Switched) (n : Nat) : (s.reach n).Switched :=
  h.same (.refl s) (fun _ => .refl _)

theorem State.Switched.setLtu {s : State} (h : s.Switched) (i : SectionId) (x : LtuSection) : (s.setLtu i x).Switched :=
  h.same (.refl s) (fun _ => .refl _)

theorem State.Switched.arbiter {s : State} (h : s.Switched) (i : SectionId) : (s.arbiter i).Switched :=
  h.noCall (s.arbiter_byLine i).toNoCall (s.arbiter_stays i)

theorem State.Switched.workArrived {s : State} (h : s.Switched) (i : SectionId) : (s.workArrived i).Switched :=
  h.noCall (s.workArrived_byLine i).toNoCall (s.workArrived_stays i)

theorem State.Switched.enterIdle {s : State} (h : s.Switched) (i : SectionId) : (s.enterIdle i).Switched :=
  h.noCall (s.enterIdle_noCall i) (s.enterIdle_stays i)

theorem State.Switched.arrive {s : State} (h : s.Switched) (i : SectionId) (w : WakeReason) : (s.arrive i w).Switched :=
  h.stays (s.arrive_calls i w) (s.arrive_stays i w)

theorem State.Switched.clearFlight {s : State} (h : s.Switched) (i : SectionId) : (s.clearFlight i).Switched := h.modLine i _

theorem State.Switched.burstEnded {s : State} (h : s.Switched) (i : SectionId) : (s.burstEnded i).Switched := h.modSec i _

theorem State.Switched.applyPending {s : State} (h : s.Switched) (i : SectionId) : (s.applyPending i).Switched :=
  h.noCall (s.applyPending_noCall i) (s.applyPending_stays i)

/-! ## Rings and new calls -/

/-- A section that is not OFF is awake once it has been given a call notice (R75, R89). -/
theorem State.offerNotice_awake (s : State) (i : SectionId) (a : Addr) {k : TxnKind} (hk : k.isNotice = true) (r : Nat)
    (h : (s.sec i).power ≠ .off) : ((s.offerNotice i a k r).sec i).power.Awake := by
  have harrived : ((s.arrive i .call).sec i).power.Awake := by
    unfold State.arrive
    split
    · next hp =>
      refine Or.inr ⟨.powerUp, ?_⟩
      rw [State.startWake, State.sec_modLine, if_pos rfl]
      rfl
    · next w hp => exact Or.inr ⟨w, by simp [hp]⟩
    · exact Or.inl (s.toActive_active i)
    · next hp => exact absurd hp h
    · next hp => exact Or.inl hp
  have hqueued : s.offerNotice i a k r = ((s.arrive i .call).modQueue i (joinNotice (.fresh k a (.call r)))).workArrived i := by
    unfold State.offerNotice
    split
    · next hp => exact absurd hp h
    all_goals rfl
  rw [hqueued]
  exact ((((s.arrive i .call).joinNotice_stays i a hk r).trans (State.workArrived_stays _ i)).power i).awake harrived

/-- A call in QUEUED or ABANDONED rings on a FREE channel (R172). -/
theorem State.ring_moves {s : State} (h : s.CallsOk) {c : Call} {ch : ChanId} (hc : c ∈ s.calls)
    (hst : c.state = .queued ∨ c.state = .abandoned) (hch : (s.chan ch).state = .free) (hpath : s.holder c.sec = none) :
    s.Moves (s.ring c ch) c { c with
      direction := .outbound, state := .ringing, channel := some ch, ringTimer := some ⟨s.nowMs, 1000 * s.globals.ringTimeout⟩ } := by
  have hnone := h.channel_none hc (by rcases hst with hst | hst <;> rw [hst] <;> rfl)
  have hcall := h.call_none (ch := ch) (by rw [hch]; rfl)
  have hoffer : c.offerTimer.isSome = true ↔ c.state = .offered := (h.timed c hc).1
  have hnotOffered : c.state ≠ .offered := by rcases hst with hst | hst <;> simp [hst]
  refine State.Moves.same ?_ (State.offerNotice_calls _ c.sec c.addr .ring c.ref)
  refine ⟨rfl, rfl, rfl, h.refs.modCall hc _, rfl, rfl, fun d hd => ?_, fun d hd => ?_, fun d _ hd => ?_, nofun, fun j hj => ?_,
    Or.inl ⟨Or.inl hpath, Or.inl ?_⟩, by simpa [hnotOffered] using hoffer, by simp⟩
  · obtain rfl := Option.some.inj hd
    exact ⟨Or.inr hcall, by simp, by simp [CallState.channelState]⟩
  · rw [hnone] at hd
    cases hd
  · have hne : ch ≠ d := fun e => hd (e ▸ rfl)
    simp [hne]
  · simp [Ne.symm hj]
  · simp [Call.joinOf]

theorem State.Switched.ring {s : State} (h : s.Switched) {c : Call} {ch : ChanId} (hc : c ∈ s.calls)
    (hst : c.state = .queued ∨ c.state = .abandoned) (hch : (s.chan ch).state = .free) (hpath : s.holder c.sec = none) :
    (s.ring c ch).Switched := by
  refine h.moved hc (State.ring_moves h.toCallsOk hc hst hch hpath) (s.ring_stays c ch).power (fun _ => ?_)
  exact State.offerNotice_awake _ c.sec c.addr rfl c.ref (by simpa using (s.sleepLaw_iff.1 h.sleep c hc).1)

theorem State.callAt_none {s : State} {i : SectionId} {a : Addr} (h : s.callAt i a = none) : ∀ d ∈ s.calls, ¬(d.sec = i ∧ d.addr = a) := by
  intro d hd hplace
  have := List.find?_eq_none.1 h d hd
  simp [hplace] at this

/-- A new QUEUED call at a place where no call stands (R134, R135, R149). -/
theorem State.CallsOk.addCall {s : State} (h : s.CallsOk) (hroom : s.calls.length < Config.callDepth) {i : SectionId} {a : Addr}
    (hfree : s.callAt i a = none) (dir : CallDirection) (o : CallOrigin) :
    (s.addCall (s.newCall dir o i a .queued)).CallsOk := by
  obtain ⟨hfresh, hlow, hhigh⟩ := State.newRef_spec h
  have hafter := refAfter_range s.newRef
  unfold State.addCall
  exact h.joined hroom (c := s.newCall dir o i a .queued) (by simp) (by simp) (by simpa [State.newCall] using hafter) (by simp)
    (by simp) (by simp) ⟨hlow, hhigh, hfresh⟩ (State.callAt_none hfree) rfl rfl rfl rfl

theorem State.Switched.createFromAlert {s : State} (h : s.Switched) (hroom : s.calls.length < Config.callDepth) {i : SectionId}
    {a : Addr} (hfree : s.callAt i a = none) (hawake : (s.sec i).power.Awake) (o : CallOrigin) :
    (s.createFromAlert o i a).1.Switched := by
  refine State.Switched.withDue ⟨h.toCallsOk.addCall hroom hfree .inbound o, ?_⟩ true
  have hcalls : (s.addCall (s.newCall .inbound o i a .queued)).calls = s.calls ++ [s.newCall .inbound o i a .queued] := by
    simp [State.addCall]
  have hsec : ∀ j, (s.addCall (s.newCall .inbound o i a .queued)).sec j = s.sec j := fun j => by
    rw [State.sec, State.addCall_secs]
    rfl
  have hsleep := s.sleepLaw_iff.1 h.sleep
  rw [State.sleepLaw_iff, hcalls]
  intro d hd
  rw [hsec]
  rcases List.mem_append.1 hd with hd | hd
  · exact hsleep d hd
  · rw [List.mem_singleton.1 hd]
    exact ⟨by rcases hawake with hp | ⟨w, hp⟩ <;> simp [State.newCall, hp], fun _ => hawake⟩

/-- The ABANDONED call that eviction takes (R139). -/
theorem mem_insertBy {α : Type} {le : α → α → Bool} {x y : α} {l : List α} : y ∈ insertBy le x l ↔ y = x ∨ y ∈ l := by
  induction l with
  | nil => simp [insertBy]
  | cons z zs ih =>
    unfold insertBy
    split
    · simp
    · simp [ih]
      tauto

theorem insertBy_perm {α : Type} (le : α → α → Bool) (x : α) (l : List α) : (insertBy le x l).Perm (x :: l) := by
  induction l with
  | nil => exact .refl _
  | cons z zs ih =>
    unfold insertBy
    split
    · exact .refl _
    · exact (ih.cons z).trans (.swap x z zs)

/-- Sorting changes the order only. -/
theorem sortBy_perm {α : Type} (le : α → α → Bool) (l : List α) : (sortBy le l).Perm l := by
  induction l with
  | nil => exact .refl _
  | cons x xs ih => exact (insertBy_perm le x _).trans (ih.cons x)

theorem State.oldestAbandoned_mem {s : State} {v : Call} (h : s.oldestAbandoned = some v) : v ∈ s.calls ∧ v.state = .abandoned := by
  have hv : v ∈ s.calls.filter (fun c => c.state == .abandoned) :=
    (sortBy_perm _ _).mem_iff.1 (List.mem_of_mem_head? h)
  simpa using hv

/-- A table that has lost a call has room (R139). -/
theorem State.endCall_room {s : State} (h : s.CallsOk) {c : Call} (hc : c ∈ s.calls) (e : EndCause) :
    (s.endCall c e).calls.length < Config.callDepth := by
  rw [(s.endCall_leaves c e).calls]
  refine lt_of_lt_of_le (List.length_filter_lt_length_iff_exists.2 ⟨c, hc, by simp⟩) h.size.1

theorem State.endCall_callAt {s : State} {i : SectionId} {a : Addr} (h : s.callAt i a = none) (c : Call) (e : EndCause) :
    (s.endCall c e).callAt i a = none := by
  unfold State.callAt
  rw [(s.endCall_leaves c e).calls, List.find?_eq_none]
  exact fun d hd => List.find?_eq_none.1 h d (List.mem_of_mem_filter hd)

/-- An alert that is deferred opens a full episode at most (R140), which is no law's. -/
theorem State.Switched.deferAlert {s : State} (h : s.Switched) (o : CallOrigin) (i : SectionId) (a : Addr) :
    (s.deferAlert o i a).Switched := by
  unfold State.deferAlert
  split
  · exact h
  · obtain ⟨hok, hsleep⟩ := h.post (.callTableFull i a (s.resolve i a).post o)
    exact ⟨hok.congr rfl rfl rfl (fun _ => ⟨rfl, rfl⟩) (fun _ => rfl) (fun _ => rfl), hsleep⟩

theorem State.Switched.newAlert {s : State} (h : s.Switched) {i : SectionId} {a : Addr} (hfree : s.callAt i a = none)
    (ha : (s.sec i).power = .active) (o : CallOrigin) : (s.newAlert o i a).1.Switched := by
  unfold State.newAlert
  split
  · next hroom => exact h.createFromAlert hroom hfree (Or.inl ha) o
  · split
    · next v hv =>
      obtain ⟨hmem, -⟩ := State.oldestAbandoned_mem hv
      exact (h.endCall hmem _).createFromAlert (State.endCall_room h.toCallsOk hmem _) (State.endCall_callAt hfree v _)
        (((s.endCall_stays v _).power i).awake (Or.inl ha)) o
    · exact h.deferAlert o i a

/-! ## Alerts, answers and hang-ups -/

/-- A rung post answers (R137, R173). -/
theorem State.Switched.postAnswers {s : State} (h : s.Switched) {c : Call} (hc : c ∈ s.calls) (hst : c.state = .ringing) :
    (s.postAnswers c).Switched := by
  unfold State.postAnswers
  split
  · next ch hch => exact h.connect hc (by simp [hst]) (Or.inl hch) (Or.inr (h.holds c hc (by rw [hst]; rfl)))
  · exact h

/-- An alert comes from a section that is ACTIVE: no other receives a burst (R59, R134). -/
theorem State.Switched.alert {s : State} (h : s.Switched) {i : SectionId} (ha : (s.sec i).power = .active) (a : Addr)
    (o : CallOrigin) : (s.alert o i a).1.Switched := by
  unfold State.alert
  split
  · exact h
  · split
    · next c hc =>
      have hmem := State.mem_of_callAt hc
      split
      · next hst => exact h.postAnswers hmem hst
      · next hst => exact h.revive hmem hst (Or.inl ((State.callAt_sec hc).1 ▸ ha))
      all_goals exact h
    · next hfree => exact h.newAlert hfree ha o

theorem State.Switched.answerRecord {s : State} (h : s.Switched) (i : SectionId) (a : Addr) : (s.answerRecord i a).Switched := by
  unfold State.answerRecord
  split
  · next c hc =>
    split
    · next hst => exact h.postAnswers (State.mem_of_callAt hc) hst
    · exact h
  · exact h

theorem State.Switched.onhook {s : State} (h : s.Switched) (i : SectionId) (a : Addr) : (s.onhook i a).Switched := by
  unfold State.onhook
  split
  · next c hc =>
    have hmem := State.mem_of_callAt hc
    split
    · exact h.endCall hmem _
    · next hst => exact h.abandon hmem (Or.inl hst)
    · next hst => exact h.abandon hmem (Or.inr (Or.inl hst))
    · next hst => exact h.abandon hmem (Or.inr (Or.inr hst))
    all_goals exact h
  · exact h

theorem State.Switched.impliedAlert {s : State} (h : s.Switched) {i : SectionId} (ha : (s.sec i).power = .active) (a : Addr)
    (st : StatusFields) : (s.impliedAlert i a st).Switched := by
  unfold State.impliedAlert
  split
  · exact (h.alert ha a _).finish
  · exact h

theorem State.Switched.noticeFailed {s : State} (h : s.Switched) (k : TxnKind) (r : Nat) : (s.noticeFailed k r).Switched := by
  unfold State.noticeFailed
  split
  · next c hc =>
    split
    · exact h.endCall (State.mem_of_findCall hc).1 _
    · exact h
  · exact h

/-! ## Transactions and bursts -/

theorem State.Switched.reportFailed {s : State} (h : s.Switched) (i : SectionId) (t : Txn) (r : FailReason) :
    (s.reportFailed i t r).Switched := by
  unfold State.reportFailed
  dsimp only
  split
  · exact (h.post _).noCall (State.pollFailed_noCall _ i _ r) (State.pollFailed_stays _ i _ r)
  · exact h.post _
  · exact (h.post _).noticeFailed _ _

theorem State.Switched.reportAborted {s : State} (h : s.Switched) (i : SectionId) (ts : List Txn) :
    (State.reportAborted i ts s).Switched := by
  induction ts generalizing s with
  | nil => exact h
  | cons t ts ih => exact ih (h.reportFailed i t _)

theorem State.Switched.failFlight {s : State} (h : s.Switched) (i : SectionId) (t : Txn) (r : FailReason) :
    (s.failFlight i t r).Switched := ((h.clearFlight i).reportFailed i t r).finish.enterIdle i

theorem State.Switched.succeed {s : State} (h : s.Switched) (i : SectionId) : (s.succeed i).Switched := (h.clearFlight i).enterIdle i

theorem State.Switched.sendAttempt {s : State} (h : s.Switched) (i : SectionId) (t : Txn) : (s.sendAttempt i t).Switched :=
  h.modLine i _

theorem State.Switched.resumeFlight {s : State} (h : s.Switched) (i : SectionId) : (s.resumeFlight i).Switched := by
  unfold State.resumeFlight
  split
  · split
    · exact h.failFlight i _ _
    · exact h.sendAttempt i _
  · exact h

theorem State.Switched.attemptFailed {s : State} (h : s.Switched) (i : SectionId) : (s.attemptFailed i).Switched := by
  unfold State.attemptFailed
  split
  · split
    · exact h.failFlight i _ _
    · split
      · exact h.sendAttempt i _
      · exact h.modLine i _
  · exact h

theorem State.Switched.returnTxn {s : State} (h : s.Switched) (i : SectionId) (t : Txn) : (s.returnTxn i t).Switched := by
  unfold State.returnTxn
  split
  · exact h.modSec i _
  · exact h.modSec i _

theorem State.Switched.returnYielded {s : State} (h : s.Switched) (i : SectionId) : (s.returnYielded i).Switched := by
  unfold State.returnYielded
  split
  · split
    · exact ((h.clearFlight i).reportFailed i _ _).finish
    · exact (h.clearFlight i).returnTxn i _
  · exact h.clearFlight i

theorem State.Switched.endForeign {s : State} (h : s.Switched) (i : SectionId) : (s.endForeign i).Switched :=
  (h.returnYielded i).enterIdle i

theorem State.Switched.sendAnswer {s : State} (h : s.Switched) (i : SectionId) (rs : List OutRec) (l : List CheckFlag) :
    (s.sendAnswer i rs l).Switched := by
  unfold State.sendAnswer
  split
  · exact h.modLine i _
  · exact h.modLine i _

theorem State.Switched.statusReport {s : State} (h : s.Switched) (i : SectionId) (a : Addr) (st : StatusFields) :
    (s.statusReport i a st).Switched := h.noCall (s.statusReport_noCall i i a st) (s.statusReport_stays i a st)

theorem State.Switched.driveUnresolved {s : State} (h : s.Switched) (i : SectionId) (g : GoodRec) : (s.driveUnresolved i g).Switched := by
  refine h.stays ?_ (s.driveUnresolved_stays i g)
  unfold State.driveUnresolved
  split
  · exact .refl s
  · exact ⟨by simp, by simp, by simp, by simp, by simp, by simp, by simp⟩

theorem State.Switched.takeNotice {s : State} (h : s.Switched) {i : SectionId} (ha : (s.sec i).power = .active) (a : Addr)
    (st : StatusFields) : (s.takeNotice i a st).Switched := by
  unfold State.takeNotice
  split
  · refine (h.statusReport i a st).impliedAlert ?_ a st
    rw [State.sec, State.statusReport_secs]
    exact ha
  · exact h

theorem State.Switched.handRecord {s : State} (h : s.Switched) {i : SectionId} (ha : (s.sec i).power = .active) (g : GoodRec) :
    (s.handRecord i g).1.Switched := by
  unfold State.handRecord
  split
  · exact (h.alert ha _ _).finish
  · exact (h.answerRecord i _).finish
  · exact (h.onhook i _).finish
  · split
    · exact h.takeNotice ha _ _
    · exact h
  all_goals exact h

theorem State.Switched.handRecords {s : State} (h : s.Switched) {i : SectionId} (ha : (s.sec i).power = .active) (gs : List GoodRec)
    (driven : Bool) : (State.handRecords i gs driven s).1.Switched := by
  induction gs generalizing driven s with
  | nil => exact h
  | cons g gs ih =>
    unfold State.handRecords
    dsimp only
    split
    · have hdriven := s.driveUnresolved_stays i g
      have hactive : ((s.driveUnresolved i g).sec i).power = .active := (ha ▸ hdriven.power i).active
      exact ih ((h.driveUnresolved i g).handRecord hactive g) ((hactive ▸ (State.handRecord_stays _ i g).power i).active) _
    · exact ih (h.handRecord ha g) ((ha ▸ (s.handRecord_stays i g).power i).active) _

theorem State.Switched.textAcked {s : State} (h : s.Switched) (i : SectionId) (t : Txn) (cs : List Byte) :
    (s.textAcked i t cs).Switched := by
  unfold State.textAcked
  split
  · split
    · exact h.succeed i
    · exact h.sendAttempt i _
  · exact h.sendAttempt i _

theorem State.Switched.pollAnswered {s : State} (h : s.Switched) {i : SectionId} (ha : (s.sec i).power = .active) (a : Addr)
    (st : StatusFields) : (s.pollAnswered i a st).Switched := by
  have hactive : (((s.clearFlight i).statusReport i a st).sec i).power = .active := by
    rw [State.sec, State.statusReport_secs]
    exact (s.clearFlight_powerOf i i).trans ha
  exact ((((h.clearFlight i).statusReport i a st).impliedAlert hactive a st).noCall (State.pollEnded_byLine _ i a _).toNoCall
    (State.pollEnded_stays _ i a _)).enterIdle i

theorem State.Switched.judgeReply {s : State} (h : s.Switched) {i : SectionId} (ha : (s.sec i).power = .active) (t : Txn) (g : GoodRec) :
    (s.judgeReply i t g).Switched := by
  have hfailed := h.attemptFailed i
  unfold State.judgeReply
  split
  · split
    · split
      · exact h.pollAnswered ha _ _
      · exact hfailed
    · split
      · exact h.textAcked i t _
      · exact h.failFlight i t _
      · exact hfailed
    all_goals
      split
      · exact h.succeed i
      · exact hfailed
  · exact hfailed

end Sys2Proof.Machine
end

section
/-! SUPPORT. The laws of calls through what happens on a pair, the power states, the timebase and the call timers (O22). -/

-- One theorem after another: elaborated side by side, they ask for more thread stacks than the check has memory for.
set_option Elab.async false

namespace Sys2Proof.Machine

/-! ## What happens on a pair -/

theorem State.Switched.setExch {s : State} (h : s.Switched) (i : SectionId) (e : Exchange) : (s.setExch i e).Switched := h.modLine i _

theorem State.Switched.receivePost {s : State} (h : s.Switched) (i : SectionId) : (s.receivePost i).Switched := h.modLine i _

theorem State.Switched.leadEnds {s : State} (h : s.Switched) (i : SectionId) : (s.leadEnds i).Switched := by
  unfold State.leadEnds
  split
  · exact (h.reach _).setExch i _
  · exact h

theorem State.Switched.burstSent {s : State} (h : s.Switched) (i : SectionId) : (s.burstSent i).Switched := by
  unfold State.burstSent
  split
  · split
    · exact h.setExch i _
    · exact h
  · exact h.setExch i _
  · dsimp only
    split
    · exact (h.setExch i _).resumeFlight i
    · exact h.setExch i _
  · exact h

theorem State.Switched.windowEnds {s : State} (h : s.Switched) (i : SectionId) : (s.windowEnds i).Switched := by
  unfold State.windowEnds
  split
  · exact (h.reach _).attemptFailed i
  · exact h

theorem State.Switched.answerSent {s : State} (h : s.Switched) (i : SectionId) : (s.answerSent i).Switched := by
  unfold State.answerSent
  split
  · exact h.endForeign i
  · exact h

theorem State.Switched.burstInWait {s : State} (h : s.Switched) (i : SectionId) : (s.burstInWait i).Switched := by
  unfold State.burstInWait
  split
  · split
    · dsimp only
      split
      · exact (h.failFlight i _ _).receivePost i
      · exact h.failFlight i _ _
    · exact h.receivePost i
  · exact h.receivePost i

theorem State.Switched.burstOnOwned {s : State} (h : s.Switched) (i : SectionId) : (s.burstOnOwned i).Switched := by
  have hcollided : ∀ b, (s.collide i b).Switched := fun b => h.modLine i _
  unfold State.burstOnOwned
  split
  · split
    · exact h.receivePost i
    · exact hcollided _
  · split
    · exact h.receivePost i
    · exact hcollided _
  · exact h.burstInWait i
  · exact h.setExch i _
  · exact h

theorem State.Switched.toActive {s : State} (h : s.Switched) (i : SectionId) {part : SettlePart} (hp : (s.sec i).power = .settling part) :
    (s.toActive i).Switched :=
  h.stays (s.toActive_calls i) (s.toActive_stays i (by simp [hp]) (by simp [hp]))

theorem State.Switched.postBurstStarts {s : State} (h : s.Switched) (i : SectionId) (w : SyncWord) : (s.postBurstStarts i w).Switched := by
  unfold State.postBurstStarts
  split
  · split
    · split
      · next hp => exact ((h.toActive i hp).receivePost i).finish
      · split
        · exact h.receivePost i
        · exact h.burstOnOwned i
        all_goals exact h
      all_goals exact h
    · exact h
  · exact h

theorem State.Switched.replyEnds {s : State} (h : s.Switched) (hp : s.PowerLaw) (i : SectionId) (recs : List LineRec) :
    (s.replyEnds i recs).Switched := by
  unfold State.replyEnds
  split
  · next t _ ht =>
    have hactive : ((s.burstEnded i).sec i).power = .active := (s.burstEnded_power i).2 i (hp.busy ht).active
    split
    · exact (h.burstEnded i).judgeReply hactive t _
    · exact (h.burstEnded i).attemptFailed i
  · exact h

theorem State.Switched.postEnds {s : State} (h : s.Switched) (hp : s.PowerLaw) (i : SectionId) (recs : List LineRec) :
    (s.postEnds i recs).Switched := by
  unfold State.postEnds
  split
  · next he =>
    have hactive : ((s.burstEnded i).sec i).power = .active := (s.burstEnded_power i).2 i (hp.active_of_exch he rfl)
    split
    · next gs _ =>
      have hhanded := (h.burstEnded i).handRecords hactive gs false
      dsimp only
      split
      · exact hhanded.endForeign i
      · exact hhanded.sendAnswer i _ _
    · unfold State.discardPost
      split
      · exact (h.burstEnded i).endForeign i
      · exact (h.burstEnded i).setExch i _
  · exact h

theorem State.Switched.carrierUp {s : State} (h : s.Switched) (i : SectionId) : (s.carrierUp i).Switched := by
  unfold State.carrierUp
  split
  · exact h
  · exact h.modLine i _

theorem State.Switched.carrierGone {s : State} (h : s.Switched) (i : SectionId) : (s.carrierGone i).Switched := by
  unfold State.carrierGone
  split
  · exact h.workArrived i
  · exact h.resumeFlight i
  · exact (h.burstEnded i).attemptFailed i
  · exact (h.burstEnded i).endForeign i
  · exact h.endForeign i
  · exact h.sendAnswer i _ _
  all_goals exact h

theorem State.Switched.carrierDown {s : State} (h : s.Switched) (i : SectionId) : (s.carrierDown i).Switched := by
  unfold State.carrierDown
  split
  · exact (h.modLine i _).carrierGone i
  · exact h

theorem State.Switched.stuckOutcome {s : State} (h : s.Switched) (i : SectionId) : (s.stuckOutcome i).Switched := by
  unfold State.stuckOutcome
  split
  · exact h.workArrived i
  · exact h.resumeFlight i
  · exact h.attemptFailed i
  · exact (h.burstEnded i).attemptFailed i
  · exact (h.burstEnded i).endForeign i
  · exact h.endForeign i
  · exact h.endForeign i
  all_goals exact h

theorem State.Switched.stuckLimit {s : State} (h : s.Switched) (i : SectionId) : (s.stuckLimit i).Switched := by
  unfold State.stuckLimit
  split
  · exact (((h.reach _).modLine i _).post _).stuckOutcome i
  · exact h

theorem State.Switched.spaceUp {s : State} (h : s.Switched) (i : SectionId) : (s.spaceUp i).Switched := by
  unfold State.spaceUp
  split
  · exact h
  · exact h.modLine i _

theorem State.Switched.abandonForBreak {s : State} (h : s.Switched) (i : SectionId) : (s.abandonForBreak i).Switched := by
  unfold State.abandonForBreak
  split
  · exact h.returnYielded i
  · split
    · exact (h.clearFlight i).returnTxn i _
    · exact h.clearFlight i

theorem State.Switched.enterBreak {s : State} (h : s.Switched) (i : SectionId) : (s.enterBreak i).Switched := by
  unfold State.enterBreak State.autoTrigger
  split
  · exact h.modLine i _
  · split
    · exact (((h.modLine i _).post _).modSec i _).arbiter i
    · exact (h.modLine i _).post _

theorem State.Switched.breakTime {s : State} (h : s.Switched) (i : SectionId) : (s.breakTime i).Switched := by
  unfold State.breakTime
  split
  · exact ((h.reach _).abandonForBreak i).enterBreak i
  · exact h

theorem State.Switched.spaceDown {s : State} (h : s.Switched) (i : SectionId) : (s.spaceDown i).Switched := by
  unfold State.spaceDown State.closeEpisode
  split
  · split
    · exact ((h.post _).modSec i _).modLine i _
    · exact h.modLine i _
  · exact h

theorem State.Switched.settleQuiet {s : State} (h : s.Switched) (i : SectionId) : (s.settleQuiet i).Switched := by
  unfold State.settleQuiet
  split
  · exact (h.reach _).enterIdle i
  · exact h

theorem State.Switched.endMark {s : State} (h : s.Switched) (i : SectionId) : (s.endMark i).Switched := by
  unfold State.endMark
  split
  · exact h.enterIdle i
  · exact h

theorem State.Switched.completeMeasure {s : State} (h : s.Switched) (i : SectionId) (r : Running) (l : List Nat) :
    (s.completeMeasure i r l).Switched := by
  unfold State.completeMeasure
  dsimp only
  exact ((h.setLtu i _).post _).modLine i _

theorem State.Switched.takeSample {s : State} (h : s.Switched) (i : SectionId) (n : Nat) : (s.takeSample i n).Switched := by
  unfold State.takeSample
  split
  · dsimp only
    split
    · exact (h.reach _).completeMeasure i _ _
    · exact (h.reach _).setLtu i _
  · exact h

/-! ## Power states -/

/-- A section's power state changed as its live calls allow (R82). -/
theorem State.Switched.setPower {s : State} (h : s.Switched) (i : SectionId) {x : SectionCtl}
    (hx : ∀ c ∈ s.calls, c.sec = i → x.power ≠ .off ∧ (c.state ≠ .abandoned → x.power.Awake)) : (s.setSec i x).Switched := by
  refine ⟨h.toCallsOk.same (.refl s), ?_⟩
  have hsleep := s.sleepLaw_iff.1 h.sleep
  rw [State.sleepLaw_iff]
  intro c hc
  rw [State.sec_setSec]
  split
  · next hi => exact hx c hc hi.symm
  · exact hsleep c hc

/-- On a section that is asleep every live call is ABANDONED (R82). -/
theorem State.Switched.abandoned {s : State} (h : s.Switched) {c : Call} (hc : c ∈ s.calls) (hp : ¬(s.sec c.sec).power.Awake) :
    c.state = .abandoned := by
  by_contra hst
  exact hp (h.awake hc hst)

theorem Power.not_awake_settling (part : SettlePart) : ¬(Power.settling part).Awake := by
  rintro (h | ⟨w, h⟩) <;> cases h

theorem State.Switched.enterSettling {s : State} (h : s.Switched) (i : SectionId) : (s.enterSettling i).Switched := by
  unfold State.enterSettling
  split
  · next hmay =>
    obtain ⟨-, -, -, -, hcalls⟩ := State.maySettle_spec hmay
    exact h.setPower i (fun c hc hi => ⟨nofun, fun hst => absurd (hcalls c (List.mem_filter.2 ⟨hc, by simp [hi]⟩)) hst⟩)
  · exact h

/-- A section in SETTLING goes on to sleep: its calls are ABANDONED already. -/
theorem State.Switched.settled {s : State} (h : s.Switched) (i : SectionId) {x : SectionCtl} {part : SettlePart}
    (hp : (s.sec i).power = .settling part) (hx : x.power ≠ .off) : (s.setSec i x).Switched := by
  refine h.setPower i (fun c hc hi => ⟨hx, fun hst => absurd (h.abandoned hc ?_) hst⟩)
  rw [hi, hp]
  exact Power.not_awake_settling part

theorem State.Switched.shutdownDone {s : State} (h : s.Switched) (i : SectionId) : (s.shutdownDone i).Switched := by
  unfold State.shutdownDone
  split
  · next hp _ => exact h.settled i hp nofun
  · exact h

theorem State.Switched.settleEnds {s : State} (h : s.Switched) (i : SectionId) (off : Bool) : (s.settleEnds i off).Switched := by
  unfold State.settleEnds
  split
  · next t hp _ =>
    have hslept : ((s.reach t.due).modLine i (fun x => { x with power := .hibernate, settleTimer := none })).Switched :=
      (h.reach t.due).settled i hp nofun
    dsimp only
    split
    · exact (hslept.post _).arrive i _
    · exact hslept.post _
  · exact h

theorem State.Switched.offHook {s : State} (h : s.Switched) (i : SectionId) : (s.offHook i).Switched := by
  unfold State.offHook
  split
  · exact h.arrive i _
  · exact h

/-- A section that wakes on: its new power state is an awake one. -/
theorem State.Switched.wakes {s : State} (h : s.Switched) (i : SectionId) {x : SectionCtl} (hx : x.power.Awake) :
    (s.setSec i x).Switched :=
  h.setPower i (fun _ _ _ => ⟨by rcases hx with hx | ⟨w, hx⟩ <;> simp [hx], fun _ => hx⟩)

theorem State.Switched.powerUpEnds {s : State} (h : s.Switched) (i : SectionId) : (s.powerUpEnds i).Switched := by
  unfold State.powerUpEnds
  split
  · exact (h.reach _).wakes i (Or.inr ⟨_, rfl⟩)
  · exact h

theorem State.Switched.openRound {s : State} (h : s.Switched) (i : SectionId) : (s.openRound i).Switched :=
  h.noCall (s.openRound_byLine i).toNoCall (s.openRound_stays i)

theorem State.Switched.openDue {s : State} (h : s.Switched) (i : SectionId) : (s.openDue i).Switched := by
  unfold State.openDue
  split
  · exact (h.modSec i _).openRound i
  · exact h

theorem State.Switched.announceEnds {s : State} (h : s.Switched) (i : SectionId) : (s.announceEnds i).Switched := by
  unfold State.announceEnds
  split
  · next t _ _ =>
    have hup : ((s.reach t.due).modLine i (fun x => { x with power := .active, wakeTimer := none })).Switched :=
      (h.reach t.due).wakes i (Or.inl rfl)
    have hidle := hup.noCall (State.settleIdle_noCall _ i) (State.settleIdle_stays _ i)
    have htold : (State.tellActive i (State.settleIdle i _)).Switched := (hidle.post _).modSec i _
    exact (((htold.openDue i).arbiter i).withDue true).finish
  · exact h

/-! ## The timebase -/

theorem State.Switched.ageingStep {s : State} (h : s.Switched) (r : Nat) : (s.ageingStep r).Switched := by
  unfold State.ageingStep
  split
  · split
    · exact (h.withDue true).finish
    · exact h
  · exact h

theorem State.Switched.openAndAct {s : State} (h : s.Switched) (i : SectionId) : (s.openAndAct i).Switched :=
  (h.openRound i).workArrived i

theorem State.Switched.roundFallsDue {s : State} (h : s.Switched) (i : SectionId) : (s.roundFallsDue i).Switched := by
  unfold State.roundFallsDue
  split
  · split
    · exact h.modSec i _
    · exact h.openAndAct i
  · exact ((h.arrive i _).openAndAct i).finish
  · exact (h.modSec i _).arrive i _
  · exact (h.modSec i _).arrive i _
  · exact h

theorem State.Switched.countdown {s : State} (h : s.Switched) (i : SectionId) : (s.countdown i).Switched := by
  unfold State.countdown
  split
  · split
    · exact (h.modSec i _).roundFallsDue i
    · exact h
  · exact h

/-! ## Call timers and channel inputs -/

theorem State.Switched.offerExpires {s : State} (h : s.Switched) (r : Nat) : (s.offerExpires r).Switched := by
  unfold State.offerExpires
  split
  · next c hc =>
    split
    · next hst _ => exact ((h.reach _).requeue (State.mem_of_findCall hc).1 (Or.inl hst) _).finish
    · exact h
  · exact h

theorem State.Switched.ringExpires {s : State} (h : s.Switched) (r : Nat) : (s.ringExpires r).Switched := by
  unfold State.ringExpires
  split
  · next c hc =>
    split
    · exact ((h.reach _).endCall (State.mem_of_findCall hc).1 _).finish
    · exact h
  · exact h

/-- A channel's ready level is no law's. -/
theorem State.Switched.setReady {s : State} (h : s.Switched) (ch : ChanId) (b : Bool) :
    (s.setChan ch { s.chan ch with ready := b }).Switched := by
  refine ⟨h.toCallsOk.congr rfl rfl rfl (fun d => ?_) (fun _ => rfl) (fun _ => rfl), h.sleep⟩
  rw [State.chan_setChan]
  split
  · next hd => exact hd ▸ ⟨rfl, rfl⟩
  · exact ⟨rfl, rfl⟩

/-- A channel that no call names may change among FREE, DOWN and OUT (R155). -/
theorem State.Switched.setIdle {s : State} (h : s.Switched) (ch : ChanId) {x : Channel} (hb : (s.chan ch).state.busy = false)
    (hx : x.call = none) (hxb : x.state.busy = false) : (s.setChan ch x).Switched := by
  have hcall := h.call_none hb
  have hfree : ∀ c ∈ s.calls, c.channel ≠ some ch := fun c hc e => by
    rw [(h.names c hc ch e).1] at hcall
    cases hcall
  have hother : ∀ d, ch ≠ d → (s.setChan ch x).chan d = s.chan d := fun d hd => by rw [State.chan_setChan, if_neg hd]
  have hself : (s.setChan ch x).chan ch = x := by rw [State.chan_setChan, if_pos rfl]
  refine ⟨⟨h.size, h.place, h.refs, fun d r hr => ?_, fun d hn => ?_, fun c hc d hd => ?_, h.unswitched, h.held, h.unheld, h.holds,
    h.timed⟩, h.sleep⟩
  · by_cases hd : ch = d
    · rw [← hd, hself, hx] at hr
      cases hr
    · rw [hother d hd] at hr ⊢
      exact h.named d r hr
  · by_cases hd : ch = d
    · rw [← hd, hself]
      exact hxb
    · rw [hother d hd] at hn ⊢
      exact h.idle d hn
  · rw [hother d (fun e => hfree c hc (e ▸ hd))]
    exact h.names c hc d hd

/-- The call that a busy channel carries is in the state that matches the channel's (R155). -/
theorem State.CallsOk.carried {s : State} (h : s.CallsOk) {ch : ChanId} {c : Call} (hc : (s.chan ch).call.bind s.findCall = some c) :
    c ∈ s.calls ∧ c.channel = some ch ∧ c.state.channelState = some (s.chan ch).state := by
  obtain ⟨r, hr, hfind⟩ := Option.bind_eq_some_iff.1 hc
  obtain ⟨hmem, href⟩ := State.mem_of_findCall hfind
  obtain ⟨d, hd, hdr, hdch, hdst⟩ := h.named ch r hr
  obtain rfl := h.refs.unique hd hmem (hdr.trans href.symm)
  exact ⟨hd, hdch, hdst⟩

theorem State.Switched.loseCall {s : State} (h : s.Switched) {c : Call} (hc : c ∈ s.calls) {x : ChannelState}
    (hst : c.state.channelState = some x) : (s.loseCall c).Switched := by
  unfold State.loseCall
  split
  · exact h.endCall hc _
  · next hnot =>
    refine h.requeue hc ?_ _
    cases hcase : c.state <;> simp_all [CallState.channelState]

theorem State.Switched.readyFalls {s : State} (h : s.Switched) (ch : ChanId) : (s.readyFalls ch).Switched := by
  have hlow := h.setReady ch false
  unfold State.readyFalls
  split
  · dsimp only
    split
    · next hst =>
      have hidle : (s.chan ch).state.busy = false := by rw [hst]; rfl
      exact (hlow.setIdle ch (by simpa using hidle) (by simpa using h.call_none hidle) rfl).post _
    iterate 3
      split
      · next hc =>
        obtain ⟨hmem, -, hmatch⟩ := h.carried hc
        exact ((hlow.loseCall hmem hmatch).post _).finish
      · exact hlow
    all_goals exact hlow
  · exact h

theorem State.Switched.readyRises {s : State} (h : s.Switched) (ch : ChanId) : (s.readyRises ch).Switched := by
  have hhigh := h.setReady ch true
  unfold State.readyRises
  split
  · exact h
  · dsimp only
    split
    · next hst =>
      have hidle : (s.chan ch).state.busy = false := by rw [hst]; rfl
      exact (((hhigh.setIdle ch (by simpa using hidle) (by simpa using h.call_none hidle) rfl).post _).withDue true).finish
    all_goals exact hhigh

end Sys2Proof.Machine
end

section
/-! SUPPORT. The laws of calls through the requests and the resets, and the statement that every step keeps them (O22). -/

-- One theorem after another: elaborated side by side, they ask for more thread stacks than the check has memory for.
set_option Elab.async false

namespace Sys2Proof.Machine

/-! ## Calls of a section ended one after another -/

theorem State.mem_endCalls (e : EndCause) (cs : List Call) (s : State) (d : Call) :
    d ∈ (State.endCalls e cs s).calls ↔ d ∈ s.calls ∧ ∀ c ∈ cs, d.ref ≠ c.ref := by
  induction cs generalizing s with
  | nil => simp [State.endCalls]
  | cons c cs ih =>
    rw [State.endCalls, ih, (s.endCall_leaves c e).mem, List.forall_mem_cons, and_assoc]

/-- Calls of the table with references of their own end one after another. -/
theorem State.CallsOk.endCalls {s : State} (h : s.CallsOk) (e : EndCause) {cs : List Call} (hmem : ∀ c ∈ cs, c ∈ s.calls)
    (hrefs : cs.Pairwise (fun c d => c.ref ≠ d.ref)) : (State.endCalls e cs s).CallsOk := by
  induction cs generalizing s with
  | nil => exact h
  | cons c cs ih =>
    obtain ⟨hc, hrest⟩ := List.forall_mem_cons.1 hmem
    obtain ⟨hfirst, hpair⟩ := List.pairwise_cons.1 hrefs
    exact ih (h.left hc (s.endCall_leaves c e))
      (fun d hd => (s.endCall_leaves c e).mem.2 ⟨hrest d hd, (hfirst d hd).symm⟩) hpair

theorem State.Switched.endCallsQuietly {s : State} (h : s.Switched) (e : EndCause) {cs : List Call} (hmem : ∀ c ∈ cs, c ∈ s.calls)
    (hrefs : cs.Pairwise (fun c d => c.ref ≠ d.ref)) : (State.endCallsQuietly e cs s).Switched := by
  induction cs generalizing s with
  | nil => exact h
  | cons c cs ih =>
    obtain ⟨hc, hrest⟩ := List.forall_mem_cons.1 hmem
    obtain ⟨hfirst, hpair⟩ := List.pairwise_cons.1 hrefs
    have hleaves := s.endCallQuietly_leaves c e
    exact ih (h.left hc hleaves (s.endCallQuietly_stays c e).power)
      (fun d hd => hleaves.mem.2 ⟨hrest d hd, (hfirst d hd).symm⟩) hpair

/-- A section's calls in the order in which they are ended (R145). -/
theorem State.callsInOrder_perm (s : State) (i : SectionId) : (s.callsInOrder i).Perm (s.callsOn i) := sortBy_perm _ _

theorem State.mem_callsInOrder {s : State} {i : SectionId} {c : Call} : c ∈ s.callsInOrder i ↔ c ∈ s.calls ∧ c.sec = i := by
  rw [(s.callsInOrder_perm i).mem_iff, State.callsOn, List.mem_filter, beq_iff_eq]

theorem State.RefLaw.callsInOrder {s : State} (h : s.RefLaw) (i : SectionId) :
    (s.callsInOrder i).Pairwise (fun c d => c.ref ≠ d.ref) :=
  ((s.callsInOrder_perm i).pairwise_iff (fun hne => hne.symm)).2 (h.1.filter _)

/-! ## Sections taken out of service and reset -/

/-- A section taken out of service: the calls that its going OFF leaves on it are ended before anything else happens (R96). -/
theorem State.Switched.takeOut {s : State} (h : s.Switched) (i : SectionId) : (s.takeOut i).Switched := by
  unfold State.takeOut
  dsimp only
  have hframe : s.NoCall i
      ((State.post (.sectionState i .off .empty) ((s.abortQueue i).modLine i SectionCtl.goOff)).applyPending i) :=
    ((((s.abortQueue_byLine i).trans (State.modLine_byLine _ i _)).trans (State.post_byLine _ i _)).toNoCall).trans
      (State.applyPending_noCall _ i)
  generalize (State.post (.sectionState i .off .empty) ((s.abortQueue i).modLine i SectionCtl.goOff)).applyPending i = u at hframe ⊢
  have hcalls : u.calls = s.calls := hframe.calls.1
  have hended : (State.endCalls .sectionOff (s.callsInOrder i) u).CallsOk :=
    (h.toCallsOk.same hframe.calls).endCalls _ (fun c hc => hcalls ▸ (State.mem_callsInOrder.1 hc).1) (h.refs.callsInOrder i)
  have hsleep := s.sleepLaw_iff.1 h.sleep
  refine (State.Switched.reportAborted ⟨hended, ?_⟩ i _).finish
  rw [State.sleepLaw_iff]
  intro c hc
  obtain ⟨hmem, hnot⟩ := (State.mem_endCalls _ _ _ _).1 hc
  rw [hcalls] at hmem
  have hother : c.sec ≠ i := fun hi => hnot c (State.mem_callsInOrder.2 ⟨hmem, hi⟩) rfl
  have hrises := (State.endCalls_stays .sectionOff (s.callsInOrder i) u).power c.sec
  rw [(hframe.others c.sec hother).1] at hrises
  exact ⟨hrises.ne_off (hsleep c hmem).1, fun hst => hrises.awake ((hsleep c hmem).2 hst)⟩

theorem State.Switched.serviceOutAct {s : State} (h : s.Switched) (n d f : Nat) : (s.serviceOutAct n d f).1.Switched := by
  unfold State.serviceOutAct
  split
  · refine State.onSection_cases h n (fun i => ?_)
    split
    · exact h
    · split
      · exact h.takeOut i
      · exact h
  · exact h

theorem State.Switched.resetLine {s : State} (h : s.Switched) (i : SectionId) (hp : (s.sec i).power ≠ .off) : (s.resetLine i).Switched := by
  refine h.same ?_ (s.resetLine_stays i hp).power
  unfold State.resetLine
  split <;> exact .refl s

theorem State.Switched.resetSection {s : State} (h : s.Switched) (i : SectionId) (hp : (s.sec i).power ≠ .off) :
    (s.resetSection i).Switched := by
  unfold State.resetSection
  dsimp only
  have haborted := h.noCall (s.abortQueue_byLine i).toNoCall (s.abortQueue_stays i)
  have hcalls : (s.abortQueue i).calls = s.calls := (s.abortQueue_byLine i).calls.1
  have hended := haborted.endCallsQuietly .sectionReset (cs := s.callsInOrder i)
    (fun c hc => hcalls ▸ (State.mem_callsInOrder.1 hc).1) (h.refs.callsInOrder i)
  have hstays := (s.abortQueue_stays i).trans (State.endCallsQuietly_stays .sectionReset (s.callsInOrder i) _)
  generalize State.endCallsQuietly .sectionReset (s.callsInOrder i) (s.abortQueue i) = u at hended hstays ⊢
  have hclosed := (hended.modSec i (fun x => { x with round := none })).applyPending i
  have hon : (((u.modSec i (fun x => { x with round := none })).applyPending i).sec i).power ≠ .off := by
    obtain ⟨d, hd⟩ := (u.modSec i (fun x => { x with round := none })).sec_applyPending i
    rw [hd]
    simpa using (hstays.power i).ne_off hp
  exact ((hclosed.resetLine i hon).reportAborted i _).finish

/-! ## Requests about sections and posts -/

theorem State.onPost_cases {P : State → Prop} {s : State} (hs : P s) (p : Nat) {act : Fin 2 → PostEntry → Answered}
    (h : ∀ c e, P (act c e).1) : P (s.onPost p act).1 := by
  unfold State.onPost
  split
  · split
    · exact h _ _
    · exact hs
  · exact hs

/-- What every outcome of a request about a call has, the answer has: the outcome for a call of the table, or a refusal. -/
theorem State.onCall_cases {P : State → Prop} {s : State} (hs : P s) (r : Nat) {act : Call → Answered}
    (h : ∀ c ∈ s.calls, P (act c).1) : P (s.onCall r act).1 := by
  unfold State.onCall
  split
  · split
    · next c hc => exact h c (State.mem_of_findCall hc).1
    · exact hs
  · exact hs

theorem State.refuseNamed_state (s : State) (st : Status) (r : Nat) : (s.refuseNamed st r).1 = s := by
  unfold State.refuseNamed
  split
  · split <;> rfl
  · rfl

theorem State.Switched.setGlobalsAct {s : State} (h : s.Switched) (g : RawGlobals) : (s.setGlobalsAct g).1.Switched := by
  unfold State.setGlobalsAct
  split
  · next n _ =>
    have hset : State.Switched { s with globals := n } := h.same (.refl s) (fun _ => .refl _)
    exact (hset.withDue true).finish
  · exact h

theorem State.Switched.defineSectionAct {s : State} (h : s.Switched) (n : Nat) (d : RawSection) : (s.defineSectionAct n d).1.Switched := by
  unfold State.defineSectionAct
  split
  · split
    · exact h
    · split
      · exact h
      · exact h.modSec _ _
  · exact h

theorem State.Switched.setTimingAct {s : State} (h : s.Switched) (n : Nat) (t : RawTiming) : (s.setTimingAct n t).1.Switched := by
  refine State.onSection_cases h n (fun i => ?_)
  split
  · exact h.modSec i (fun x => { x with pendingTiming := some t.stored })
  · refine h.noCall (s.applyTiming_noCall i t.stored) (s.applyTiming_stays i t.stored (fun _ => storedTiming_unreachable t))

/-- A section whose service begins is WAKING, where it may have live calls (R82, R94). -/
theorem State.Switched.beginService {s : State} (h : s.Switched) (i : SectionId) : (s.beginService i).Switched := by
  have hwoken : (s.startWake i (ReasonSet.empty.add .host)).Switched := h.wakes i (Or.inr ⟨_, rfl⟩)
  exact hwoken.modSec i _

theorem State.Switched.serviceInAct {s : State} (h : s.Switched) (n d f : Nat) : (s.serviceInAct n d f).1.Switched := by
  unfold State.serviceInAct
  split
  · refine State.onSection_cases h n (fun i => ?_)
    dsimp only
    split
    · exact h.beginService i
    · exact h
  · exact h

theorem State.Switched.beginServices {s : State} (h : s.Switched) (is : List SectionId) : (State.beginServices is s).Switched := by
  induction is generalizing s with
  | nil => exact h
  | cons i is ih => exact ih (h.beginService i)

theorem State.Switched.startAct {s : State} (h : s.Switched) : s.startAct.1.Switched := by
  unfold State.startAct
  split
  · exact h
  · have hmode : State.Switched { s with mode := .service } := h.same (.refl s) (fun _ => .refl _)
    exact hmode.beginServices _

theorem State.Switched.forceIdleAct {s : State} (h : s.Switched) (n : Nat) : (s.forceIdleAct n).1.Switched := by
  refine State.onSectionInService_cases h n (fun i _ => ?_)
  dsimp only
  split
  · exact h.enterIdle i
  · exact h

theorem State.Switched.pollNowAct {s : State} (h : s.Switched) (n : Nat) : (s.pollNowAct n).1.Switched := by
  refine State.onSectionInService_cases h n (fun i _ => ?_)
  split
  · split
    · exact h
    · exact h.openAndAct i
  · exact ((h.arrive i _).openAndAct i).finish
  · exact (h.modSec i _).arrive i _
  · exact (h.modSec i _).arrive i _
  · exact h

theorem State.Switched.measureAct {s : State} (h : s.Switched) (n : Nat) : (s.measureAct n).1.Switched := by
  refine State.onSectionInService_cases h n (fun i _ => ?_)
  split
  · exact h
  · exact (((h.arrive i _).modSec i _).arbiter i).finish

theorem State.Switched.hostEntry {s : State} (h : s.Switched) (i : SectionId) (f : List Txn → List Txn) : (s.hostEntry i f).Switched := by
  have hqueued : ((s.arrive i .host).modQueue i f).Switched := (h.arrive i _).modSec i _
  exact (hqueued.workArrived i).finish

theorem State.Switched.lampAct {s : State} (h : s.Switched) (p n : Nat) : (s.lampAct p n).1.Switched := by
  unfold State.lampAct
  split
  · refine State.onPost_cases h p (fun _ e => ?_)
    split
    · exact h
    · split
      · exact h
      · exact h.hostEntry _ _
  · exact h

theorem State.Switched.messageAct {s : State} (h : s.Switched) (p : Nat) (text : List Byte) : (s.messageAct p text).1.Switched := by
  refine State.onPost_cases h p (fun _ e => ?_)
  split
  · exact h
  · split
    · exact h
    · exact h.hostEntry _ _

/-- Entries and roster slots are no law's of calls. -/
theorem State.Switched.ofDirectory {s t : State} (h : s.Switched) (hsecs : t.secs = s.secs) (hs : s.SameCalls t) : t.Switched :=
  h.same hs (fun i => by rw [State.sec, State.sec, hsecs]; exact .refl _)

theorem State.Switched.definePostAct {s : State} (h : s.Switched) (p : RawPost) : (s.definePostAct p).1.Switched := by
  have hchecked : ∀ e, (s.defineChecked e).1.Switched := fun e => by
    refine h.ofDirectory (s.defineChecked_secs e) ?_
    unfold State.defineChecked State.redefinePost State.placePost
    split
    · exact .refl s
    · split
      · split
        · exact .refl s
        · split
          · exact .refl s
          · exact ⟨by simp, by simp, by simp, by simp, by simp, by simp, by simp⟩
      · split
        · exact .refl s
        · split
          · exact ⟨by simp, by simp, by simp, by simp, by simp, by simp, by simp⟩
          · exact .refl s
  unfold State.definePostAct
  split
  · split
    · exact hchecked _
    · exact h
  · exact h

theorem State.Switched.removePostAct {s : State} (h : s.Switched) (p : Nat) : (s.removePostAct p).1.Switched := by
  refine State.onPost_cases h p (fun c e => ?_)
  split
  · exact h
  · exact h.ofDirectory (by simp) ⟨by simp, by simp, by simp, by simp, by simp, by simp, by simp⟩

theorem State.Switched.setServiceAct {s : State} (h : s.Switched) (p : Nat) (st : ServiceState) : (s.setServiceAct p st).1.Switched :=
  State.onPost_cases h p (fun _ _ => h.ofDirectory rfl (.refl s))

/-! ## Requests about channels and calls -/

theorem State.refuseDirection_state (s : State) (n : Nat) : (s.refuseDirection n).1 = s := by
  unfold State.refuseDirection
  split <;> rfl

theorem State.Switched.setChannelOutAct {s : State} (h : s.Switched) (n d : Nat) : (s.setChannelOutAct n d).1.Switched := by
  unfold State.setChannelOutAct
  split
  · next ch _ =>
    dsimp only
    split
    · next hst =>
      have hidle : (s.chan ch).state.busy = false := by rw [hst]; rfl
      exact (h.setIdle ch (x := { s.chan ch with state := .out }) hidle (h.call_none hidle) rfl).post _
    · next hst =>
      have hidle : (s.chan ch).state.busy = false := by rw [hst]; rfl
      exact (h.setIdle ch (x := { s.chan ch with state := .out }) hidle (h.call_none hidle) rfl).post _
    all_goals exact h
  · rw [State.refuseDirection_state]
    exact h

theorem State.Switched.setChannelInAct {s : State} (h : s.Switched) (n d : Nat) : (s.setChannelInAct n d).1.Switched := by
  unfold State.setChannelInAct
  split
  · next ch _ =>
    dsimp only
    split
    · next hst =>
      have hidle : (s.chan ch).state.busy = false := by rw [hst]; rfl
      obtain ⟨hcall, hbusy⟩ := (s.chan ch).released_idle
      have hback := (h.setIdle ch hidle hcall hbusy).post (.channelState ch (s.chan ch).released.state (s.chan ch).ready .setIn)
      dsimp only
      split
      · exact (hback.withDue true).finish
      · exact hback
    · exact h
  · rw [State.refuseDirection_state]
    exact h

theorem State.Switched.answerAct {s : State} (h : s.Switched) (r : Nat) : (s.answerAct r).1.Switched := by
  refine State.onCall_cases h r (fun c hc => ?_)
  split
  · next hst hch => exact (h.connect hc (by simp [hst]) (Or.inl hch) (Or.inr (h.holds c hc (by rw [hst]; rfl)))).finish
  · exact h

/-- The channel that a request gets is FREE (R167, R169, R171). -/
theorem State.chooseChannel_free {s : State} {named : Option ChanId} {ch : ChanId} (h : s.chooseChannel named = .ok ch) :
    (s.chan ch).state = .free := by
  unfold State.chooseChannel at h
  split at h
  · split at h
    · next hfree => exact Except.ok.inj h ▸ hfree
    · cases h
  · split at h
    · next hfree => exact Except.ok.inj h ▸ State.freeChannel_free hfree
    · cases h

theorem State.CallsOk.call_none_of_free {s : State} (h : s.CallsOk) {ch : ChanId} (hst : (s.chan ch).state = .free) :
    (s.chan ch).call = none := h.call_none (by rw [hst]; rfl)

theorem State.Switched.pickAct {s : State} (h : s.Switched) (r n : Nat) : (s.pickAct r n).1.Switched := by
  unfold State.pickAct
  split
  · refine State.onCall_cases h r (fun c hc => ?_)
    split
    · next hst =>
      split
      · next he =>
        simp only [State.eligible, Bool.and_eq_true, Bool.or_eq_true, beq_iff_eq] at he
        split
        · next ch hch =>
          exact (h.connect hc (by simp [hst])
            (Or.inr ⟨h.channel_none hc (by rw [hst]; rfl), h.call_none_of_free (State.chooseChannel_free hch)⟩) he.1.2).finish
        · exact h
      · exact h
    · exact h
  · rw [State.refuseNamed_state]
    exact h

theorem State.Switched.parkAct {s : State} (h : s.Switched) (r : Nat) : (s.parkAct r).1.Switched := by
  refine State.onCall_cases h r (fun c hc => ?_)
  split
  · next hst hch => exact (h.parkCall hc hst hch).finish
  · exact h

theorem State.Switched.retrieveAct {s : State} (h : s.Switched) (r n : Nat) : (s.retrieveAct r n).1.Switched := by
  unfold State.retrieveAct
  split
  · refine State.onCall_cases h r (fun c hc => ?_)
    split
    · next hst =>
      split
      · next ch hch =>
        exact (h.connect hc (by simp [hst])
          (Or.inr ⟨h.channel_none hc (by rw [hst]; rfl), h.call_none_of_free (State.chooseChannel_free hch)⟩)
          (Or.inr (h.holds c hc (by rw [hst]; rfl)))).finish
      · exact h
    · exact h
  · rw [State.refuseNamed_state]
    exact h

theorem State.Switched.clearAct {s : State} (h : s.Switched) (r : Nat) : (s.clearAct r).1.Switched := by
  refine State.onCall_cases h r (fun c hc => ?_)
  split
  · exact h
  · exact (h.endCall hc _).finish

theorem State.Switched.dismissAct {s : State} (h : s.Switched) (r : Nat) : (s.dismissAct r).1.Switched := by
  refine State.onCall_cases h r (fun c hc => ?_)
  split
  · exact (h.endCall hc _).finish
  · exact h

theorem State.SameCalls.symm {s t : State} (h : s.SameCalls t) : t.SameCalls s := by
  obtain ⟨h1, h2, h3, h4, h5, h6, h7⟩ := h
  exact ⟨h1.symm, h2.symm, h3.symm, h4.symm, h5.symm, h6.symm, h7.symm⟩

theorem State.chan_addCall (s : State) (c : Call) (ch : ChanId) : (s.addCall c).chan ch = s.chan ch := by
  simp [State.addCall, State.chan]

theorem State.holder_addCall (s : State) (c : Call) (i : SectionId) : (s.addCall c).holder i = s.holder i := by
  simp [State.addCall, State.holder]

/-- A ring overwrites the state of the call that it takes: a new record of any state rings alike (R172). -/
theorem State.ring_addCall (s : State) (c : Call) (st : CallState) (ch : ChanId) :
    ((s.addCall { c with state := st }).ring { c with state := st } ch).SameCalls ((s.addCall c).ring c ch) := by
  refine ((State.offerNotice_calls _ c.sec c.addr .ring c.ref).symm.trans ?_).trans (State.offerNotice_calls _ c.sec c.addr .ring c.ref)
  refine ⟨?_, ?_, ?_, ?_, ?_, ?_, ?_⟩
  all_goals simp [State.addCall, State.setChan, State.setHolder, State.setJoin, State.chan]

/-- A new OUTBOUND call rings at a free place, on an empty path and a FREE channel (R171, R172). -/
theorem State.Switched.ringNew {s : State} (h : s.Switched) (hroom : s.calls.length < Config.callDepth) {i : SectionId} {a : Addr}
    (hfree : s.callAt i a = none) (hp : (s.sec i).power ≠ .off) {ch : ChanId} (hch : (s.chan ch).state = .free)
    (hpath : s.holder i = none) : (s.ringNew i a ch).1.Switched := by
  refine State.Switched.finish ?_
  have hadded := h.toCallsOk.addCall hroom hfree .outbound .host
  generalize hc0 : s.newCall .outbound .host i a .queued = c0 at hadded
  have hsec : c0.sec = i := hc0 ▸ rfl
  have hst : c0.state = .queued := hc0 ▸ rfl
  have hnew : s.newCall .outbound .host i a .ringing = { c0 with state := .ringing } := hc0 ▸ rfl
  have hcalls : (s.addCall c0).calls = s.calls ++ [c0] := by simp [State.addCall]
  have hmem : c0 ∈ (s.addCall c0).calls := by simp [hcalls]
  rw [hnew]
  have hsame := (State.ring_addCall s c0 .ringing ch).symm
  have hmoves := State.ring_moves hadded hmem (Or.inl hst) (ch := ch) (by rwa [State.chan_addCall])
    (by rwa [State.holder_addCall, hsec])
  have hstays := (s.addCall_stays { c0 with state := .ringing }).trans (State.ring_stays _ { c0 with state := .ringing } ch)
  have hmoved := hmoves.same hsame
  refine ⟨hadded.moved hmem hmoved, ?_⟩
  have hsleep := s.sleepLaw_iff.1 h.sleep
  rw [State.sleepLaw_iff]
  intro d hd
  rcases (hmoved.mem hmem).1 hd with rfl | ⟨hd, hr⟩
  · refine ⟨(hstays.power _).ne_off (by simpa [hsec] using hp), fun _ => ?_⟩
    exact State.offerNotice_awake _ c0.sec c0.addr rfl c0.ref (by simpa [State.sec, State.addCall_secs, hsec] using hp)
  · rw [hcalls, List.mem_append, List.mem_singleton] at hd
    have hd : d ∈ s.calls := hd.resolve_right (fun e => hr (e ▸ rfl))
    exact ⟨(hstays.power _).ne_off (hsleep d hd).1, fun hdst => (hstays.power _).awake ((hsleep d hd).2 hdst)⟩

theorem State.Switched.callEntry {s : State} (h : s.Switched) (e : PostEntry) (named : Option ChanId) (hp : (s.sec e.sec).power ≠ .off) :
    (s.callEntry e named).1.Switched := by
  unfold State.callEntry
  split
  · next c hc =>
    split
    · next hst =>
      split
      · exact h
      · next hpath =>
        split
        · next ch hch =>
          refine (h.ring (State.mem_of_callAt hc) (Or.inr hst) (State.chooseChannel_free hch) ?_).finish
          rw [(State.callAt_sec hc).1]
          simpa using hpath
        · exact h
    · exact h
  · next hfree =>
    split
    · exact h
    · next hpath =>
      have hpath : s.holder e.sec = none := by simpa using hpath
      split
      · next ch hch =>
        have hch := State.chooseChannel_free hch
        split
        · next hroom => exact h.ringNew hroom hfree hp hch hpath
        · split
          · next v hv =>
            obtain ⟨hmem, hst⟩ := State.oldestAbandoned_mem hv
            have hleaves := s.endCall_leaves v .dismissedAuto
            refine (h.endCall hmem _).ringNew (State.endCall_room h.toCallsOk hmem _) (State.endCall_callAt hfree v _)
              (((s.endCall_stays v _).power e.sec).ne_off hp) ?_ ?_
            · rw [(hleaves.chans ch (by simp [h.channel_none hmem (by rw [hst]; rfl)])).2]
              exact hch
            · rw [(hleaves.paths e.sec (Or.inl (by simp [hpath]))).1]
              exact hpath
          · exact h
      · exact h

theorem State.Switched.callPostAct {s : State} (h : s.Switched) (p n : Nat) : (s.callPostAct p n).1.Switched := by
  unfold State.callPostAct
  split
  · refine State.onPost_cases h p (fun _ e => ?_)
    split
    · exact h
    · next hp => exact h.callEntry e _ hp
  · exact h

/-! ## The serial link and the resets -/

theorem State.deviceReset_switched (s : State) : s.deviceReset.Switched := by
  have hcalls : s.deviceReset.calls = [] := rfl
  have hhist : s.deviceReset.history = [] := rfl
  have hnext : s.deviceReset.nextRef = 1 := rfl
  refine ⟨⟨?_, ?_, ?_, fun ch r hr => ?_, fun ch _ => ?_, ?_, ?_, fun i r hr => ?_, fun i _ => s.join_deviceReset i, ?_, ?_⟩, ?_⟩
  · simp [State.TableLaw, hcalls, hhist]
  · simp [State.PlaceLaw, hcalls]
  · simp [State.RefLaw, hcalls, hnext, Config.refMax]
  · rw [State.chan_deviceReset] at hr
    cases hr
  · rw [State.chan_deviceReset, Channel.resetWith]
    dsimp only
    split <;> rfl
  · simp [hcalls]
  · simp [hcalls]
  · rw [State.holder_deviceReset] at hr
    cases hr
  · simp [hcalls]
  · simp [State.CallTimerLaw, hcalls]
  · simp [State.SleepLaw, hcalls]

theorem State.Switched.replySent {s : State} (h : s.Switched) : s.replySent.Switched := by
  unfold State.replySent
  split
  · split
    · exact s.deviceReset_switched
    · exact h.same (.refl s) (fun _ => .refl _)
  · exact h

theorem State.Switched.releaseReset {s : State} (h : s.Switched) : s.releaseReset.Switched := by
  unfold State.releaseReset
  split
  · exact State.deviceReset_switched _
  · exact h

theorem SectionCtl.cutBurst_power (x : SectionCtl) : x.cutBurst.power = x.power := by
  obtain ⟨e, he⟩ := x.cutBurst_eq
  rw [he]

theorem State.Switched.cutBursts {s : State} (h : s.Switched) (is : List SectionId) : (State.cutBursts is s).Switched := by
  induction is generalizing s with
  | nil => exact h
  | cons i is ih => exact ih (h.modLine i _ (s.sec i).cutBurst_power)

theorem State.Switched.assertReset {s : State} (h : s.Switched) : s.assertReset.Switched := by
  unfold State.assertReset
  split
  · exact h
  · refine State.Switched.cutBursts ?_ _
    exact h.same (.refl s) (fun _ => .refl _)

theorem State.joinBuffer_calls (s : State) (e : BufEntry) : s.SameCalls (s.joinBuffer e) := by
  unfold State.joinBuffer
  split <;> exact .refl s

theorem State.receiveByte_calls (s : State) (b : Byte) : s.SameCalls (s.receiveByte b) := by
  have hjoined : ∀ r e, s.SameCalls (State.joinBuffer e { s with rx := r }) := fun r e => State.joinBuffer_calls { s with rx := r } e
  unfold State.receiveByte State.frameByte
  split
  · exact .refl s
  · split
    · split <;> exact .refl s
    · split
      · split
        · exact hjoined _ _
        · split
          · exact hjoined _ _
          · exact .refl s
      · exact .refl s

theorem State.receiveBytes_calls (bs : List Byte) (s : State) : s.SameCalls (s.receiveBytes bs) := by
  induction bs generalizing s with
  | nil => exact .refl s
  | cons b bs ih => exact (s.receiveByte_calls b).trans (ih _)

theorem State.byteGap_calls (s : State) : s.SameCalls s.byteGap := by
  unfold State.byteGap
  split
  · exact State.joinBuffer_calls _ _
  · exact .refl s

theorem State.noticeReply_calls (s : State) : s.SameCalls s.noticeReply := by
  unfold State.noticeReply
  split
  · split <;> exact .refl s
  all_goals exact .refl s

/-! ## Every command -/

/-- A command's outcome, where the laws of calls are to be kept. -/
def State.KeepsCalls (s t : State) : Prop := s.PowerLaw → s.Switched → t.Switched

theorem State.KeepsCalls.refl (s : State) : s.KeepsCalls s := fun _ => id

theorem State.request_keepsCalls (s : State) {k : ReqKind} {h : Hdr} {body : List Byte} {want : Nat} {act : State → Answered}
    (hact : ∀ u : State, u.Switched → (act u).1.Switched) : s.KeepsCalls (s.request k h body want act) := by
  intro _ hs
  have htaken : (s.take k h body).Switched := hs.same (.refl s) (fun _ => .refl _)
  have hanswered : ∀ (u : State) (st : Status) (b : ReplyBody), u.Switched → (u.answered k h st b).Switched :=
    fun u _ _ hu => hu.same (.refl u) (fun _ => .refl _)
  unfold State.request
  split
  · dsimp only
    split
    · exact hanswered _ _ _ htaken
    · split
      · exact hanswered _ _ _ (hact _ htaken)
      · exact hanswered _ _ _ htaken
  · exact hs

theorem exec_keepsCalls (c : Instr) (s : State) : ∃ t, exec c s = .next t ∧ s.KeepsCalls t :=
  match c with
  | .identify _ => ⟨_, rfl, s.request_keepsCalls (fun _ h => h)⟩
  | .reset _ => ⟨_, rfl, s.request_keepsCalls (fun _ h => h)⟩
  | .start _ => ⟨_, rfl, s.request_keepsCalls (fun _ h => h.startAct)⟩
  | .setGlobals _ g => ⟨_, rfl, s.request_keepsCalls (fun _ h => h.setGlobalsAct g)⟩
  | .defineSection _ n d => ⟨_, rfl, s.request_keepsCalls (fun _ h => h.defineSectionAct n d)⟩
  | .setSectionTiming _ n t => ⟨_, rfl, s.request_keepsCalls (fun _ h => h.setTimingAct n t)⟩
  | .sectionServiceIn _ n d f => ⟨_, rfl, s.request_keepsCalls (fun _ h => h.serviceInAct n d f)⟩
  | .sectionServiceOut _ n d f => ⟨_, rfl, s.request_keepsCalls (fun _ h => h.serviceOutAct n d f)⟩
  | .sectionReset _ n =>
    ⟨_, rfl, s.request_keepsCalls (fun _ h => State.onSectionInService_cases h n (fun i hp => h.resetSection i hp))⟩
  | .forceIdle _ n => ⟨_, rfl, s.request_keepsCalls (fun _ h => h.forceIdleAct n)⟩
  | .definePost _ p => ⟨_, rfl, s.request_keepsCalls (fun _ h => h.definePostAct p)⟩
  | .removePost _ p => ⟨_, rfl, s.request_keepsCalls (fun _ h => h.removePostAct p)⟩
  | .suspendPost _ p => ⟨_, rfl, s.request_keepsCalls (fun _ h => h.setServiceAct p _)⟩
  | .resumePost _ p => ⟨_, rfl, s.request_keepsCalls (fun _ h => h.setServiceAct p _)⟩
  | .lamp _ p n => ⟨_, rfl, s.request_keepsCalls (fun _ h => h.lampAct p n)⟩
  | .message _ p _ text => ⟨_, rfl, s.request_keepsCalls (fun _ h => h.messageAct p text)⟩
  | .pollNow _ n => ⟨_, rfl, s.request_keepsCalls (fun _ h => h.pollNowAct n)⟩
  | .measure _ n => ⟨_, rfl, s.request_keepsCalls (fun _ h => h.measureAct n)⟩
  | .setChannelOut _ n d => ⟨_, rfl, s.request_keepsCalls (fun _ h => h.setChannelOutAct n d)⟩
  | .setChannelIn _ n d => ⟨_, rfl, s.request_keepsCalls (fun _ h => h.setChannelInAct n d)⟩
  | .answer _ r => ⟨_, rfl, s.request_keepsCalls (fun _ h => h.answerAct r)⟩
  | .pick _ r n => ⟨_, rfl, s.request_keepsCalls (fun _ h => h.pickAct r n)⟩
  | .park _ r => ⟨_, rfl, s.request_keepsCalls (fun _ h => h.parkAct r)⟩
  | .retrieve _ r n => ⟨_, rfl, s.request_keepsCalls (fun _ h => h.retrieveAct r n)⟩
  | .clear _ r => ⟨_, rfl, s.request_keepsCalls (fun _ h => h.clearAct r)⟩
  | .callPost _ p n => ⟨_, rfl, s.request_keepsCalls (fun _ h => h.callPostAct p n)⟩
  | .dismiss _ r => ⟨_, rfl, s.request_keepsCalls (fun _ h => h.dismissAct r)⟩
  | .getEvent _ => ⟨_, rfl, s.request_keepsCalls (fun u h => by
      unfold State.getEventAct
      split <;> exact h.same (.refl u) (fun _ => .refl _))⟩
  | .listCalls _ => ⟨_, rfl, s.request_keepsCalls (fun _ h => h)⟩
  | .readCall _ r => ⟨_, rfl, s.request_keepsCalls (fun _ h => State.onCall_cases h r (fun _ _ => h))⟩
  | .readPost _ p => ⟨_, rfl, s.request_keepsCalls (fun _ h => State.onPost_cases h p (fun _ _ => h))⟩
  | .readSection _ n => ⟨_, rfl, s.request_keepsCalls (fun _ h => State.onSection_cases h n (fun _ => h))⟩
  | .readChannels _ => ⟨_, rfl, s.request_keepsCalls (fun _ h => h)⟩
  | .readUnresolved _ => ⟨_, rfl, s.request_keepsCalls (fun u h => h.same (.refl u) (fun _ => .refl _))⟩
  | .readHistory _ n => ⟨_, rfl, s.request_keepsCalls (fun _ h => by
      unfold State.readHistoryAct
      split <;> exact h)⟩
  | .readMeasurement _ n => ⟨_, rfl, s.request_keepsCalls (fun _ h => State.onSection_cases h n (fun _ => h))⟩
  | .frameReceived bs => ⟨_, rfl, fun _ h => h.ofDirectory (s.receiveBytes_secs bs) (s.receiveBytes_calls bs)⟩
  | .frameByteGap => ⟨_, rfl, fun _ h => h.ofDirectory s.byteGap_secs s.byteGap_calls⟩
  | .discardNoticeReply => ⟨_, rfl, fun _ h => h.ofDirectory s.noticeReply_secs s.noticeReply_calls⟩
  | .replySent => ⟨_, rfl, fun _ h => h.replySent⟩
  | .powerSteady => ⟨_, rfl, fun _ _ => State.deviceReset_switched _⟩
  | .resetInputAsserted => ⟨_, rfl, fun _ h => h.assertReset⟩
  | .resetInputReleased => ⟨_, rfl, fun _ h => h.releaseReset⟩
  | .secondsTick => ⟨_, rfl, fun _ h => h.ofDirectory rfl (.refl s)⟩
  | .ageingStep r => ⟨_, rfl, fun _ h => h.ageingStep r⟩
  | .pollCountdownExpiry i => ⟨_, rfl, fun _ h => h.countdown i⟩
  | .enterSettling i => ⟨_, rfl, fun _ h => h.enterSettling i⟩
  | .shutdownSent i => ⟨_, rfl, fun _ h => h.shutdownDone i⟩
  | .settleTimerExpiry i off => ⟨_, rfl, fun _ h => h.settleEnds i off⟩
  | .offHookDetected i => ⟨_, rfl, fun _ h => h.offHook i⟩
  | .powerUpEnd i => ⟨_, rfl, fun _ h => h.powerUpEnds i⟩
  | .announceEnd i => ⟨_, rfl, fun _ h => h.announceEnds i⟩
  | .leadWindowEnd i => ⟨_, rfl, fun _ h => h.leadEnds i⟩
  | .transactionBurstSent i => ⟨_, rfl, fun _ h => h.burstSent i⟩
  | .replyWindowExpiry i => ⟨_, rfl, fun _ h => h.windowEnds i⟩
  | .postBurstStart i w => ⟨_, rfl, fun _ h => h.postBurstStarts i w⟩
  | .replyBurstEnd i recs => ⟨_, rfl, fun hp h => h.replyEnds hp i recs⟩
  | .postBurstEnd i recs => ⟨_, rfl, fun hp h => h.postEnds hp i recs⟩
  | .answerBurstSent i => ⟨_, rfl, fun _ h => h.answerSent i⟩
  | .carrierAppears i => ⟨_, rfl, fun _ h => h.carrierUp i⟩
  | .carrierDrops i => ⟨_, rfl, fun _ h => h.carrierDown i⟩
  | .stuckLimit i => ⟨_, rfl, fun _ h => h.stuckLimit i⟩
  | .spaceAppears i => ⟨_, rfl, fun _ h => h.spaceUp i⟩
  | .breakTime i => ⟨_, rfl, fun _ h => h.breakTime i⟩
  | .spaceEnds i => ⟨_, rfl, fun _ h => h.spaceDown i⟩
  | .settleQuiet i => ⟨_, rfl, fun _ h => h.settleQuiet i⟩
  | .endMarkObserved i => ⟨_, rfl, fun _ h => h.endMark i⟩
  | .sampleTaken i n => ⟨_, rfl, fun _ h => h.takeSample i n⟩
  | .offerTimeout r => ⟨_, rfl, fun _ h => h.offerExpires r⟩
  | .ringTimeout r => ⟨_, rfl, fun _ h => h.ringExpires r⟩
  | .readyLost ch => ⟨_, rfl, fun _ h => h.readyFalls ch⟩
  | .readyRegained ch => ⟨_, rfl, fun _ h => h.readyRises ch⟩
  | .byteReceived b => ⟨_, rfl, fun _ h => h.ofDirectory (s.receiveByte_secs b) (s.receiveByte_calls b)⟩

/-- Settles O22, command by command: the laws of calls said call by call, and each operation of the call manager as one call that
moves, leaves or joins. -/
theorem stepKeepsTheCallLaw : Obligations.StepKeepsTheCallLaw := by
  unfold Obligations.StepKeepsTheCallLaw
  intro s t hsetup hlaw h
  obtain ⟨hpower, hswitched⟩ := s.callLaw_iff.1 hlaw
  rw [State.callLaw_iff]
  obtain rfl | ⟨c, q, hc⟩ := step_cases h
  · exact ⟨hsetup, hpower, hswitched.ofDirectory rfl (.refl s)⟩
  · obtain ⟨u, hu, hkeeps⟩ := exec_keepsCalls c { s with pending := q }
    cases hu.symm.trans hc
    exact ⟨(exec_steps_of_next hc).setup hsetup, exec_powerLaw hc hsetup hpower,
      hkeeps hpower (hswitched.ofDirectory rfl (.refl s))⟩

end Sys2Proof.Machine
end

section
/-! SUPPORT. Every request as one act on the state that has taken it, and that each act is sound: what a request that is passed over,
refused or accepted does, with the two obligations that say it for all of them. -/

-- One theorem after another: elaborated side by side, they ask for more thread stacks than the check has memory for.
set_option Elab.async false

namespace Sys2Proof.Machine

/-- The act of a request at its owning block; of a command that is no request, none. -/
def requestAct : Instr → State → Answered
  | .identify _ => State.identifyAct
  | .reset _ => State.resetAct
  | .start _ => State.startAct
  | .setGlobals _ g => State.setGlobalsAct g
  | .defineSection _ n d => State.defineSectionAct n d
  | .setSectionTiming _ n t => State.setTimingAct n t
  | .sectionServiceIn _ n d f => State.serviceInAct n d f
  | .sectionServiceOut _ n d f => State.serviceOutAct n d f
  | .sectionReset _ n => State.sectionResetAct n
  | .forceIdle _ n => State.forceIdleAct n
  | .definePost _ p => State.definePostAct p
  | .removePost _ p => State.removePostAct p
  | .suspendPost _ p => State.setServiceAct p .suspended
  | .resumePost _ p => State.setServiceAct p .inService
  | .lamp _ p pat => State.lampAct p pat
  | .message _ p _ text => State.messageAct p text
  | .pollNow _ n => State.pollNowAct n
  | .measure _ n => State.measureAct n
  | .setChannelOut _ c d => State.setChannelOutAct c d
  | .setChannelIn _ c d => State.setChannelInAct c d
  | .answer _ r => State.answerAct r
  | .pick _ r c => State.pickAct r c
  | .park _ r => State.parkAct r
  | .retrieve _ r c => State.retrieveAct r c
  | .clear _ r => State.clearAct r
  | .callPost _ p c => State.callPostAct p c
  | .dismiss _ r => State.dismissAct r
  | .getEvent _ => State.getEventAct
  | .listCalls _ => State.listCallsAct
  | .readCall _ r => State.readCallAct r
  | .readPost _ p => State.readPostAct p
  | .readSection _ n => State.readSectionAct n
  | .readChannels _ => State.readChannelsAct
  | .readUnresolved _ => State.readUnresolvedAct
  | .readHistory _ n => State.readHistoryAct n
  | .readMeasurement _ n => State.readMeasurementAct n
  | _ => fun s => s.refuse .unknownKind

/-- A request command is its form, handled with its act (R189). -/
theorem exec_eq_request {c : Instr} {f : RequestForm} (h : requestOf c = some f) (s : State) :
    exec c s = .next (s.request f.kind f.hdr f.body f.want (requestAct c)) := by
  cases c <;> cases h <;> rfl

/-- An accepted request is its act on the state that has taken it, with the reply framed from the outcome (R189). -/
theorem exec_of_accepts {c : Instr} {f : RequestForm} {s : State} (h : requestOf c = some f) (ha : s.Accepts f) :
    exec c s = .next ((requestAct c (s.taking f)).1.replied f (requestAct c (s.taking f)).2.1 (requestAct c (s.taking f)).2.2) := by
  rw [exec_eq_request h, State.request_accepts _ ha]

/-- An accepted request whose act is known. -/
theorem exec_of_act {c : Instr} {f : RequestForm} {s t : State} {st : Status} {b : ReplyBody} (h : requestOf c = some f)
    (ha : s.Accepts f) (hact : requestAct c (s.taking f) = (t, st, b)) : exec c s = .next (t.replied f st b) := by
  rw [exec_of_accepts h ha, hact]

/-! ## A refusal changes nothing -/

theorem State.startAct_sound (s : State) : Answered.Sound s s.startAct := by
  unfold State.startAct
  split
  · exact s.refuse_sound _
  · exact Answered.sound_ok s _ _

theorem State.setGlobalsAct_sound (s : State) (g : RawGlobals) : Answered.Sound s (s.setGlobalsAct g) := by
  unfold State.setGlobalsAct
  split
  · exact Answered.sound_okStatus s _ _ _
  · exact s.refuse_sound _

theorem State.defineSectionAct_sound (s : State) (n : Nat) (d : RawSection) : Answered.Sound s (s.defineSectionAct n d) := by
  unfold State.defineSectionAct
  split
  · split
    · exact s.refuse_sound _
    · split
      · exact s.refuse_sound _
      · exact Answered.sound_okStatus s _ _ _
  · exact s.refuse_sound _

theorem State.setTimingAct_sound (s : State) (n : Nat) (t : RawTiming) : Answered.Sound s (s.setTimingAct n t) :=
  s.onSection_sound n _ (fun i => by
    split <;> exact Answered.sound_okStatus s _ _ _)

theorem State.serviceInAct_sound (s : State) (n d f : Nat) : Answered.Sound s (s.serviceInAct n d f) := by
  unfold State.serviceInAct
  split
  · exact s.onSection_sound n _ (fun _ => Answered.sound_ok s _ _)
  · exact s.refuse_sound _

theorem State.serviceOutAct_sound (s : State) (n d f : Nat) : Answered.Sound s (s.serviceOutAct n d f) := by
  unfold State.serviceOutAct
  split
  · refine s.onSection_sound n _ (fun i => ?_)
    split
    · exact Answered.sound_same s _ _
    · split
      · exact Answered.sound_ok s _ _
      · exact Answered.sound_same s _ _
  · exact s.refuse_sound _

theorem State.pollNowAct_sound (s : State) (n : Nat) : Answered.Sound s (s.pollNowAct n) :=
  s.onSectionInService_sound n _ (fun i => by
    split
    · split
      · exact Answered.sound_same s _ _
      · exact Answered.sound_ok s _ _
    · exact Answered.sound_ok s _ _
    · exact Answered.sound_ok s _ _
    · exact Answered.sound_ok s _ _
    · exact s.refuse_sound _)

theorem State.measureAct_sound (s : State) (n : Nat) : Answered.Sound s (s.measureAct n) :=
  s.onSectionInService_sound n _ (fun i => by
    split
    · exact s.refuse_sound _
    · exact Answered.sound_ok s _ _)

theorem State.defineChecked_sound (s : State) (e : PostEntry) : Answered.Sound s (s.defineChecked e) := by
  unfold State.defineChecked
  split
  · exact s.refuse_sound _
  · split
    · split
      · exact s.refuse_sound _
      · split
        · exact s.refuse_sound _
        · exact Answered.sound_ok s _ _
    · split
      · exact s.refuse_sound _
      · split
        · exact Answered.sound_ok s _ _
        · exact s.refuse_sound _

theorem State.definePostAct_sound (s : State) (p : RawPost) : Answered.Sound s (s.definePostAct p) := by
  unfold State.definePostAct
  split
  · split
    · exact s.defineChecked_sound _
    · exact s.refuse_sound _
  · exact s.refuse_sound _

theorem State.removePostAct_sound (s : State) (p : Nat) : Answered.Sound s (s.removePostAct p) :=
  s.onPost_sound p _ (fun c e => by
    split
    · exact s.refuse_sound _
    · exact Answered.sound_ok s _ _)

theorem State.lampAct_sound (s : State) (p n : Nat) : Answered.Sound s (s.lampAct p n) := by
  unfold State.lampAct
  split
  · refine s.onPost_sound p _ (fun c e => ?_)
    split
    · exact s.refuse_sound _
    · split
      · exact s.refuse_sound _
      · exact Answered.sound_ok s _ _
  · exact s.refuse_sound _

theorem State.messageAct_sound (s : State) (p : Nat) (text : List Byte) : Answered.Sound s (s.messageAct p text) :=
  s.onPost_sound p _ (fun c e => by
    split
    · exact s.refuse_sound _
    · split
      · exact s.refuse_sound _
      · exact Answered.sound_okStatus s _ _ _)

theorem State.refuseDirection_sound (s : State) (n : Nat) : Answered.Sound s (s.refuseDirection n) := by
  unfold State.refuseDirection
  split
  · exact Answered.sound_same s _ _
  · exact s.refuse_sound _

theorem State.setChannelOutAct_sound (s : State) (n d : Nat) : Answered.Sound s (s.setChannelOutAct n d) := by
  unfold State.setChannelOutAct
  split
  · dsimp only
    split
    · exact Answered.sound_ok s _ _
    · exact Answered.sound_ok s _ _
    all_goals exact Answered.sound_same s _ _
  · exact s.refuseDirection_sound n

theorem State.setChannelInAct_sound (s : State) (n d : Nat) : Answered.Sound s (s.setChannelInAct n d) := by
  unfold State.setChannelInAct
  split
  · dsimp only
    split
    · exact Answered.sound_ok s _ _
    · exact Answered.sound_same s _ _
  · exact s.refuseDirection_sound n

theorem State.answerAct_sound (s : State) (r : Nat) : Answered.Sound s (s.answerAct r) :=
  s.onCall_sound r _ (fun c => by
    split
    · exact Answered.sound_ok s _ _
    · exact s.refuseCall_sound _ c)

theorem State.pickAct_sound (s : State) (r n : Nat) : Answered.Sound s (s.pickAct r n) := by
  unfold State.pickAct
  split
  · refine s.onCall_sound r _ (fun c => ?_)
    split
    · split
      · split
        · exact Answered.sound_ok s _ _
        · exact s.refuseCall_sound _ c
      · exact s.refuseCall_sound _ c
    · exact s.refuseCall_sound _ c
  · exact s.refuseNamed_sound _ r

theorem State.parkAct_sound (s : State) (r : Nat) : Answered.Sound s (s.parkAct r) :=
  s.onCall_sound r _ (fun c => by
    split
    · exact Answered.sound_ok s _ _
    · exact s.refuseCall_sound _ c)

theorem State.retrieveAct_sound (s : State) (r n : Nat) : Answered.Sound s (s.retrieveAct r n) := by
  unfold State.retrieveAct
  split
  · refine s.onCall_sound r _ (fun c => ?_)
    split
    · split
      · exact Answered.sound_ok s _ _
      · exact s.refuseCall_sound _ c
    · exact s.refuseCall_sound _ c
  · exact s.refuseNamed_sound _ r

theorem State.clearAct_sound (s : State) (r : Nat) : Answered.Sound s (s.clearAct r) :=
  s.onCall_sound r _ (fun c => by
    split
    · exact s.refuseCall_sound _ c
    · exact Answered.sound_ok s _ _)

theorem State.dismissAct_sound (s : State) (r : Nat) : Answered.Sound s (s.dismissAct r) :=
  s.onCall_sound r _ (fun c => by
    split
    · exact Answered.sound_ok s _ _
    · exact s.refuseCall_sound _ c)

theorem State.callEntry_sound (s : State) (e : PostEntry) (named : Option ChanId) : Answered.Sound s (s.callEntry e named) := by
  unfold State.callEntry
  split
  · split
    · split
      · exact s.refuse_sound _
      · split
        · exact Answered.sound_ok s _ _
        · exact s.refuse_sound _
    · exact Answered.sound_same s _ _
  · split
    · exact s.refuse_sound _
    · split
      · split
        · exact Answered.sound_ok s _ _
        · split
          · exact Answered.sound_ok s _ _
          · exact s.refuse_sound _
      · exact s.refuse_sound _

theorem State.callPostAct_sound (s : State) (p n : Nat) : Answered.Sound s (s.callPostAct p n) := by
  unfold State.callPostAct
  split
  · refine s.onPost_sound p _ (fun c e => ?_)
    split
    · exact s.refuse_sound _
    · exact s.callEntry_sound e _
  · exact s.refuse_sound _

theorem State.getEventAct_sound (s : State) : Answered.Sound s s.getEventAct := by
  unfold State.getEventAct
  split
  · exact Answered.sound_ok s _ _
  · exact Answered.sound_same s _ _

theorem State.readHistoryAct_sound (s : State) (n : Nat) : Answered.Sound s (s.readHistoryAct n) := by
  unfold State.readHistoryAct
  split
  · exact Answered.sound_same s _ _
  · exact s.refuse_sound _

/-- Every owner's answer is sound. -/
theorem requestAct_sound (c : Instr) (s : State) : Answered.Sound s (requestAct c s) :=
  match c with
  | .identify _ | .reset _ | .listCalls _ | .readChannels _ => Answered.sound_same s _ _
  | .start _ => s.startAct_sound
  | .setGlobals _ g => s.setGlobalsAct_sound g
  | .defineSection _ n d => s.defineSectionAct_sound n d
  | .setSectionTiming _ n t => s.setTimingAct_sound n t
  | .sectionServiceIn _ n d f => s.serviceInAct_sound n d f
  | .sectionServiceOut _ n d f => s.serviceOutAct_sound n d f
  | .sectionReset _ n => s.onSectionInService_sound n _ (fun _ => Answered.sound_ok s _ _)
  | .forceIdle _ n => s.onSectionInService_sound n _ (fun _ => Answered.sound_ok s _ _)
  | .definePost _ p => s.definePostAct_sound p
  | .removePost _ p => s.removePostAct_sound p
  | .suspendPost _ p | .resumePost _ p => s.onPost_sound p _ (fun _ _ => Answered.sound_ok s _ _)
  | .lamp _ p n => s.lampAct_sound p n
  | .message _ p _ text => s.messageAct_sound p text
  | .pollNow _ n => s.pollNowAct_sound n
  | .measure _ n => s.measureAct_sound n
  | .setChannelOut _ n d => s.setChannelOutAct_sound n d
  | .setChannelIn _ n d => s.setChannelInAct_sound n d
  | .answer _ r => s.answerAct_sound r
  | .pick _ r n => s.pickAct_sound r n
  | .park _ r => s.parkAct_sound r
  | .retrieve _ r n => s.retrieveAct_sound r n
  | .clear _ r => s.clearAct_sound r
  | .callPost _ p n => s.callPostAct_sound p n
  | .dismiss _ r => s.dismissAct_sound r
  | .getEvent _ => s.getEventAct_sound
  | .readCall _ r => s.onCall_sound r _ (fun _ => Answered.sound_same s _ _)
  | .readPost _ p => s.onPost_sound p _ (fun _ _ => Answered.sound_same s _ _)
  | .readSection _ n | .readMeasurement _ n => s.onSection_sound n _ (fun _ => Answered.sound_same s _ _)
  | .readUnresolved _ => Answered.sound_ok s _ _
  | .readHistory _ n => s.readHistoryAct_sound n
  | .frameReceived _ | .frameByteGap | .discardNoticeReply | .replySent | .powerSteady | .resetInputAsserted
  | .resetInputReleased | .secondsTick | .ageingStep _ | .pollCountdownExpiry _ | .enterSettling _ | .shutdownSent _
  | .settleTimerExpiry _ _ | .offHookDetected _ | .powerUpEnd _ | .announceEnd _ | .leadWindowEnd _ | .transactionBurstSent _
  | .replyWindowExpiry _ | .postBurstStart _ _ | .replyBurstEnd _ _ | .postBurstEnd _ _ | .answerBurstSent _
  | .carrierAppears _ | .carrierDrops _ | .stuckLimit _ | .spaceAppears _ | .breakTime _ | .spaceEnds _ | .settleQuiet _
  | .endMarkObserved _ | .sampleTaken _ _ | .offerTimeout _ | .ringTimeout _ | .readyLost _ | .readyRegained _
  | .byteReceived _ => s.refuse_sound _

end Sys2Proof.Machine

open Sys2Proof Sys2Proof.Machine

/-- Settles O1: a step with a command at the front is that command's effect, by the definition of a step. -/
theorem stepTakesTheFrontCommand : Obligations.StepTakesTheFrontCommand := fun _ _ _ => rfl

/-- Settles O3: a request command is its form handled in R189's order, whatever its act. -/
theorem requestsAreCheckedForLengthThenMode : Obligations.RequestsAreCheckedForLengthThenMode := by
  intro c f s h
  rw [exec_eq_request h]
  refine ⟨fun ht => ?_, fun ht => ⟨fun hl => ?_, fun hl hm => ?_⟩⟩
  · rw [State.request_passed _ ht]
  · rw [State.request_badLength _ ht hl]
  · rw [State.request_wrongMode _ ht hl hm]

/-- Settles O4: every owner's answer is sound. -/
theorem refusedRequestChangesNothing : Obligations.RefusedRequestChangesNothing := by
  intro c f s h ht
  obtain ⟨t, st, b, hr, hsound⟩ := State.request_refused (requestAct c) ht (requestAct_sound c)
  exact ⟨t, st, b, by rw [exec_eq_request h, hr], hsound⟩
end

section
/-! SUPPORT. What a request that names a section, a post or a call does by what it names, and the order that `sortBy` gives a list;
the requests that only read. -/

-- One theorem after another: elaborated side by side, they ask for more thread stacks than the check has memory for.
set_option Elab.async false

namespace Sys2Proof.Machine

/-! ## What a request names -/

theorem State.onSection_found (s : State) (i : SectionId) (act : SectionId → Answered) (h : (s.sec i).defn ≠ none) :
    s.onSection i.val act = act i := by
  rw [State.onSection, sectionOf_val]
  exact if_pos (Option.isSome_iff_ne_none.2 h)

theorem State.onSection_undefined (s : State) (i : SectionId) (act : SectionId → Answered) (h : (s.sec i).defn = none) :
    s.onSection i.val act = s.refuse .noSuchSection := by
  rw [State.onSection, sectionOf_val]
  exact if_neg (by simp [h])

theorem State.onSection_range (s : State) {n : Nat} (act : SectionId → Answered) (h : 8 ≤ n) :
    s.onSection n act = s.refuse .badField := by
  rw [State.onSection, sectionOf_eq_none h]

theorem State.onSectionInService_off (s : State) (i : SectionId) (act : SectionId → Answered) (h : (s.sec i).defn ≠ none)
    (hoff : (s.sec i).power = .off) : s.onSectionInService i.val act = s.refuse .sectionOff := by
  rw [State.onSectionInService, s.onSection_found i _ h, if_pos hoff]

theorem State.onSectionInService_found (s : State) (i : SectionId) (act : SectionId → Answered) (h : (s.sec i).defn ≠ none)
    (hon : (s.sec i).power ≠ .off) : s.onSectionInService i.val act = act i := by
  rw [State.onSectionInService, s.onSection_found i _ h, if_neg hon]

theorem State.onPost_range (s : State) {p : Nat} (act : Fin 2 → PostEntry → Answered) (h : p = 0 ∨ 59999 < p) :
    s.onPost p act = s.refuse .badField := by
  rw [State.onPost, if_neg (by rw [isPostNumber_iff]; omega)]

theorem State.onPost_missing (s : State) {p : Nat} (act : Fin 2 → PostEntry → Answered) (h1 : 1 ≤ p) (h2 : p ≤ 59999)
    (h : s.lookup p = none) : s.onPost p act = s.refuse .noSuchPost := by
  rw [State.onPost, if_pos ((isPostNumber_iff p).2 ⟨h1, h2⟩), h]

theorem State.onPost_found (s : State) {p : Nat} (act : Fin 2 → PostEntry → Answered) (h1 : 1 ≤ p) (h2 : p ≤ 59999)
    {c : Fin 2} {e : PostEntry} (h : s.lookup p = some (c, e)) : s.onPost p act = act c e := by
  rw [State.onPost, if_pos ((isPostNumber_iff p).2 ⟨h1, h2⟩), h]

theorem isRef_iff (r : Nat) : isRef r = true ↔ r ≠ 0 := by
  simp [isRef, Nat.one_le_iff_ne_zero]

theorem State.onCall_zero (s : State) {r : Nat} (act : Call → Answered) (h : r = 0) : s.onCall r act = s.refuse .badField := by
  rw [State.onCall, if_neg (by simp [isRef_iff, h])]

theorem State.onCall_missing (s : State) {r : Nat} (act : Call → Answered) (h : r ≠ 0) (hf : s.findCall r = none) :
    s.onCall r act = s.refuse .noSuchCall := by
  rw [State.onCall, if_pos ((isRef_iff r).2 h), hf]

theorem State.onCall_found (s : State) {r : Nat} (act : Call → Answered) (h : r ≠ 0) {c : Call} (hf : s.findCall r = some c) :
    s.onCall r act = act c := by
  rw [State.onCall, if_pos ((isRef_iff r).2 h), hf]

/-! ## Sorting -/

/-- A list sorted by a total order is in that order. -/
theorem sortBy_pairwise {α : Type} {le : α → α → Bool} {R : α → α → Prop} (hle : ∀ a b, le a b = true → R a b)
    (htotal : ∀ a b, le a b = false → R b a) (htrans : ∀ a b c, R a b → R b c → R a c) (l : List α) :
    (sortBy le l).Pairwise R := by
  have insert : ∀ (x : α) (l : List α), l.Pairwise R → (insertBy le x l).Pairwise R := by
    intro x l h
    induction l with
    | nil => simp [insertBy]
    | cons y ys ih =>
      obtain ⟨hy, hys⟩ := List.pairwise_cons.1 h
      unfold insertBy
      split
      · next hxy =>
        refine List.pairwise_cons.2 ⟨fun z hz => ?_, h⟩
        rcases List.mem_cons.1 hz with rfl | hz
        · exact hle _ _ hxy
        · exact htrans _ _ _ (hle _ _ hxy) (hy z hz)
      · next hxy =>
        refine List.pairwise_cons.2 ⟨fun z hz => ?_, ih hys⟩
        rcases mem_insertBy.1 hz with rfl | hz
        · exact htotal _ _ (by simpa using hxy)
        · exact hy z hz
  induction l with
  | nil => exact .nil
  | cons x xs ih => exact insert x _ ih

/-- Calls in the order of R145 and R152: earlier arrival first, lower reference first among equals. -/
theorem sortBy_before_pairwise (l : List Call) : (sortBy Call.before l).Pairwise
    (fun a b => a.arrival < b.arrival ∨ (a.arrival = b.arrival ∧ a.ref ≤ b.ref)) :=
  sortBy_pairwise (fun a b h => by simpa [Call.before] using h)
    (fun a b h => by simp [Call.before] at h; omega) (fun a b c h1 h2 => by omega) l

theorem mem_allSections (i : SectionId) : i ∈ allSections := by
  revert i
  decide

theorem State.mem_definedSections (s : State) (i : SectionId) : i ∈ s.definedSections ↔ (s.sec i).defn.isSome = true := by
  simp [State.definedSections, mem_allSections]

theorem State.definedSections_pairwise (s : State) : s.definedSections.Pairwise (· < ·) :=
  List.Pairwise.filter _ (by decide)

end Sys2Proof.Machine
end

section
/-! SUPPORT. The requests that read the tables and the records. -/

-- One theorem after another: elaborated side by side, they ask for more thread stacks than the check has memory for.
set_option Elab.async false

namespace Sys2Proof.Machine

theorem vector_toList_getElem? {α : Type} {n : Nat} (v : Vector α n) (i : Fin n) : v.toList[i.val]? = some (v.get i) := by
  simp [Vector.get]

theorem CallState.code_eq (st : CallState) : st.code = match st with
    | .queued => 0 | .offered => 1 | .connected => 2 | .parked => 3 | .ringing => 4 | .abandoned => 5 := by
  cases st <;> rfl

/-- The packed entry byte by byte (R189; log 49). -/
theorem CallBrief.bytes_eq (b : CallBrief) : b.bytes =
    [BitVec.ofNat 8 (b.ref / 256), BitVec.ofNat 8 (b.ref % 256), BitVec.ofNat 8 (b.post / 256), BitVec.ofNat 8 (b.post % 256),
     BitVec.ofNat 8 (16 * b.sec.val + b.addr.val),
     BitVec.ofNat 8 (16 * (match b.state with
       | .queued => 0 | .offered => 1 | .connected => 2 | .parked => 3 | .ringing => 4 | .abandoned => 5) +
       (match b.channel with | some c => c.val | none => 15))] := by
  have low : ∀ n : Nat, BitVec.ofNat 8 n = BitVec.ofNat 8 (n % 256) := fun n => BitVec.eq_of_toNat_eq (by simp)
  obtain ⟨ref, st, sec, addr, post, ch⟩ := b
  simp only [CallBrief.bytes, byte2, byte1, CallState.code_eq, List.cons_append, List.nil_append]
  rw [low ref, low post]
  cases ch <;> rfl

/-- A call is eligible when its path is empty or its own and its section is ACTIVE (R162). -/
theorem State.eligible_eq (s : State) {c : Call} (h : c.state = .queued) : s.eligible c =
    decide ((s.holder c.sec = none ∨ s.holder c.sec = some c.ref) ∧ (s.sec c.sec).power = .active) := by
  rw [Bool.eq_iff_iff]
  simp [State.eligible, h]

/-- The progress that READ MEASUREMENT tells, by what runs and what waits (R127). -/
theorem State.measureProgress_spec (s : State) (i : SectionId) :
    (s.measureProgress i = .idle ↔ (s.ltuOf i).running = none ∧ (s.sec i).slot = none) ∧
    (∀ r, (s.ltuOf i).running = some r → s.measureProgress i = .running r.trigger r.samples) ∧
    (∀ g, (s.ltuOf i).running = none → (s.sec i).slot = some g →
      s.measureProgress i = .pending g (decide (g = .host ∧ s.holder i ≠ none))) := by
  unfold State.measureProgress
  refine ⟨?_, fun r hr => by rw [hr], fun g hr hg => ?_⟩
  · split <;> simp [*]
  · rw [hr, hg]
    cases g <;> cases s.holder i <;> rfl

/-- The view of a section that is defined (R197). -/
theorem State.sectionView_eq (s : State) (i : SectionId) {d : SectionDef} (hd : (s.sec i).defn = some d) : s.sectionView i =
    { defn := d, timing := (s.sec i).timing.getD Timing.default, pendingTiming := (s.sec i).pendingTiming,
      power := (s.sec i).power, reasons := (s.sec i).reasons, roundDue := (s.sec i).roundDue,
      line := (s.sec i).line, episode := (s.sec i).episode,
      inFlight := (s.sec i).inFlight.map (fun q => ⟨q.kind.name, q.addr, q.origin, q.attempts, q.losses, q.progress⟩),
      hostCount := (s.sec i).hostCount, queueLength := (s.sec i).queue.length,
      queue := (s.sec i).queue.map (fun q => ⟨q.kind.name, q.addr, q.origin, q.losses⟩), slot := (s.sec i).slot,
      measuring := (s.ltuOf i).running.isSome, anchor := (s.sec i).anchor, due := (s.sec i).due,
      round := (s.sec i).round.map (fun r => ⟨r.cursor,
        match (s.sec i).inFlight with
        | some q => if q.kind = .poll then some q.addr else r.kept.map KeptPoll.addr
        | none => r.kept.map KeptPoll.addr,
        r.answered, r.missed, r.skipped⟩),
      overrun := (s.sec i).overrun, bracket := (s.sec i).bracket } := by
  have hround : (s.sec i).roundView = (s.sec i).round.map (fun r => ⟨r.cursor,
        match (s.sec i).inFlight with
        | some q => if q.kind = .poll then some q.addr else r.kept.map KeptPoll.addr
        | none => r.kept.map KeptPoll.addr,
        r.answered, r.missed, r.skipped⟩) := by
    unfold SectionCtl.roundView SectionCtl.pollInFlight
    cases (s.sec i).round with
    | none => rfl
    | some r =>
      cases (s.sec i).inFlight with
      | none => rfl
      | some q => by_cases hq : q.kind = .poll <;> simp [hq]
  simp only [State.sectionView, SectionCtl.defnD, hd, hround]
  rfl

end Sys2Proof.Machine

open Sys2Proof Sys2Proof.Machine

/-- Settles O5: each read is its act on the state that has taken it; the order of LIST CALLS is the sort's, and the length of its
body is six bytes for each entry. -/
theorem tableReadsAnswerAndChangeNothing : Obligations.TableReadsAnswerAndChangeNothing := by
  intro h s
  refine ⟨fun ha => ⟨s.definedSections, s.mem_definedSections, s.definedSections_pairwise, exec_of_act rfl ha rfl⟩,
    fun ha => ⟨sortBy Call.before s.calls, sortBy_perm _ _, sortBy_before_pairwise _, exec_of_act rfl ha rfl⟩,
    CallBrief.bytes_eq, fun n l hn hl => ?_, fun ha => ⟨s.channels.toList, s.holders.toList, s.joins.toList, ?_, ?_, ?_,
    exec_of_act rfl ha rfl⟩, fun n ha => ⟨fun hn => ?_, fun hn => ?_⟩⟩
  · have hlen : (callListBody n l).length = 2 + 6 * n := by rw [callListBody_length, hn]
    exact ⟨hlen, by omega, rfl, rfl⟩
  · exact ⟨by simp, fun c => vector_toList_getElem? s.channels c⟩
  · exact ⟨by simp, fun i => vector_toList_getElem? s.holders i⟩
  · exact ⟨by simp, fun i => vector_toList_getElem? s.joins i⟩
  · exact exec_of_act rfl ha (if_pos hn)
  · exact exec_of_act rfl ha (if_neg (Nat.not_lt.2 hn))

/-- Settles O6: each read finds what it names, or is refused by the first check that fails. -/
theorem recordReadsAnswerAndChangeNothing : Obligations.RecordReadsAnswerAndChangeNothing := by
  intro h n s
  refine ⟨fun ha => ⟨fun h0 => ?_, fun h0 hf => ?_, fun h0 c hf => ?_⟩, fun ha => ⟨fun hr => ?_, fun h1 h2 hl => ?_,
    fun h1 h2 c e hl => ?_⟩, fun ha => ⟨fun h8 => ?_, fun i hi => ⟨fun hd => ?_, fun d hd => ?_⟩⟩,
    fun ha => ⟨fun h8 => ?_, fun i hi => ⟨fun hd => ?_, fun hd => ?_⟩⟩⟩
  · exact exec_of_act rfl ha (State.onCall_zero _ _ h0)
  · exact exec_of_act rfl ha (State.onCall_missing _ _ h0 hf)
  · refine exec_of_act rfl ha ((State.onCall_found (s.taking ⟨.readCall, h, byte2 n, 2⟩) _ h0 hf).trans ?_)
    refine congrArg _ (congrArg _ (congrArg (fun o => ReplyBody.call c _ o _) ?_))
    by_cases hq : c.state = .queued
    · rw [if_pos hq, if_pos hq, State.eligible_eq _ hq]
      rfl
    · rw [if_neg hq, if_neg hq]
  · exact exec_of_act rfl ha (State.onPost_range _ _ hr)
  · exact exec_of_act rfl ha (State.onPost_missing _ _ h1 h2 hl)
  · exact exec_of_act rfl ha (State.onPost_found _ _ h1 h2 hl)
  · exact exec_of_act rfl ha (State.onSection_range _ _ h8)
  · subst hi
    exact exec_of_act rfl ha (State.onSection_undefined _ i _ hd)
  · subst hi
    refine exec_of_act rfl ha ((State.onSection_found _ i _ (by simp [hd])).trans ?_)
    rw [State.sectionView_eq (s.taking _) i (d := d) hd]
    rfl
  · exact exec_of_act rfl ha (State.onSection_range _ _ h8)
  · subst hi
    exact exec_of_act rfl ha (State.onSection_undefined _ i _ hd)
  · subst hi
    obtain ⟨hidle, hrunning, hpending⟩ := s.measureProgress_spec i
    exact ⟨s.measureProgress i, hidle, hrunning, hpending, exec_of_act rfl ha (State.onSection_found _ i _ hd)⟩

/-- Settles O9: the act empties the record and answers what it held. -/
theorem readUnresolvedEmptiesTheRecord : Obligations.ReadUnresolvedEmptiesTheRecord :=
  fun _ _ ha => exec_of_act rfl ha rfl
end

section
/-! SUPPORT. The receiver, the request buffer and the replies. -/

-- One theorem after another: elaborated side by side, they ask for more thread stacks than the check has memory for.
set_option Elab.async false

namespace Sys2Proof.Machine

/-! ## The receiver -/

/-- An entry joins a buffer with room, and leaves no trace in a full one (R188). -/
theorem State.joinBuffer_eq (s : State) (e : BufEntry) :
    s.joinBuffer e = { s with buffer := if s.buffer.length < 2 then s.buffer ++ [e] else s.buffer } := by
  show (if s.buffer.length < 2 then { s with buffer := s.buffer ++ [e] } else s) = _
  by_cases h : s.buffer.length < 2
  · rw [if_pos h, if_pos h]
  · rw [if_neg h, if_neg h]

/-- A byte that neither ends the frame nor shows a length above 250 is kept, and the gap starts afresh (R187). -/
theorem State.frameByte_kept (s : State) {got : List Byte} {len : Byte} (hlen : got.head? = some len) (hmax : len.toNat ≤ 250)
    (h : got.length ≠ len.toNat + 5) : s.frameByte got = { s with rx := .inFrame got ⟨s.nowMs, 100⟩ } := by
  cases got with
  | nil => cases hlen
  | cons b bs =>
    cases hlen
    exact (if_neg (Nat.not_lt.2 hmax)).trans (if_neg h)

/-- The last CRC byte completes the frame (R187). -/
theorem State.frameByte_last (s : State) {got : List Byte} {len : Byte} (hlen : got.head? = some len) (hmax : len.toNat ≤ 250)
    (h : got.length = len.toNat + 5) : s.frameByte got = { s with rx := .hunting }.joinBuffer (frameEntry got) := by
  cases got with
  | nil => cases hlen
  | cons b bs =>
    cases hlen
    exact (if_neg (Nat.not_lt.2 hmax)).trans (if_pos h)

/-- A length above 250 ends the frame at once (R187). -/
theorem State.frameByte_long (s : State) {got : List Byte} {len : Byte} (hlen : got.head? = some len) (hmax : 250 < len.toNat) :
    s.frameByte got = { s with rx := .hunting }.joinBuffer (.notice .frameBad none) := by
  cases got with
  | nil => cases hlen
  | cons b bs =>
    cases hlen
    exact if_pos hmax

theorem State.receiveByte_silent {s : State} (b : Byte) (h : s.silent = true) : s.receiveByte b = s := if_pos h

theorem State.receiveByte_hunting {s : State} (b : Byte) (h : s.silent = false) (hrx : s.rx = .hunting) :
    s.receiveByte b = if b = 0x5A#8 then { s with rx := .inFrame [] ⟨s.nowMs, 100⟩ } else s := by
  rw [State.receiveByte, if_neg (by simp [h]), hrx]
  rfl

theorem State.receiveByte_inFrame {s : State} {got : List Byte} {gap : Timer} (b : Byte) (h : s.silent = false)
    (hrx : s.rx = .inFrame got gap) : s.receiveByte b = s.frameByte (got ++ [b]) := by
  rw [State.receiveByte, if_neg (by simp [h]), hrx]

theorem State.receiveBytes_silent (bs : List Byte) {s : State} (h : s.silent = true) : s.receiveBytes bs = s := by
  induction bs with
  | nil => rfl
  | cons b bs ih => rw [State.receiveBytes, State.receiveByte_silent b h, ih]

/-- The rest of a frame, byte by byte up to its last one (R187). -/
theorem State.receiveBytes_frame (bs : List Byte) {s : State} {got : List Byte} {gap : Timer} {len : Byte} (h : s.silent = false)
    (hrx : s.rx = .inFrame got gap) (hlen : (got ++ bs).head? = some len) (hmax : len.toNat ≤ 250) (hbs : bs ≠ [])
    (hall : (got ++ bs).length = len.toNat + 5) :
    s.receiveBytes bs = { s with rx := .hunting }.joinBuffer (frameEntry (got ++ bs)) := by
  induction bs generalizing s got gap with
  | nil => exact absurd rfl hbs
  | cons b rest ih =>
    have hhead : (got ++ [b]).head? = some len := by cases got <;> exact hlen
    rw [State.receiveBytes, State.receiveByte_inFrame b h hrx]
    by_cases hrest : rest = []
    · subst hrest
      rw [State.receiveBytes, State.frameByte_last s hhead hmax hall]
    · have hshort : (got ++ [b]).length ≠ len.toNat + 5 := by
        have : rest.length ≠ 0 := by simpa using hrest
        simp only [List.length_append, List.length_cons, List.length_nil] at hall ⊢
        omega
      rw [State.frameByte_kept s hhead hmax hshort]
      have happ : got ++ b :: rest = got ++ [b] ++ rest := by simp
      rw [happ] at hlen hall ⊢
      exact ih (s := { s with rx := .inFrame (got ++ [b]) ⟨s.nowMs, 100⟩ }) h rfl hlen hrest hall

/-- A whole frame, its start byte first. -/
theorem exec_frameReceived {s : State} {len : Byte} {bs : List Byte} (h : s.silent = false) (hrx : s.rx = .hunting)
    (hmax : len.toNat ≤ 250) (hall : bs.length = len.toNat + 4) :
    exec (.frameReceived (0x5A#8 :: len :: bs)) s = .next { s with
      rx := .hunting
      buffer := if s.buffer.length < 2 then s.buffer ++ [frameEntry (len :: bs)] else s.buffer } := by
  have hstart : s.receiveByte 0x5A#8 = { s with rx := .inFrame [] ⟨s.nowMs, 100⟩ } := by
    rw [State.receiveByte_hunting _ h hrx, if_pos rfl]
  have hrest := State.receiveBytes_frame (len :: bs) (s := { s with rx := .inFrame [] ⟨s.nowMs, 100⟩ }) (got := []) h rfl rfl hmax
    (by simp) (by simp [hall])
  show Host.Outcome.next (State.receiveBytes (len :: bs) (s.receiveByte 0x5A#8)) = _
  rw [hstart, hrest, State.joinBuffer_eq]
  rfl

/-- A kind byte is a request code when some kind has it (R187). -/
theorem isRequestCode_iff (b : Byte) : isRequestCode b = true ↔ ∃ k : ReqKind, k.code = b.toNat := by
  have hall : ∀ k : ReqKind, k ∈ ReqKind.all := by
    intro k
    cases k <;> decide
  simp [isRequestCode, hall]

/-- A complete frame by its CRC-16 and its kind (R187). -/
theorem frameEntry_eq (len kind tag hi lo : Byte) (body : List Byte) :
    frameEntry (len :: kind :: tag :: (body ++ [hi, lo])) =
      if (hi, lo) = (crc16High (len :: kind :: tag :: body), crc16Low (len :: kind :: tag :: body)) then
        if isRequestCode kind then .request kind tag body else .notice .unknownKind (some tag)
      else .notice .frameBad (some tag) := by
  have hn : (len :: kind :: tag :: (body ++ [hi, lo])).length - 2 = (len :: kind :: tag :: body).length := by simp
  have happ : len :: kind :: tag :: (body ++ [hi, lo]) = (len :: kind :: tag :: body) ++ [hi, lo] := rfl
  unfold frameEntry
  rw [hn, happ, List.take_left, List.drop_left]
  dsimp only
  congr 1
  simp [eq_comm]

/-! ## Replies -/

theorem State.noticeReply_idle {s : State} (h : s.reply ≠ none) : s.noticeReply = s := by
  unfold State.noticeReply
  split
  · exact if_pos (by simp [Option.isSome_iff_ne_none.2 h])
  · rfl
  · rfl

theorem State.noticeReply_notice {s : State} {st : Status} {tag : Option Byte} {rest : List BufEntry}
    (hb : s.buffer = .notice st tag :: rest) (ht : s.headTaken = false) (hs : s.silent = false) (hr : s.reply = none) :
    s.noticeReply = { s with headTaken := true, reply := some ⟨0xFF, tag.getD 0x00#8, st, .errorReply tag.isSome⟩ } := by
  rw [State.noticeReply, hb]
  exact if_neg (by simp [ht, hs, hr])

end Sys2Proof.Machine

open Sys2Proof Sys2Proof.Machine

/-- Settles O10: the frame's bytes are taken one by one up to the last, and its entry is judged by CRC-16 and kind. -/
theorem framesBecomeRequestsOrNotices : Obligations.FramesBecomeRequestsOrNotices := by
  have frame : ∀ (len kind tag hi lo : Byte) (body : List Byte) (s : State), s.silent = false → s.rx = .hunting →
      len.toNat = body.length → body.length ≤ 250 →
      exec (.frameReceived (0x5A#8 :: len :: kind :: tag :: (body ++ [hi, lo]))) s = .next { s with
        buffer := if s.buffer.length < 2 then s.buffer ++ [frameEntry (len :: kind :: tag :: (body ++ [hi, lo]))]
          else s.buffer } := by
    intro len kind tag hi lo body s hs hrx hlen hmax
    rw [exec_frameReceived hs hrx (by omega) (by simp [hlen]), ← hrx]
  refine ⟨fun len kind tag body s hs hrx hlen hmax hk => ?_, fun len kind tag s hs hrx =>
    ⟨fun body hi lo hlen hmax => ⟨fun hcrc => ?_, fun hcrc hk => ?_⟩, fun hmax => ?_⟩⟩
  · rw [frame _ _ _ _ _ _ s hs hrx hlen hmax, frameEntry_eq, if_pos rfl, if_pos ((isRequestCode_iff kind).2 hk)]
  · rw [frame _ _ _ _ _ _ s hs hrx hlen hmax, frameEntry_eq, if_neg hcrc]
  · rw [frame _ _ _ _ _ _ s hs hrx hlen hmax, frameEntry_eq, if_pos hcrc, if_neg (mt (isRequestCode_iff kind).1 hk)]
  · show Host.Outcome.next ((s.receiveByte 0x5A#8).receiveByte len) = _
    rw [State.receiveByte_hunting _ hs hrx, if_pos rfl,
      State.receiveByte_inFrame (s := { s with rx := .inFrame [] ⟨s.nowMs, 100⟩ }) len hs rfl, State.frameByte_long _ rfl hmax,
      State.joinBuffer_eq, ← hrx]

/-- Settles O11: the receiver by its state and the byte. -/
theorem bytesMoveTheReceiver : Obligations.BytesMoveTheReceiver := by
  intro b s
  refine ⟨fun hs => ?_, fun hs hrx hb => ?_, fun hs hrx hb => ?_, fun got gap hs hrx => ⟨fun len hlen hmax hshort => ?_,
    fun len hlen hmax => ?_⟩, fun hrx => ?_, fun got gap hrx => ?_⟩
  · exact congrArg _ (State.receiveByte_silent b hs)
  · exact congrArg _ ((State.receiveByte_hunting b hs hrx).trans (if_neg hb))
  · exact congrArg _ ((State.receiveByte_hunting b hs hrx).trans (if_pos hb))
  · exact congrArg _ ((State.receiveByte_inFrame b hs hrx).trans (State.frameByte_kept s hlen hmax (Nat.ne_of_lt hshort)))
  · refine congrArg _ ((State.receiveByte_inFrame b hs hrx).trans ?_)
    rw [State.frameByte_long s hlen hmax, State.joinBuffer_eq]
  · show Host.Outcome.next s.byteGap = _
    rw [State.byteGap, hrx]
  · show Host.Outcome.next s.byteGap = _
    rw [State.byteGap, hrx]
    exact congrArg _ (State.joinBuffer_eq _ _)

/-- Settles O12: a notice's reply starts where nothing holds it back, and the reply's end takes the entry out of the buffer. -/
theorem repliesEmptyTheBuffer : Obligations.RepliesEmptyTheBuffer := by
  intro s
  refine ⟨fun st tag rest hb ht hs hr => ?_, fun hr => ?_, fun hr => ?_, fun r hr hn => ⟨fun e rest hb ht => ?_, fun ht => ?_⟩⟩
  · exact congrArg _ (State.noticeReply_notice hb ht hs hr)
  · exact congrArg _ (State.noticeReply_idle hr)
  · show Host.Outcome.next s.replySent = _
    rw [State.replySent, hr]
  · show Host.Outcome.next s.replySent = _
    rw [State.replySent_of_reply hr hn, if_pos ht, hb]
    rfl
  · show Host.Outcome.next s.replySent = _
    rw [State.replySent_of_reply hr hn, if_neg (by simp [ht]), ← ht]
end

section
/-! SUPPORT. The resets, the timebase, and the requests that set the mode, the settings and the service of a section. -/

-- One theorem after another: elaborated side by side, they ask for more thread stacks than the check has memory for.
set_option Elab.async false

namespace Sys2Proof.Machine

/-! ## A section controller after a write to it and to another -/

theorem State.sec_setSec_self (s : State) (i : SectionId) (x : SectionCtl) : (s.setSec i x).sec i = x := by simp

theorem State.sec_modSec_self (s : State) (i : SectionId) (f : SectionCtl → SectionCtl) : (s.modSec i f).sec i = f (s.sec i) := by
  simp

theorem State.sec_modLine_self (s : State) (i : SectionId) (f : SectionCtl → SectionCtl) :
    (s.modLine i f).sec i = (f (s.sec i)).retime s.nowMs := by simp

theorem State.sec_setSec_ne (s : State) (x : SectionCtl) {i j : SectionId} (h : j ≠ i) : (s.setSec i x).sec j = s.sec j := by
  simp [Ne.symm h]

theorem State.sec_modLine_ne (s : State) (f : SectionCtl → SectionCtl) {i j : SectionId} (h : j ≠ i) :
    (s.modLine i f).sec j = s.sec j := by
  simp [Ne.symm h]

/-! ## The RESET input -/

theorem SectionCtl.isSending_cutBurst (x : SectionCtl) : x.cutBurst.isSending = false := by
  unfold SectionCtl.cutBurst SectionCtl.isSending
  cases hx : x.exch <;> simp [hx]

/-- The bursts are cut off on the section controllers alone. -/
theorem State.cutBursts_eq (is : List SectionId) (s : State) : State.cutBursts is s = { s with secs := (State.cutBursts is s).secs } := by
  induction is generalizing s with
  | nil => rfl
  | cons i is ih => exact ih (s.modLine i SectionCtl.cutBurst)

/-- A section whose burst is cut off sends nothing (R199). -/
theorem State.isSending_cutBursts (is : List SectionId) (s : State) (j : SectionId)
    (h : j ∈ is ∨ (s.sec j).isSending = false) : ((State.cutBursts is s).sec j).isSending = false := by
  induction is generalizing s with
  | nil => exact h.resolve_left (by simp)
  | cons i is ih =>
    refine ih _ ?_
    by_cases hj : j = i
    · subst hj
      right
      rw [State.sec_modLine_self]
      exact SectionCtl.isSending_cutBurst (s.sec j)
    · rcases h with h | h
      · exact Or.inl ((List.mem_cons.1 h).resolve_left hj)
      · right
        rw [State.sec_modLine_ne _ _ hj]
        exact h

theorem State.post_silent {s : State} (b : EventBody) (h : s.silent = true) : s.post b = s := if_pos h

/-! ## The service of sections -/

theorem SectionCtl.retime_asleep {x : SectionCtl} (now : Nat) (h : x.power ≠ .active) :
    x.retime now = { x with stuckTimer := none, breakTimer := none, quietTimer := none } := by
  have hp : (x.power == .active) = false := by simpa using h
  simp [SectionCtl.retime, SectionCtl.stuckRuns, SectionCtl.breakRuns, SectionCtl.quietRuns, SectionCtl.keepTimer, hp]

/-- A section that a wake cause wakes (R89, R90). -/
theorem State.startWake_eq (s : State) (i : SectionId) (r : ReasonSet) :
    s.startWake i r = s.setSec i ((s.sec i).woken s.nowMs r) := by
  show s.setSec i (SectionCtl.retime s.nowMs _) = _
  rw [SectionCtl.retime_asleep s.nowMs (by simp)]
  rfl

/-- The service of a section begins (R94, R97, R99). -/
theorem State.beginService_eq (s : State) (i : SectionId) :
    s.beginService i = s.setSec i ((s.sec i).serviceBegun s.seconds s.nowMs) := by
  rw [State.beginService, State.startWake_eq, State.modSec, State.setSec_setSec, State.sec_setSec_self]
  rfl

theorem State.beginServices_eq (is : List SectionId) (s : State) :
    State.beginServices is s = { s with secs := (State.beginServices is s).secs } := by
  induction is generalizing s with
  | nil => rfl
  | cons i is ih =>
    rw [State.beginServices, State.beginService_eq]
    exact ih _

/-- The service of each section of a list begins, and of no other (R97). -/
theorem State.sec_beginServices (is : List SectionId) (s : State) (hnd : is.Nodup) (j : SectionId) :
    (State.beginServices is s).sec j = if j ∈ is then (s.sec j).serviceBegun s.seconds s.nowMs else s.sec j := by
  induction is generalizing s with
  | nil => rfl
  | cons i is ih =>
    obtain ⟨hi, hnd⟩ := List.nodup_cons.1 hnd
    rw [State.beginServices, State.beginService_eq, ih _ hnd]
    by_cases hj : j = i
    · subst hj
      rw [if_neg hi, State.sec_setSec_self, if_pos (by simp)]
    · rw [State.sec_setSec_ne _ _ hj]
      simp [hj]

/-- The eight quantities of SET GLOBALS, clamped (R194). -/
theorem RawGlobals_stored {g : RawGlobals} (h : g.autoOffer ≤ 1) : g.stored = some
    ⟨clampTo 5 60 g.ageing, clampTo 5 120 g.offerTimeout, clampTo 10 180 g.ringTimeout, clampTo 0 12 g.baseTunnel,
      clampTo 0 12 g.baseBridge, clampTo 0 12 g.baseOpen, clampTo 0 12 g.baseService, clampTo 0 150 g.lowBattery,
      decide (g.autoOffer = 1)⟩ := by
  have hflag : flagOf g.autoOffer = some (decide (g.autoOffer = 1)) := by
    rcases Nat.le_one_iff_eq_zero_or_eq_one.1 h with h | h <;> rw [h] <;> rfl
  rw [RawGlobals.stored, hflag]

theorem flagOf_eq_none {n : Nat} (h : 1 < n) : flagOf n = none := by
  match n, h with
  | n + 2, _ => rfl

theorem flagOf_eq_some {n : Nat} (h : n ≤ 1) : flagOf n = some (decide (n = 1)) := by
  rcases Nat.le_one_iff_eq_zero_or_eq_one.1 h with h | h <;> rw [h] <;> rfl

end Sys2Proof.Machine

open Sys2Proof Sys2Proof.Machine

/-- Settles O13: the device reset is `Starting`, and asserting the input cuts off the bursts of all eight sections. -/
theorem resetsStopAndRestartThePart : Obligations.ResetsStopAndRestartThePart := by
  refine ⟨fun s => ⟨⟨_, rfl, State.starting_deviceReset _⟩, fun h => ?_, fun h => congrArg Host.Outcome.next (if_neg (by simp [h])),
    fun h => congrArg Host.Outcome.next (if_pos h)⟩, fun s => ⟨fun h => ?_, fun h => ?_⟩⟩
  · exact ⟨_, congrArg Host.Outcome.next (if_pos h), State.starting_deviceReset _⟩
  · refine ⟨_, congrArg Host.Outcome.next (if_neg (by simp [h])), ?_⟩
    have hsend := fun i => State.isSending_cutBursts allSections
      { s with rx := .hunting, buffer := [], reply := none, headTaken := false, resetHeld := true, events := [] } i
      (Or.inl (mem_allSections i))
    have heq := State.cutBursts_eq allSections
      { s with rx := .hunting, buffer := [], reply := none, headTaken := false, resetHeld := true, events := [] }
    revert hsend heq
    generalize State.cutBursts allSections _ = t
    intro hsend heq
    rw [heq] at hsend ⊢
    exact ⟨rfl, rfl, rfl, rfl, rfl, rfl, rfl, rfl, hsend, ⟨rfl, rfl, rfl, rfl⟩, ⟨rfl, rfl, rfl⟩,
      ⟨rfl, rfl, rfl, rfl, rfl, rfl, rfl⟩, rfl, rfl⟩
  · have hs : s.silent = true := by
      rcases h with h | h <;> simp [State.silent, h]
    exact ⟨fun b => State.post_silent b hs, fun bytes => congrArg _ (State.receiveBytes_silent bytes hs), by simp [State.ready, hs],
      fun k h body => by simp [State.takes, hs]⟩

/-- Settles O15: the state after reset is its own device reset, which the laws hold of. -/
theorem resetStateIsTheStartingStateAndLawful : Obligations.ResetStateIsTheStartingStateAndLawful := by
  have hreset : State.reset.deviceReset = State.reset := rfl
  refine ⟨⟨hreset ▸ State.starting_deviceReset State.reset, rfl, rfl, rfl⟩, ⟨by simp [State.reset], by simp [State.reset]⟩,
    by simp [State.reset, State.BufferLaw], ?_, ?_, ?_, ?_, rfl⟩
  · exact hreset ▸ State.deviceReset_queueLaw State.reset
  · exact (State.directoryLaw_iff _).2 (hreset ▸ State.deviceReset_filed State.reset)
  · exact (State.callLaw_iff _).2 (hreset ▸ ⟨State.deviceReset_powerLaw State.reset, State.deviceReset_switched State.reset⟩)
  · exact hreset ▸ State.deviceReset_setupLaw State.reset

/-- Settles O16: START begins the service of the defined sections one after the other, each on its own section. -/
theorem startBeginsTheServiceOfEverySection : Obligations.StartBeginsTheServiceOfEverySection := by
  intro h s ha
  have hmem : ∀ i, i ∈ s.definedSections ↔ (s.sec i).defn ≠ none := fun i => by
    rw [State.mem_definedSections, Option.isSome_iff_ne_none]
  refine ⟨fun hnone => ?_, fun j hj => ?_⟩
  · have hempty : s.definedSections = [] := List.eq_nil_iff_forall_not_mem.2 (fun i hi => (hmem i).1 hi (hnone i))
    exact exec_of_act rfl ha (if_pos hempty)
  · have hsome : s.definedSections ≠ [] := List.ne_nil_of_mem ((hmem j).2 hj)
    have hnd : s.definedSections.Nodup := s.definedSections_pairwise.imp (fun hab => Fin.ne_of_lt hab)
    have hsec := fun i => State.sec_beginServices s.definedSections { s.taking ⟨.start, h, [], 0⟩ with mode := .service } hnd i
    exact ⟨s.definedSections, _, hmem, s.definedSections_pairwise, exec_of_act rfl ha (if_neg hsome),
      State.beginServices_eq _ _, fun i hi => (hsec i).trans (if_pos hi), fun i hi => (hsec i).trans (if_neg hi)⟩

/-- Settles O17: the record is stored clamped, and the dispatcher's occasion follows; with auto-offer off the occasion passes. -/
theorem setGlobalsClampsAndReplaces : Obligations.SetGlobalsClampsAndReplaces := by
  intro h g s ha
  refine ⟨fun hbad => ?_, fun hok n hn => ?_⟩
  · refine exec_of_act rfl ha ?_
    show State.setGlobalsAct g (s.taking _) = _
    rw [State.setGlobalsAct, RawGlobals.stored, flagOf_eq_none hbad]
    rfl
  · have hstored : g.stored = some n := by rw [RawGlobals_stored hok, hn]
    have hfin := State.finish_byCalls { s.taking ⟨.setGlobals, h, g.body, 9⟩ with globals := n, dispatchDue := true } 0
    refine ⟨_, exec_of_act rfl ha ?_, rfl, hfin.globals, hfin.mode, ⟨hfin.rx, hfin.buffer, hfin.resetHeld, hfin.poweringUp⟩,
      ⟨hfin.dir, hfin.rosters, hfin.unresolved⟩, State.finish_secs _, State.finish_ltu _, State.finish_history _, fun hoff => ?_⟩
    · show State.setGlobalsAct g (s.taking _) = _
      rw [State.setGlobalsAct, hstored]
      have hsame : g.sameAs n = decide (g.ageing = n.ageing ∧ g.offerTimeout = n.offerTimeout ∧ g.ringTimeout = n.ringTimeout ∧
          g.baseTunnel = n.baseTunnel ∧ g.baseBridge = n.baseBridge ∧ g.baseOpen = n.baseOpen ∧ g.baseService = n.baseService ∧
          g.lowBattery = n.lowBattery) := by
        rw [Bool.eq_iff_iff]
        simp [RawGlobals.sameAs, and_assoc]
      simp only [hsame, okStatus, decide_eq_true_eq]
      rfl
    · rw [State.finish_off (by exact hoff)]
      exact ⟨⟨rfl, rfl, rfl, rfl, rfl, rfl, rfl⟩, rfl⟩

/-- Settles O29: the service of an OFF section begins, and one in service is left as it is. -/
theorem sectionServiceInBeginsService : Obligations.SectionServiceInBeginsService := by
  intro h s i force f hf ha hforce
  subst hf
  have hact : ∀ t : State, State.serviceInAct i.val 0 force t = t.onSection i.val (fun i =>
      (if (t.sec i).power = .off then t.beginService i else t, .ok, .powerFound (t.sec i).power)) :=
    fun t => if_pos ⟨rfl, by rw [flagOf_eq_some hforce]; rfl⟩
  refine ⟨fun hd => ?_, fun hd hon => ?_, fun hd hoff => ?_⟩
  · exact exec_of_act rfl ha ((hact _).trans (State.onSection_undefined _ i _ hd))
  · refine exec_of_act rfl ha ((hact _).trans ((State.onSection_found (s.taking _) i _ hd).trans ?_))
    rw [State.sec_taking, if_neg hon]
  · refine exec_of_act rfl ha ((hact _).trans ((State.onSection_found (s.taking _) i _ hd).trans ?_))
    rw [State.sec_taking, if_pos hoff, State.beginService_eq, State.sec_taking, hoff]
    rfl

/-- Settles O44: the two clocks by their definitions; an empty queue lets one millisecond pass. -/
theorem timePassesBySecondsAndByIdleSteps : Obligations.TimePassesBySecondsAndByIdleSteps := by
  refine ⟨fun s => ⟨fun h => ⟨s.tickSecond, rfl, ?_, rfl, Nat.le_max_left _ _⟩, fun h => ⟨s.tickSecond, rfl, ?_, ?_,
    Nat.le_max_left _ _⟩⟩, fun s h => ?_⟩
  · show min 4294967295 (s.seconds + 1) = _
    omega
  · show min 4294967295 (s.seconds + 1) = _
    omega
  · have hmax : min 4294967295 (s.seconds + 1) = s.seconds := by omega
    show { s with seconds := min 4294967295 (s.seconds + 1), nowMs := s.tickSecond.nowMs } = _
    rw [hmax]
  · unfold step
    split
    · rfl
    · next h' => cases h.symm.trans h'
end

section
/-! SUPPORT. The requests that write the directory and the settings of a section. -/

-- One theorem after another: elaborated side by side, they ask for more thread stacks than the check has memory for.
set_option Elab.async false

namespace Sys2Proof.Machine

/-! ## Writing the directory -/

theorem State.setSlot_eq (s : State) (i : SectionId) (a : Addr) (p : Option Nat) :
    s.setSlot i a p = { s with rosters := (s.setSlot i a p).rosters } := by
  unfold State.setSlot
  split <;> rfl

theorem State.placePost_eq (s : State) (e : PostEntry) (c : Fin 2) :
    s.placePost e c = { s with dir := (s.placePost e c).dir, rosters := (s.placePost e c).rosters } :=
  (State.setSlot_eq (s.setEntry (rowOf e.post) c (some e)) e.sec e.addr (some e.post)).trans (by simp [State.placePost, State.setEntry])

theorem State.redefinePost_eq (s : State) (old e : PostEntry) (c : Fin 2) : s.redefinePost old c e =
    { s with dir := (s.redefinePost old c e).dir, rosters := (s.redefinePost old c e).rosters } := by
  unfold State.redefinePost
  rw [State.setSlot_eq, State.setSlot_eq s]
  rfl

/-- The column a new post takes: column 0 where it is free, else column 1 (R8). -/
theorem State.openColumn_eq {s : State} {p : Nat} {c : Fin 2} (hfree : s.entry (rowOf p) c = none)
    (hfirst : c = 1 → (s.entry (rowOf p) 0).isSome = true) : s.openColumn p = some c := by
  unfold State.openColumn
  match c, hfree, hfirst with
  | 0, hfree, _ => rw [if_pos (by simp [hfree])]
  | 1, hfree, hfirst => rw [if_neg (by simpa [Option.isSome_iff_ne_none] using hfirst rfl), if_pos (by simp [hfree])]

/-- A DEFINE POST with its fields in range, on a defined section of at least that length, with its address free (R7). -/
theorem State.definePostAct_checked {s : State} {p : RawPost} {i : SectionId} {a : Addr} {d : SectionDef} {cl : PostClass}
    {cw : Carriageway} (h1 : 1 ≤ p.post) (h2 : p.post ≤ 59999) (hs : p.sec = i.val) (ha : p.addr = a.val) (ha1 : 1 ≤ p.addr)
    (hcl : PostClass.ofCode p.cls = some cl) (hcw : Carriageway.ofCode p.cway = some cw) (hd : (s.sec i).defn = some d)
    (ho : p.offset ≤ d.length) : s.definePostAct p = s.defineChecked (newEntry p.post i a p.offset cl cw) := by
  have haddr : addrOf a.val = some a := addrOf_val (ha ▸ ha1)
  have hpost := (isPostNumber_iff p.post).2 ⟨h1, h2⟩
  simp [State.definePostAct, hs, ha, haddr, hcl, hcw, hpost, State.offsetLimit, hd, ho]

/-- A new post whose checks have passed is placed (R8). -/
theorem State.defineChecked_new {s : State} {e : PostEntry} {d : SectionDef} {c : Fin 2} (hd : (s.sec e.sec).defn = some d)
    (hnew : s.lookup e.post = none) (hslot : s.addressTaken e.sec e.addr e.post = false) (hcol : s.openColumn e.post = some c) :
    s.defineChecked e = (s.placePost e c, .ok, .placed (rowOf e.post) c) := by
  simp [State.defineChecked, hd, hnew, hslot, hcol]

/-- A post that has an entry, with no live call and its new address free, is redefined in place (R9). -/
theorem State.defineChecked_old {s : State} {e old : PostEntry} {d : SectionDef} {c : Fin 2} (hd : (s.sec e.sec).defn = some d)
    (hold : s.lookup e.post = some (c, old)) (hcall : s.callAt old.sec old.addr = none)
    (hslot : s.addressTaken e.sec e.addr e.post = false) :
    s.defineChecked e = (s.redefinePost old c e, .ok, .placed (rowOf e.post) c) := by
  simp [State.defineChecked, hd, hold, hcall, hslot]

end Sys2Proof.Machine

open Sys2Proof Sys2Proof.Machine

/-- Settles O25: with its checks passed the request places the new post or redefines the old one, each two or three writes. -/
theorem definePostPlacesOrRedefines : Obligations.DefinePostPlacesOrRedefines := by
  intro h p s f i a d cl cw hf ha h1 h2 hs haddr ha1 hcl hcw hd ho hslot
  subst hf
  have hact := State.definePostAct_checked (s := s.taking ⟨.definePost, h, p.body, 8⟩) h1 h2 hs haddr ha1 hcl hcw hd ho
  have htaken : s.addressTaken i a p.post = false := State.addressTaken_eq_false hslot
  have hpos : 1 ≤ a.val := haddr ▸ ha1
  refine ⟨fun hnew c hfree hfirst => ?_, fun c e hold hcall => ?_⟩
  · refine ⟨_, exec_of_act rfl ha (hact.trans (State.defineChecked_new (d := d) hd hnew htaken (State.openColumn_eq hfree hfirst))),
      State.placePost_eq _ _ _, fun r k => ?_, fun j b => ?_⟩
    · rw [State.placePost, State.entry_setSlot, State.entry_setEntry]
      simp only [eq_comm]
      rfl
    · rw [State.placePost, State.slotAt_setSlot]
      simp [newEntry, hpos, eq_comm]
  · refine ⟨_, exec_of_act rfl ha (hact.trans (State.defineChecked_old (d := d) hd hold hcall htaken)),
      State.redefinePost_eq _ _ _ _, fun r k => ?_, fun j b => ?_⟩
    · rw [State.redefinePost, State.entry_setSlot, State.entry_setEntry, State.entry_setSlot]
      simp only [eq_comm]
      rfl
    · have hzero : ∀ b : Addr, ¬1 ≤ b.val → s.slotAt e.sec b = none := fun b hb => dif_neg hb
      rw [State.redefinePost, State.slotAt_setSlot, State.slotAt_setEntry, State.slotAt_setSlot]
      simp [newEntry, hpos, eq_comm]
      grind

/-- Settles O26: each act is the writes it makes on the entry that the lookup gives. -/
theorem removeSuspendAndResumePost : Obligations.RemoveSuspendAndResumePost := by
  have hservice : ∀ (p : Nat) (s : State) (st : ServiceState) (f : RequestForm) (cmd : Instr), s.Accepts f →
      requestOf cmd = some f → requestAct cmd = State.setServiceAct p st →
      (p = 0 ∨ 59999 < p → exec cmd s = .next (s.answers f .badField .nothing)) ∧
      (1 ≤ p → p ≤ 59999 →
        (s.lookup p = none → exec cmd s = .next (s.answers f .noSuchPost .nothing)) ∧
        (∀ c e, s.lookup p = some (c, e) →
          ∃ t : State, exec cmd s = .next (t.replied f .ok .nothing) ∧ t = { s.taking f with dir := t.dir } ∧
            ∀ r k, t.entry r k = if r = rowOf p ∧ k = c then some { e with service := st } else s.entry r k)) := by
    intro p s st f cmd ha hreq hact
    refine ⟨fun hr => ?_, fun h1 h2 => ⟨fun hl => ?_, fun c e hl => ?_⟩⟩
    · exact exec_of_act hreq ha (by rw [hact]; exact State.onPost_range _ _ hr)
    · exact exec_of_act hreq ha (by rw [hact]; exact State.onPost_missing _ _ h1 h2 hl)
    · refine ⟨_, exec_of_act hreq ha (by rw [hact]; exact State.onPost_found _ _ h1 h2 hl), rfl, fun r k => ?_⟩
      rw [State.entry_setEntry, State.entry_taking]
      simp only [eq_comm]
  intro h p s f
  refine ⟨fun hf ha => ?_, fun st cmd hcmd ha => ?_⟩
  · subst hf
    refine ⟨fun hr => ?_, fun h1 h2 => ⟨fun hl => ?_, fun c e hl => ⟨fun hcall => ?_, fun hcall => ?_⟩⟩⟩
    · exact exec_of_act rfl ha (State.onPost_range _ _ hr)
    · exact exec_of_act rfl ha (State.onPost_missing _ _ h1 h2 hl)
    · exact exec_of_act rfl ha ((State.onPost_found (s.taking _) _ h1 h2 hl).trans (if_pos hcall))
    · refine ⟨_, exec_of_act rfl ha ((State.onPost_found (s.taking _) _ h1 h2 hl).trans (if_neg (by simp [hcall]))),
        ?_, fun r k => ?_, fun j b => ?_⟩
      · rw [State.setSlot_eq]
        rfl
      · rw [State.entry_setEntry, State.entry_setSlot, State.entry_taking]
        simp only [eq_comm]
      · rw [State.slotAt_setEntry, State.slotAt_setSlot, State.slotAt_taking]
        have hzero : ∀ b : Addr, ¬1 ≤ b.val → s.slotAt e.sec b = none := fun b hb => dif_neg hb
        grind
  · rcases hcmd with ⟨rfl, rfl, rfl⟩ | ⟨rfl, rfl, rfl⟩
    · exact hservice p s _ _ _ ha rfl rfl
    · exact hservice p s _ _ _ ha rfl rfl
end

section
/-! SUPPORT. The definition and the timing record of a section. -/

-- One theorem after another: elaborated side by side, they ask for more thread stacks than the check has memory for.
set_option Elab.async false

namespace Sys2Proof.Machine

/-! ## The posts of a section -/

theorem vget_of_mem {α : Type} {n : Nat} {v : Vector α n} {x : α} (h : x ∈ v.toList) : ∃ i : Fin n, v.get i = x := by
  obtain ⟨k, hk, hx⟩ := Vector.mem_iff_getElem.1 (Vector.mem_toList_iff.1 h)
  exact ⟨⟨k, hk⟩, hx⟩

/-- The posts of a section are the valid entries of the directory that name it. -/
theorem State.mem_postsOn_iff (s : State) (i : SectionId) (e : PostEntry) :
    e ∈ s.postsOn i ↔ e.sec = i ∧ ∃ r c, s.entry r c = some e := by
  refine ⟨fun h => ?_, fun ⟨hi, r, c, h⟩ => hi ▸ State.mem_postsOn h⟩
  unfold State.postsOn State.entries at h
  rw [List.mem_filter, List.mem_flatMap] at h
  obtain ⟨⟨row, hrow, he⟩, hi⟩ := h
  obtain ⟨o, ho, hoe⟩ := List.mem_filterMap.1 he
  obtain ⟨r, rfl⟩ := vget_of_mem hrow
  obtain ⟨c, rfl⟩ := vget_of_mem ho
  exact ⟨by simpa using hi, r, c, hoe⟩

theorem foldl_max_offset_le {l : List PostEntry} {m n : Nat} (hm : m ≤ n) (h : ∀ e ∈ l, e.offset ≤ n) :
    l.foldl (fun m e => max m e.offset) m ≤ n := by
  induction l generalizing m with
  | nil => exact hm
  | cons x xs ih => exact ih (Nat.max_le.2 ⟨hm, h x (by simp)⟩) (fun e he => h e (by simp [he]))

/-- A length is enough for every post of a section when it is for the largest offset (R13). -/
theorem State.largestOffset_le {s : State} {i : SectionId} {n : Nat}
    (h : ∀ r c e, s.entry r c = some e → e.sec = i → e.offset ≤ n) : s.largestOffset i ≤ n :=
  foldl_max_offset_le (Nat.zero_le n) (fun e he => by
    obtain ⟨hi, r, c, hent⟩ := (s.mem_postsOn_iff i e).1 he
    exact h r c e hent hi)

/-- The posts of a section as a threshold application takes them: in address order (R64). -/
def State.postsByAddress (s : State) (i : SectionId) : List PostEntry :=
  sortBy (fun a b : PostEntry => decide (a.addr.val ≤ b.addr.val)) (s.postsOn i)

theorem State.postsByAddress_spec (s : State) (i : SectionId) : s.PostsByAddress i (s.postsByAddress i) :=
  ⟨fun e => (sortBy_perm _ _).mem_iff.trans (s.mem_postsOn_iff i e),
    sortBy_pairwise (R := fun a b : PostEntry => a.addr ≤ b.addr) (fun _ _ h => of_decide_eq_true h)
      (fun _ _ h => Nat.le_of_not_le (of_decide_eq_false h)) (fun _ _ _ h1 h2 => Nat.le_trans h1 h2) _⟩

theorem State.postsByAddress_congr {s t : State} (h : t.dir = s.dir) (i : SectionId) : t.postsByAddress i = s.postsByAddress i := by
  unfold State.postsByAddress State.postsOn State.entries
  rw [h]

/-- What is told after a state is told after any state with its event queue, at the same second (R177). -/
theorem State.Tells.start {s s' t : State} {bs : List EventBody} (h : s'.Tells t bs) (he : s'.events = s.events)
    (hr : s'.silent = s.silent) (hs : s'.seconds = s.seconds) : s.Tells t bs :=
  Eq.trans h (State.postAll_events_congr bs he hr hs)

/-! ## A timing record applied -/

theorem flipEvent_eq (n : Nat) (e : PostEntry) : flipEvent n e =
    if e.reachable = true ∧ n ≤ e.missed then some (.postUnreachable e.post e.sec e.addr e.missed)
    else if e.reachable = false ∧ e.missed < n then some (.postReachable e.post e.sec e.addr e.missed) else none := by
  unfold flipEvent PostEntry.rethreshold
  cases hr : e.reachable <;> by_cases hn : e.missed < n <;> simp [hn]

theorem State.applyThreshold_tells (s : State) (i : SectionId) (n : Nat) :
    s.Tells (s.applyThreshold i n) ((s.postsByAddress i).filterMap (flipEvent n)) := by
  unfold State.Tells State.applyThreshold State.postsByAddress
  dsimp only
  generalize rethresholdRows i n allRows s.dir = d
  exact State.postAll_events_congr _ rfl rfl rfl

/-- Applying a record tells the flips of the section's posts in address order (R64, R112). -/
theorem State.applyTiming_tells (s : State) (i : SectionId) (v : Timing) :
    s.Tells (s.applyTiming i v) (flipsTold (some v) (s.postsByAddress i)) := by
  have hflips : flipsTold (some v) (s.postsByAddress i) = (s.postsByAddress i).filterMap (flipEvent v.unreachable) :=
    congrArg (fun f => List.filterMap f _) (funext (fun e => (flipEvent_eq v.unreachable e).symm))
  rw [hflips]
  exact (State.applyThreshold_tells (s.modSec i _) i _).start rfl rfl rfl

/-- A record held pending tells its flips as it is applied, and none held tells nothing (R63, R64). -/
theorem State.applyPending_tells (s : State) (i : SectionId) :
    s.Tells (s.applyPending i) (flipsTold (s.sec i).pendingTiming (s.postsByAddress i)) := by
  unfold State.applyPending
  split
  · next v hv => rw [hv]; exact s.applyTiming_tells i v
  · next hv => rw [hv]; rfl

theorem State.postAll_eq (bs : List EventBody) (s : State) :
    State.postAll bs s = { s with events := (State.postAll bs s).events } := by
  induction bs generalizing s with
  | nil => rfl
  | cons b bs ih =>
    have hpost : s.post b = { s with events := (s.post b).events } := by
      unfold State.post
      split
      · rfl
      · split <;> rfl
    rw [State.postAll, ih, hpost]

theorem State.applyTiming_eq (s : State) (i : SectionId) (v : Timing) : s.applyTiming i v =
    { s with secs := (s.applyTiming i v).secs, dir := (s.applyTiming i v).dir, events := (s.applyTiming i v).events } := by
  unfold State.applyTiming State.applyThreshold
  rw [State.postAll_eq]
  rfl

/-- The first time of the form S + offset + n × period above the seconds count (R101). -/
theorem nextDue_spec (anchor offset now : Nat) {period : Nat} (hp : 1 ≤ period) :
    ∃ n, nextDue anchor offset period now = anchor + offset + n * period ∧ now < anchor + offset + n * period ∧
      (n ≠ 0 → anchor + offset + (n - 1) * period ≤ now) := by
  unfold nextDue
  split
  · next h => exact ⟨0, by simp, by simpa using h, fun h0 => absurd rfl h0⟩
  · next h =>
    have hdiv := Nat.div_add_mod (now - (anchor + offset)) period
    have hmod := Nat.mod_lt (now - (anchor + offset)) hp
    have hmul : ((now - (anchor + offset)) / period + 1) * period = period * ((now - (anchor + offset)) / period) + period := by
      rw [Nat.add_mul, Nat.one_mul, Nat.mul_comm]
    refine ⟨(now - (anchor + offset)) / period + 1, rfl, by omega, fun _ => ?_⟩
    rw [Nat.add_sub_cancel, Nat.mul_comm]
    omega

theorem clampTo_ge {lo hi : Nat} (h : lo ≤ hi) (v : Nat) : lo ≤ clampTo lo hi v := by
  unfold clampTo
  split
  · exact Nat.le_refl lo
  · split <;> omega

/-- A timing record is as given when no setting of it was clamped (R190). -/
theorem RawTiming_sameAs (r : RawTiming) (v : Timing) : okStatus (r.sameAs v) =
    if (⟨r.replyWindow, r.retries, r.idleHold, r.period, r.offset, r.unreachable, r.stuck, r.brk⟩ : Timing) = v then .ok
    else .okClamped := by
  obtain ⟨a1, a2, a3, a4, a5, a6, a7, a8⟩ := v
  have hsame : r.sameAs ⟨a1, a2, a3, a4, a5, a6, a7, a8⟩ =
      decide ((⟨r.replyWindow, r.retries, r.idleHold, r.period, r.offset, r.unreachable, r.stuck, r.brk⟩ : Timing) =
        ⟨a1, a2, a3, a4, a5, a6, a7, a8⟩) := by
    rw [Bool.eq_iff_iff]
    simp [RawTiming.sameAs, and_assoc]
  rw [hsame]
  simp only [okStatus, decide_eq_true_eq]

theorem RawSection_sameAs (d : RawSection) (v : SectionDef) :
    okStatus (d.sameAs v) = if d.length = v.length ∧ d.k = v.k ∧ d.rc = v.rc then .ok else .okClamped := by
  have hsame : d.sameAs v = decide (d.length = v.length ∧ d.k = v.k ∧ d.rc = v.rc) := by
    rw [Bool.eq_iff_iff]
    simp [RawSection.sameAs, and_assoc]
  rw [hsame]
  simp only [okStatus, decide_eq_true_eq]

end Sys2Proof.Machine

open Sys2Proof Sys2Proof.Machine

/-- Settles O27: the definition is stored where the section is out of service and every post's offset is within it. -/
theorem defineSectionStoresTheDefinition : Obligations.DefineSectionStoresTheDefinition := by
  intro h d s i f sg v hf ha hbase hsg hhib hauto hv
  subst hf
  have hstored : d.stored = some v := by
    rw [RawSection.stored, hsg, flagOf_eq_some hhib, flagOf_eq_some hauto, hv]
    exact if_pos hbase
  have hact : ∀ t : State, State.defineSectionAct i.val d t =
      if t.mode = .service ∧ (t.sec i).power ≠ .off then t.refuse .sectionActive
      else if v.length < t.largestOffset i then t.refuse .badField
      else (t.modSec i (SectionCtl.define v), okStatus (d.sameAs v), .definition v) := fun t => by
    rw [State.defineSectionAct, sectionOf_val, hstored]
  have hoffset : ∀ t : State, t.dir = s.dir → t.largestOffset i = s.largestOffset i := fun t ht => by
    unfold State.largestOffset State.postsOn State.entries
    rw [ht]
  refine ⟨fun hmode hon => ?_, fun hmay => ?_⟩
  · exact exec_of_act rfl ha ((hact _).trans (if_pos ⟨hmode, hon⟩))
  · have hnot : ¬(s.mode = .service ∧ (s.sec i).power ≠ .off) := by
      rintro ⟨hm, hp⟩
      rcases hmay with h | h
      · simp [hm] at h
      · exact hp h
    refine ⟨fun ⟨r, c, e, he, hi, hlong⟩ => ?_, fun hall => ?_⟩
    · have hlarge : v.length < s.largestOffset i := Nat.lt_of_lt_of_le hlong (hi ▸ State.offset_le_largest he)
      exact exec_of_act rfl ha ((hact _).trans ((if_neg hnot).trans (if_pos hlarge)))
    · have hlarge : ¬v.length < s.largestOffset i := Nat.not_lt.2 (State.largestOffset_le hall)
      rw [← RawSection_sameAs]
      exact exec_of_act rfl ha ((hact _).trans ((if_neg hnot).trans (if_neg hlarge)))

/-- Settles O28: the record is held pending, or applied, where the threshold application rewrites the section's entries. -/
theorem setSectionTimingAppliesOrHolds : Obligations.SetSectionTimingAppliesOrHolds := by
  intro h r s i f v st hf ha hd hv hst
  subst hf
  have hstored : r.stored = v := hv.symm
  have hstatus : okStatus (r.sameAs v) = st := (RawTiming_sameAs r v).trans hst.symm
  have hperiod : 1 ≤ v.period := by
    rw [hv]
    exact Nat.le_trans (by omega) (clampTo_ge (lo := 60) (hi := 3600) (by omega) r.period)
  have hact : ∀ t : State, (t.sec i).defn ≠ none → State.setTimingAct i.val r t =
      if (t.sec i).power = .active ∧ (t.sec i).line ≠ .idle then
        (t.modSec i (fun x => { x with pendingTiming := some v }), st, .timing v false)
      else (t.applyTiming i v, st, .timing v true) := fun t ht => by
    rw [State.setTimingAct, State.onSection_found t i _ ht, hstored, hstatus]
  refine ⟨fun hp hl => ?_, fun hidle => ?_⟩
  · exact exec_of_act rfl ha ((hact (s.taking _) hd).trans (if_pos ⟨hp, hl⟩))
  · have hnot : ¬((s.sec i).power = .active ∧ (s.sec i).line ≠ .idle) := fun ⟨hp, hl⟩ => hidle.elim (fun h => h hp) hl
    have hsec := State.sec_applyTiming (s.taking ⟨.setSectionTiming, h, byte1 i.val ++ r.body, 13⟩) i
    obtain ⟨hmem, hsorted⟩ := s.postsByAddress_spec i
    refine ⟨_, s.postsByAddress i, exec_of_act rfl ha ((hact (s.taking _) hd).trans (if_neg hnot)), State.applyTiming_eq _ _ _, ?_,
      fun j hj => ?_, fun hsame => ?_, fun hmove a hanchor => ?_, fun q c => State.entry_applyTiming _ _ _ _ _, hmem, hsorted, ?_⟩
    · rw [hsec i, if_pos rfl]
      rfl
    · rw [hsec j, if_neg (Ne.symm hj)]
      rfl
    · rw [hsec i, if_pos rfl]
      exact if_pos hsame
    · obtain ⟨n, hn, hafter, hfirst⟩ := nextDue_spec a v.offset s.seconds hperiod
      refine ⟨n, ?_, hafter, hfirst⟩
      rw [hsec i, if_pos rfl, ← hn]
      refine (if_neg hmove).trans ?_
      rw [State.sec_taking, hanchor]
      rfl
    · exact (State.applyTiming_tells (s.taking ⟨.setSectionTiming, h, byte1 i.val ++ r.body, 13⟩) i v).start rfl rfl rfl
end

section
/-! SUPPORT. What is told, as a list; the line arbiter by the state of its line; and a call notice as it is given to a section. -/

-- One theorem after another: elaborated side by side, they ask for more thread stacks than the check has memory for.
set_option Elab.async false

namespace Sys2Proof.Machine

/-! ## What is told -/

/-- `t` is later than `s` in the same second, no more and no less silent, and `bs` has been told since. -/
structure State.Told (s t : State) (bs : List EventBody) : Prop where
  silent : t.silent = s.silent
  seconds : t.seconds = s.seconds
  tells : s.Tells t bs

theorem State.Told.refl (s : State) : s.Told s [] := ⟨rfl, rfl, rfl⟩

theorem State.Told.trans {s t u : State} {bs cs : List EventBody} (h1 : s.Told t bs) (h2 : t.Told u cs) : s.Told u (bs ++ cs) :=
  ⟨h2.silent.trans h1.silent, h2.seconds.trans h1.seconds, h1.tells.trans h1.silent h1.seconds h2.tells⟩

/-- Nothing has been told. -/
theorem State.Told.quiet {s t : State} (he : t.events = s.events := by rfl) (hr : t.silent = s.silent := by rfl)
    (hs : t.seconds = s.seconds := by rfl) : s.Told t [] := ⟨hr, hs, he⟩

theorem State.Told.thenQuiet {s t u : State} {bs : List EventBody} (h : s.Told t bs) (hq : t.Told u []) : s.Told u bs :=
  List.append_nil bs ▸ h.trans hq

theorem State.Told.afterQuiet {s t u : State} {bs : List EventBody} (hq : s.Told t []) (h : t.Told u bs) : s.Told u bs := hq.trans h

theorem State.Told.events {s t : State} (h : s.Told t []) : t.events = s.events := h.tells

theorem State.post_told (s : State) (b : EventBody) : s.Told (s.post b) [b] := ⟨by simp, by simp, rfl⟩

theorem State.Inner.told' {s t : State} (h : s.Inner t) : ∃ bs, s.Told t bs := by
  obtain ⟨bs, hbs⟩ := h.told
  exact ⟨bs, h.silent, h.seconds, hbs⟩

theorem State.Told.tellsFirst {s t : State} {bs : List EventBody} (h : s.Told t bs) : s.TellsFirst t bs :=
  ⟨[], (List.append_nil bs).symm ▸ h.tells⟩

/-- What has been told is told first, whatever an operation tells after it. -/
theorem State.Told.first {s t u : State} {bs : List EventBody} (h : s.Told t bs) (hi : t.Inner u) : s.TellsFirst u bs := by
  obtain ⟨cs, hcs⟩ := hi.told'
  exact ⟨cs, (h.trans hcs).tells⟩

theorem State.Told.ofByLine {i : SectionId} {s t : State} (h : s.ByLine i t) (he : t.events = s.events) : s.Told t [] :=
  .quiet he h.silent h.seconds

theorem State.SameCalls.findCall {s t : State} (h : s.SameCalls t) (r : Nat) : t.findCall r = s.findCall r := by
  unfold State.findCall
  rw [h.1]

theorem State.SameCalls.callAt {s t : State} (h : s.SameCalls t) (i : SectionId) (a : Addr) : t.callAt i a = s.callAt i a := by
  unfold State.callAt
  rw [h.1]

/-! ## The line arbiter -/

section arbiter
variable {s : State} {i : SectionId}

/-- A carrier that is not disowned holds the arbiter back in IDLE (R68). -/
theorem State.arbiter_held (hl : (s.sec i).line = .idle) (hp : (s.sec i).pairFree = false) : s.arbiter i = s := by
  rw [State.arbiter, hl]
  exact if_pos (by simp [hp])

/-- The arbiter acts in IDLE and BREAK only (R73). -/
theorem State.arbiter_elsewhere (hl : (s.sec i).line ≠ .idle) (hb : (s.sec i).line ≠ .brk) : s.arbiter i = s := by
  unfold State.arbiter
  split
  · next h => exact absurd h hl
  · next h => exact absurd h hb
  all_goals rfl

theorem State.arbiter_brk (hl : (s.sec i).line = .brk) : s.arbiter i = if s.measureRunnable i then s.startMeasure i else s := by
  rw [State.arbiter, hl]

/-- A MEASURE that may run comes first (R73). -/
theorem State.arbiter_measure (hl : (s.sec i).line = .idle) (hp : (s.sec i).pairFree = true) (hm : s.measureRunnable i = true) :
    s.arbiter i = s.startMeasure i := by
  rw [State.arbiter, hl]
  dsimp only
  rw [if_neg (by simp [hp]), if_pos hm]

/-- The queue's head comes next (R73). -/
theorem State.arbiter_head (hl : (s.sec i).line = .idle) (hp : (s.sec i).pairFree = true) (hm : s.measureRunnable i = false)
    (hs : s.silent = false) {t : Txn} {q : List Txn} (hq : (s.sec i).queue = t :: q) :
    s.arbiter i = (s.modSec i (fun x => { x with queue := q })).sendAttempt i t := by
  rw [State.arbiter, hl]
  dsimp only
  rw [if_neg (by simp [hp]), if_neg (by simp [hm]), if_neg (by simp [hs]), hq]

/-- The open round comes last (R73). -/
theorem State.arbiter_round (hl : (s.sec i).line = .idle) (hp : (s.sec i).pairFree = true) (hm : s.measureRunnable i = false)
    (hs : s.silent = false) (hq : (s.sec i).queue = []) : s.arbiter i = s.arbitrateRound i := by
  rw [State.arbiter, hl]
  dsimp only
  rw [if_neg (by simp [hp]), if_neg (by simp [hm]), if_neg (by simp [hs]), hq]

theorem State.arbitrateRound_none (hr : (s.sec i).round = none) : s.arbitrateRound i = s := by
  rw [State.arbitrateRound, hr]

/-- With no MEASURE that may run, no queue and no round there is nothing to do (R73). -/
theorem State.arbiter_nothing (hl : (s.sec i).line = .idle) (hm : s.measureRunnable i = false) (hq : (s.sec i).queue = [])
    (hr : (s.sec i).round = none) : s.arbiter i = s := by
  rw [State.arbiter, hl]
  dsimp only
  rw [hq]
  split
  · rfl
  · rw [if_neg (by simp [hm])]
    split
    · rfl
    · exact State.arbitrateRound_none hr

theorem State.measureRunnable_none (h : (s.sec i).slot = none) : s.measureRunnable i = false := by
  rw [State.measureRunnable, h]

theorem State.measureRunnable_auto (h : (s.sec i).slot = some .auto) : s.measureRunnable i = true := by
  rw [State.measureRunnable, h]

theorem State.measureRunnable_host (h : (s.sec i).slot = some .host) : s.measureRunnable i = (s.holder i).isNone := by
  rw [State.measureRunnable, h]

theorem State.workArrived_busy (h : (s.sec i).line ≠ .idle) : s.workArrived i = s := if_neg h

theorem State.workArrived_idle (h : (s.sec i).line = .idle) : s.workArrived i = s.arbiter i := if_pos h

end arbiter

/-! ## An attempt, and a MEASURE -/

/-- A section that has started an attempt of `t` in a part that may send (R37, R43). -/
structure SectionCtl.Sends (x y : SectionCtl) (t : Txn) (now : Nat) : Prop where
  line : y.line = .owned
  inFlight : y.inFlight = some t
  exch : y.exch = .lead ⟨x.syncWord, .lead, [t.stepRecord]⟩ ⟨now, 20⟩

theorem State.sec_sendAttempt (s : State) (i : SectionId) (t : Txn) :
    (s.sendAttempt i t).sec i = ((s.sec i).withAttempt s.silent s.nowMs t).retime s.nowMs := by
  unfold State.sendAttempt
  rw [State.sec_modLine_self]

theorem State.sendAttempt_sends {s : State} (i : SectionId) (t : Txn) (hs : s.silent = false) :
    (s.sec i).Sends ((s.sendAttempt i t).sec i) t s.nowMs := by
  rw [State.sec_sendAttempt]
  exact ⟨rfl, rfl, if_neg (by simp [hs])⟩

/-- The arbiter sends the queue's head (R73). -/
theorem State.arbiter_sends {s : State} {i : SectionId} (hl : (s.sec i).line = .idle) (hp : (s.sec i).pairFree = true)
    (hm : s.measureRunnable i = false) (hs : s.silent = false) {t : Txn} {q : List Txn} (hq : (s.sec i).queue = t :: q) :
    (s.sec i).Sends ((s.arbiter i).sec i) t s.nowMs ∧ ((s.arbiter i).sec i).queue = q ∧ (s.arbiter i).events = s.events ∧
      (s.arbiter i).ltu = s.ltu ∧ ((s.arbiter i).sec i).slot = (s.sec i).slot ∧ ((s.arbiter i).sec i).round = (s.sec i).round := by
  rw [State.arbiter_head hl hp hm hs hq]
  have h := State.sendAttempt_sends (s := s.modSec i (fun x => { x with queue := q })) i t hs
  rw [State.sec_modSec_self] at h
  refine ⟨⟨h.line, h.inFlight, h.exch⟩, ?_, rfl, rfl, ?_, ?_⟩ <;> rw [State.sec_sendAttempt, State.sec_modSec_self] <;> rfl

/-- A MEASURE in the slot starts: the line is in TESTING and the slot empty (R119). -/
theorem State.startMeasure_spec {s : State} {i : SectionId} {g : Trigger} (hg : (s.sec i).slot = some g) :
    ((s.startMeasure i).sec i).line = .testing ∧ ((s.startMeasure i).sec i).slot = none ∧ ((s.startMeasure i).sec i).exch = .quiet ∧
    ((s.startMeasure i).sec i).queue = (s.sec i).queue ∧ ((s.startMeasure i).sec i).inFlight = (s.sec i).inFlight ∧
    (s.startMeasure i).ltuOf i = ⟨some ⟨g, s.seconds, s.nowMs, []⟩, (s.ltuOf i).last⟩ ∧
    (s.startMeasure i).events = s.events := by
  rw [State.startMeasure, hg]
  refine ⟨?_, ?_, ?_, ?_, ?_, by simp, rfl⟩ <;> rw [State.sec_modLine_self] <;> rfl

/-! ## What the arbiter leaves of a section -/

/-- What no act of the arbiter touches of its section: all but the line with its exchange and timers, the transactions, the slot,
and the round with its overrun mark and the bracket. -/
def SectionCtl.Worked (x y : SectionCtl) : Prop :=
  y = { x with
    line := y.line, exch := y.exch, stuckTimer := y.stuckTimer, breakTimer := y.breakTimer, quietTimer := y.quietTimer
    queue := y.queue, inFlight := y.inFlight, slot := y.slot, round := y.round, overrun := y.overrun, bracket := y.bracket }

theorem SectionCtl.Worked.refl (x : SectionCtl) : x.Worked x := rfl

theorem SectionCtl.Worked.trans {x y z : SectionCtl} (h1 : x.Worked y) (h2 : y.Worked z) : x.Worked z := by
  unfold SectionCtl.Worked at *
  rw [h2, h1]

theorem State.modSec_worked (s : State) (i : SectionId) (f : SectionCtl → SectionCtl) (h : (s.sec i).Worked (f (s.sec i))) :
    (s.sec i).Worked ((s.modSec i f).sec i) := by
  rwa [State.sec_modSec_self]

theorem State.modLine_worked (s : State) (i : SectionId) (f : SectionCtl → SectionCtl) (h : (s.sec i).Worked (f (s.sec i))) :
    (s.sec i).Worked ((s.modLine i f).sec i) := by
  rw [State.sec_modLine_self]
  exact h.trans rfl

theorem State.compareBracket_worked (s : State) (i : SectionId) : (s.sec i).Worked ((s.compareBracket i).sec i) := by
  unfold State.compareBracket
  dsimp only
  split
  · exact .refl _
  · rw [State.sec_post]
    exact s.modSec_worked i _ rfl
  · split
    · exact .refl _
    · rw [State.sec_post]
      exact s.modSec_worked i _ rfl

theorem State.closeRound_worked (s : State) (i : SectionId) : (s.sec i).Worked ((s.closeRound i).sec i) := by
  unfold State.closeRound
  split
  · refine ((s.modSec_worked i (fun x => { x with round := none }) rfl).trans ?_).trans (State.compareBracket_worked _ i)
    exact (congrArg (SectionCtl.Worked · _) (State.sec_post _ _ i)).mp (State.modSec_worked _ i _ rfl)
  · exact .refl _

theorem State.sendAttempt_worked (s : State) (i : SectionId) (t : Txn) : (s.sec i).Worked ((s.sendAttempt i t).sec i) :=
  s.modLine_worked i _ rfl

theorem State.arbitrateRound_worked (s : State) (i : SectionId) : (s.sec i).Worked ((s.arbitrateRound i).sec i) := by
  unfold State.arbitrateRound
  split
  · split
    · exact (s.modSec_worked i _ (by rfl)).trans (State.sendAttempt_worked _ i _)
    · exact s.closeRound_worked i
  · exact .refl _

theorem State.startMeasure_worked (s : State) (i : SectionId) : (s.sec i).Worked ((s.startMeasure i).sec i) := by
  unfold State.startMeasure
  split
  · exact State.modLine_worked (s.setLtu i _) i _ rfl
  · exact .refl _

theorem State.arbiter_worked (s : State) (i : SectionId) : (s.sec i).Worked ((s.arbiter i).sec i) := by
  unfold State.arbiter
  split
  · split
    · exact .refl _
    · split
      · exact s.startMeasure_worked i
      · split
        · exact .refl _
        · split
          · exact (s.modSec_worked i _ (by rfl)).trans (State.sendAttempt_worked _ i _)
          · exact s.arbitrateRound_worked i
  · split
    · exact s.startMeasure_worked i
    · exact .refl _
  all_goals exact .refl _

theorem State.workArrived_worked (s : State) (i : SectionId) : (s.sec i).Worked ((s.workArrived i).sec i) := by
  unfold State.workArrived
  split
  · exact s.arbiter_worked i
  · exact .refl _

end Sys2Proof.Machine
end

section
/-! SUPPORT. The entry of a line into IDLE, and a call notice as it is given to a section. -/

-- One theorem after another: elaborated side by side, they ask for more thread stacks than the check has memory for.
set_option Elab.async false

namespace Sys2Proof.Machine

/-! ## Entering IDLE -/

/-- A section whose line has entered IDLE, up to the arbiter's act (R63, R68): `tm` is the timing then in force. -/
def SectionCtl.Idled (x y : SectionCtl) (now : Nat) : Prop :=
  y = { x with
    timing := (match x.pendingTiming with | some v => some v | none => x.timing), pendingTiming := none, due := y.due
    line := .idle, exch := .quiet, idleSince := some now
    stuckTimer := y.stuckTimer, breakTimer := y.breakTimer, quietTimer := y.quietTimer }

theorem State.sec_settleIdle (s : State) (i : SectionId) : (s.sec i).Idled ((s.settleIdle i).sec i) s.nowMs := by
  obtain ⟨d, hd⟩ := s.sec_applyPending i
  unfold SectionCtl.Idled State.settleIdle
  rw [State.sec_modLine_self, hd]
  cases (s.sec i).pendingTiming <;> rfl

theorem SectionCtl.Idled.pairFree {x y : SectionCtl} {now : Nat} (h : x.Idled y now) : y.pairFree = x.pairFree := by
  rw [h]; rfl

theorem SectionCtl.Idled.syncWord {x y : SectionCtl} {now : Nat} (h : x.Idled y now) : y.syncWord = x.syncWord := by
  rw [h]; rfl

/-- What the entry into IDLE leaves of its section's transactions, slot and round. -/
theorem SectionCtl.Idled.held {x y : SectionCtl} {now : Nat} (h : x.Idled y now) :
    y.line = .idle ∧ y.queue = x.queue ∧ y.inFlight = x.inFlight ∧ y.slot = x.slot ∧ y.round = x.round ∧ y.exch = .quiet := by
  rw [h]
  exact ⟨rfl, rfl, rfl, rfl, rfl, rfl⟩

theorem State.settleIdle_holder (s : State) (i j : SectionId) : (s.settleIdle i).holder j = s.holder j :=
  (s.settleIdle_noCall i).calls.holder j

theorem State.settleIdle_runnable (s : State) (i : SectionId) : (s.settleIdle i).measureRunnable i = s.measureRunnable i := by
  unfold State.measureRunnable
  rw [(s.sec_settleIdle i).held.2.2.2.1, s.settleIdle_holder]

theorem State.settleIdle_tells (s : State) (i : SectionId) :
    s.Told (s.settleIdle i) (flipsTold (s.sec i).pendingTiming (s.postsByAddress i)) :=
  ⟨(s.settleIdle_noCall i).silent, (s.settleIdle_noCall i).seconds, s.applyPending_tells i⟩

theorem State.settleIdle_quiet (s : State) (i : SectionId) (h : (s.sec i).pendingTiming = none) : s.Told (s.settleIdle i) [] := by
  have ht := s.settleIdle_tells i
  rwa [h] at ht

/-- With no timing pending an entry into IDLE touches the section's line alone. -/
theorem State.settleIdle_byLine (s : State) (i : SectionId) (h : (s.sec i).pendingTiming = none) :
    s.ByLine i (s.settleIdle i) ∧ (s.settleIdle i).events = s.events ∧ (s.settleIdle i).ltu = s.ltu := by
  unfold State.settleIdle State.applyPending
  rw [h]
  exact ⟨s.modLine_byLine i _, rfl, rfl⟩

section enterIdle
variable {s : State} {i : SectionId}

/-- Whatever the arbiter then does, the idle-since time is set and the pending timing applied (R63, R68). -/
theorem State.enterIdle_settled (s : State) (i : SectionId) :
    ((s.enterIdle i).sec i).idleSince = some s.nowMs ∧ ((s.enterIdle i).sec i).pendingTiming = none ∧
    ((s.enterIdle i).sec i).timing = (match (s.sec i).pendingTiming with | some v => some v | none => (s.sec i).timing) := by
  unfold State.enterIdle
  have h := (s.settleIdle i).arbiter_worked i
  rw [s.sec_settleIdle i] at h
  rw [h]
  exact ⟨rfl, rfl, rfl⟩

theorem State.enterIdle_held (hp : (s.sec i).pairFree = false) : s.enterIdle i = s.settleIdle i :=
  State.arbiter_held (s.sec_settleIdle i).held.1 ((s.sec_settleIdle i).pairFree.trans hp)

theorem State.enterIdle_nothing (hm : s.measureRunnable i = false) (hq : (s.sec i).queue = []) (hr : (s.sec i).round = none) :
    s.enterIdle i = s.settleIdle i := by
  obtain ⟨hl, hqueue, _, _, hround, _⟩ := (s.sec_settleIdle i).held
  exact State.arbiter_nothing hl ((s.settleIdle_runnable i).trans hm) (hqueue.trans hq) (hround.trans hr)

theorem State.enterIdle_measure (hp : (s.sec i).pairFree = true) (hm : s.measureRunnable i = true) :
    s.enterIdle i = (s.settleIdle i).startMeasure i :=
  State.arbiter_measure (s.sec_settleIdle i).held.1 ((s.sec_settleIdle i).pairFree.trans hp) ((s.settleIdle_runnable i).trans hm)

/-- On a free pair, with no MEASURE that may run, the queue's head is sent at once (R68, R73). -/
theorem State.enterIdle_sends (hp : (s.sec i).pairFree = true) (hm : s.measureRunnable i = false) (hs : s.silent = false) {t : Txn}
    {q : List Txn} (hq : (s.sec i).queue = t :: q) :
    (s.sec i).Sends ((s.enterIdle i).sec i) t s.nowMs ∧ ((s.enterIdle i).sec i).queue = q ∧
      (s.enterIdle i).events = (s.settleIdle i).events ∧ (s.enterIdle i).ltu = (s.settleIdle i).ltu ∧
      ((s.enterIdle i).sec i).slot = (s.sec i).slot := by
  have hid := s.sec_settleIdle i
  obtain ⟨hl, hqueue, _, hslot, _, _⟩ := hid.held
  have hframe := s.settleIdle_noCall i
  obtain ⟨hsend, hq', he, hltu, hslot', _⟩ := State.arbiter_sends hl (hid.pairFree.trans hp) ((s.settleIdle_runnable i).trans hm)
    (hframe.silent.trans hs) (hqueue.trans hq)
  exact ⟨⟨hsend.line, hsend.inFlight, by rw [← hid.syncWord, ← hframe.nowMs]; exact hsend.exch⟩, hq', he, hltu, hslot'.trans hslot⟩

/-- An empty queue leaves the arbiter to the open round (R73). -/
theorem State.enterIdle_round (hp : (s.sec i).pairFree = true) (hm : s.measureRunnable i = false) (hs : s.silent = false)
    (hq : (s.sec i).queue = []) : s.enterIdle i = (s.settleIdle i).arbitrateRound i :=
  State.arbiter_round (s.sec_settleIdle i).held.1 ((s.sec_settleIdle i).pairFree.trans hp) ((s.settleIdle_runnable i).trans hm)
    ((s.settleIdle_noCall i).silent.trans hs) ((s.sec_settleIdle i).held.2.1.trans hq)

end enterIdle

/-! ## The next poll of a round -/

theorem State.entryAt_congr {s t : State} (hd : t.dir = s.dir) (hr : t.rosters = s.rosters) (i : SectionId) (a : Addr) :
    t.entryAt i a = s.entryAt i a := by
  unfold State.entryAt State.slotAt State.lookup State.entry
  rw [hd, hr]

theorem State.eligibleAddr_congr {s t : State} (hd : t.dir = s.dir) (hr : t.rosters = s.rosters) (i : SectionId) (a : Addr) :
    t.eligibleAddr i a = s.eligibleAddr i a := by
  unfold State.eligibleAddr
  rw [State.entryAt_congr hd hr]

theorem mem_postAddrs (a : Addr) : a ∈ postAddrs ↔ 1 ≤ a.val := by
  revert a
  decide

/-- The next eligible address is the first eligible one at or above the cursor (R103). -/
theorem State.nextEligible_eq_some {s : State} {i : SectionId} {n : Nat} {a : Addr} (hn : n ≤ a.val) (h1 : 1 ≤ a.val)
    (he : s.eligibleAddr i a = true) (hfirst : ∀ b : Addr, n ≤ b.val → b < a → s.eligibleAddr i b = false ∨ b = 0) :
    s.nextEligible i n = some a := by
  have hmem : a ∈ postAddrs := (mem_postAddrs a).2 h1
  have hsorted : postAddrs.Pairwise (· < ·) := by decide
  have hpos : ∀ b ∈ postAddrs, b ≠ 0 := by decide
  obtain ⟨l, r, hlr⟩ := List.append_of_mem hmem
  unfold State.nextEligible
  rw [hlr] at hsorted hpos ⊢
  refine List.find?_eq_some_iff_append.2 ⟨by simp [hn, he], l, r, rfl, fun b hb => ?_⟩
  have hlt : b < a := (List.pairwise_append.1 hsorted).2.2 b hb a (by simp)
  have hb0 : b ≠ 0 := hpos b (by simp [hb])
  by_cases hnb : n ≤ b.val
  · have hel : s.eligibleAddr i b = false := (hfirst b hnb hlt).resolve_right hb0
    simp [hel]
  · simp [hnb]

theorem State.nextEligible_eq_none {s : State} {i : SectionId} {n : Nat}
    (h : ∀ b : Addr, n ≤ b.val → 1 ≤ b.val → s.eligibleAddr i b = false) : s.nextEligible i n = none := by
  unfold State.nextEligible
  rw [List.find?_eq_none]
  intro b hb
  simp only [Bool.and_eq_true, decide_eq_true_eq, not_and, Bool.not_eq_true]
  exact fun hn => h b hn ((mem_postAddrs b).1 hb)

theorem State.nextEligible_isSome {s : State} {i : SectionId} {n : Nat} {a : Addr} (hn : n ≤ a.val) (h1 : 1 ≤ a.val)
    (he : s.eligibleAddr i a = true) : (s.nextEligible i n).isSome = true := by
  unfold State.nextEligible
  rw [List.find?_isSome]
  exact ⟨a, (mem_postAddrs a).2 h1, by simp [hn, he]⟩

/-- The arbiter polls the next eligible address (R103). -/
theorem State.arbitrateRound_polls {s : State} {i : SectionId} {r : Round} {a : Addr} (hr : (s.sec i).round = some r)
    (ha : s.nextEligible i r.cursor = some a) (hs : s.silent = false) :
    (s.sec i).Sends ((s.arbitrateRound i).sec i) (pollTxn r.kept a) s.nowMs ∧
      ((s.arbitrateRound i).sec i).round = some { r with cursor := a.val, kept := none } := by
  have hsend := State.sendAttempt_sends (s := s.modSec i (fun x => { x with round := some { r with cursor := a.val, kept := none } }))
    i (pollTxn r.kept a) hs
  have hround : s.arbitrateRound i =
      (s.modSec i (fun x => { x with round := some { r with cursor := a.val, kept := none } })).sendAttempt i (pollTxn r.kept a) := by
    rw [State.arbitrateRound, hr]
    dsimp only
    rw [ha]
  rw [hround]
  rw [State.sec_modSec_self] at hsend
  exact ⟨⟨hsend.line, hsend.inFlight, hsend.exch⟩, by rw [State.sec_sendAttempt, State.sec_modSec_self]; rfl⟩

end Sys2Proof.Machine
end

section
/-! SUPPORT. The arithmetic, and SET CHANNEL. -/

-- One theorem after another: elaborated side by side, they ask for more thread stacks than the check has memory for.
set_option Elab.async false

namespace Sys2Proof.Machine

/-! ## Chainages, distances and scores -/

theorem SectionDef.chainage_eq (d : SectionDef) (o : Nat) :
    d.chainage o = (match d.sign with
      | .plus => if 999999 < d.base + o then (999999, true) else (d.base + o, false)
      | .minus => if d.base < o then (0, true) else if 999999 < d.base - o then (999999, true) else (d.base - o, false)) := by
  have hmax : (Config.chainageMax : Int) = 999999 := rfl
  unfold SectionDef.chainage
  dsimp only
  rw [hmax]
  cases d.sign with
  | plus =>
    dsimp only
    rw [if_neg (by omega)]
    split
    · rw [if_pos (by omega)]; rfl
    · rw [if_neg (by omega)]
      congr 1
  | minus =>
    dsimp only
    by_cases hlow : d.base < o
    · rw [if_pos (by omega), if_pos hlow]
    · rw [if_neg (by omega), if_neg hlow]
      by_cases hhigh : 999999 < d.base - o
      · rw [if_pos (by omega), if_pos hhigh]; rfl
      · rw [if_neg (by omega), if_neg hhigh]
        congr 1
        omega

theorem SectionDef.chainage_le (d : SectionDef) (o : Nat) : (d.chainage o).1 ≤ 999999 := by
  rw [d.chainage_eq]
  cases d.sign with
  | plus => dsimp only; split <;> dsimp only <;> omega
  | minus =>
    dsimp only
    split
    · exact Nat.zero_le _
    · split <;> dsimp only <;> omega

theorem SectionDef.distance_le (d : SectionDef) (rm : Nat) : (d.distance rm).1 ≤ d.length := by
  unfold SectionDef.distance
  split
  · exact Nat.le_refl _
  · next h => exact Nat.le_of_not_lt h

theorem State.score_eq (s : State) (c : Call) :
    s.score c = min 15 ((match c.cls with
      | .tunnel => s.globals.baseTunnel
      | .bridge => s.globals.baseBridge
      | .openRoad => s.globals.baseOpen
      | .service => s.globals.baseService) + min 7 ((s.seconds - c.arrival) / s.globals.ageing) + c.boost) := by
  unfold State.score Globals.classBase ageingSteps
  cases c.cls <;> rfl

/-! ## SET CHANNEL -/

theorem chanOf_val (c : ChanId) : chanOf c.val = some c := dif_pos c.isLt

section setChannel
variable {s : State} {c : ChanId}

theorem State.setChannelOutAct_leaves (h : (s.chan c).state = .free ∨ (s.chan c).state = .down) :
    s.setChannelOutAct c.val 1 =
      ((s.setChan c ⟨.out, (s.chan c).ready, (s.chan c).call⟩).post (.channelState c .out (s.chan c).ready .setOut), .ok,
        .channelMove (s.chan c).state .out) := by
  unfold State.setChannelOutAct
  rw [chanOf_val]
  obtain h | h := h <;> simp [h]

theorem State.setChannelOutAct_out (h : (s.chan c).state = .out) :
    s.setChannelOutAct c.val 1 = (s, .ok, .channelMove .out .out) := by
  unfold State.setChannelOutAct
  rw [chanOf_val]
  simp [h]

theorem State.setChannelOutAct_busy (h : (s.chan c).state.busy = true) {r : Nat} (hr : (s.chan c).call = some r) :
    s.setChannelOutAct c.val 1 = (s, .channelBusy, .channelBusy r (s.chan c).state (s.chan c).state) := by
  unfold State.setChannelOutAct
  rw [chanOf_val]
  cases hs : (s.chan c).state with
  | free | down | out =>
    rw [hs] at h
    cases h
  | offering | ringing | connected => simp [hs, hr]

theorem State.setChannelInAct_in (h : (s.chan c).state ≠ .out) :
    s.setChannelInAct c.val 0 = (s, .ok, .channelMove (s.chan c).state (s.chan c).state) := by
  unfold State.setChannelInAct
  rw [chanOf_val]
  exact if_neg h

theorem State.setChannelInAct_down (h : (s.chan c).state = .out) (hr : (s.chan c).ready = false) :
    s.setChannelInAct c.val 0 =
      ((s.setChan c ⟨.down, false, none⟩).post (.channelState c .down false .setIn), .ok, .channelMove .out .down) := by
  unfold State.setChannelInAct
  rw [chanOf_val]
  simp [h, hr, Channel.released]

theorem State.setChannelInAct_free (h : (s.chan c).state = .out) (hr : (s.chan c).ready = true) :
    s.setChannelInAct c.val 0 =
      (((s.setChan c ⟨.free, true, none⟩).post (.channelState c .free true .setIn)).markDispatch.finish, .ok,
        .channelMove .out .free) := by
  unfold State.setChannelInAct
  rw [chanOf_val]
  simp [h, hr, Channel.released]

end setChannel

end Sys2Proof.Machine

open Sys2Proof Sys2Proof.Machine

/-- Settles O60: each place's case distinction read off its definition. -/
theorem locationsDistancesAndScoresStayInRange : Obligations.LocationsDistancesAndScoresStayInRange := by
  refine ⟨fun d o => ⟨d.chainage_le o, fun hp => ?_, fun hm => ?_⟩, fun a b _ => by simp [unsteady], fun d rm => ?_,
    fun s c => ⟨Nat.min_le_left 15 _, s.score_eq c⟩⟩
  · rw [d.chainage_eq, hp]
    exact ⟨fun h => if_neg (by omega), fun h => if_pos h⟩
  · rw [d.chainage_eq, hm]
    exact ⟨fun h h' => (if_neg (by omega)).trans (if_neg (by omega)), fun h => if_pos h⟩
  · refine ⟨d.distance_le rm, fun h => if_pos h, fun h => if_neg (by omega), ?_, fun h => ?_⟩
    · unfold SectionDef.distance
      split <;> simp [*]
    · unfold SectionDef.distance
      rw [if_neg (by omega)]

/-- Settles O36: SET CHANNEL case by case of the state that the channel is found in. -/
theorem setChannelTakesAChannelOutAndIn : Obligations.SetChannelTakesAChannelOutAndIn := by
  intro h s c x f hx
  subst hx
  exact ⟨fun hf ha => by
      subst hf
      exact ⟨fun hst => exec_of_act rfl ha (State.setChannelOutAct_leaves (s := s.taking _) hst),
        fun hst => exec_of_act rfl ha (State.setChannelOutAct_out (s := s.taking _) hst),
        fun hst r hr => exec_of_act rfl ha (State.setChannelOutAct_busy (s := s.taking _) hst hr)⟩,
    fun hf ha => by
      subst hf
      exact ⟨fun hst => exec_of_act rfl ha (State.setChannelInAct_in (s := s.taking _) hst),
        fun hst hr => exec_of_act rfl ha (State.setChannelInAct_down (s := s.taking _) hst hr),
        fun hst hr => exec_of_act rfl ha (State.setChannelInAct_free (s := s.taking _) hst hr)⟩⟩
end

section
/-! SUPPORT. The power states of a section. -/

-- One theorem after another: elaborated side by side, they ask for more thread stacks than the check has memory for.
set_option Elab.async false

namespace Sys2Proof.Machine

/-! ## Settling -/

/-- R84's conditions, with the section's definition at hand. -/
theorem State.maySettle_iff {s : State} {i : SectionId} {d : SectionDef} (hd : (s.sec i).defn = some d) :
    s.maySettle i = true ↔
      d.hibernate = true ∧ (s.sec i).power = .active ∧ (s.sec i).line = .idle ∧ (s.sec i).pairFree = true ∧
      (s.sec i).space = false ∧ (s.sec i).episode = false ∧ (s.sec i).queue = [] ∧ (s.sec i).slot = none ∧
      (s.sec i).round = none ∧ (s.sec i).roundDue = false ∧ s.holder i = none ∧
      (∀ c ∈ s.calls, c.sec = i → c.state = .abandoned) ∧
      ∃ t, (s.sec i).idleSince = some t ∧ t + 1000 * (s.sec i).timingD.idleHold ≤ s.nowMs := by
  have hdef : (s.sec i).defnD = d := by simp [SectionCtl.defnD, hd]
  have hheld : (s.sec i).idleHeld s.nowMs = true ↔
      ∃ t, (s.sec i).idleSince = some t ∧ t + 1000 * (s.sec i).timingD.idleHold ≤ s.nowMs := by
    unfold SectionCtl.idleHeld
    cases (s.sec i).idleSince <;> simp
  unfold State.maySettle State.callsOn
  simp only [hdef, Bool.and_eq_true, beq_iff_eq, Bool.not_eq_true', List.isEmpty_iff, Option.isNone_iff_eq_none, hheld,
    List.all_eq_true, List.mem_filter]
  tauto

theorem State.enterSettling_passed {s : State} {i : SectionId} (h : s.maySettle i ≠ true) : s.enterSettling i = s := if_neg h

theorem State.enterSettling_settles {s : State} {i : SectionId} (h : s.maySettle i = true) (hs : s.silent = false) :
    s.enterSettling i = s.setSec i { s.sec i with
      power := .settling .shutdown, line := .down, exch := .shutdown ⟨(s.sec i).syncWord, .absent, [⟨0, .shutdown⟩]⟩,
      idleSince := none, stuckTimer := none, breakTimer := none, quietTimer := none } := by
  unfold State.enterSettling State.modLine
  rw [if_pos h, SectionCtl.retime_asleep _ (by simp)]
  simp [sending, hs, SectionCtl.shutdownBurst]

theorem State.shutdownDone_settles {s : State} {i : SectionId} {b : Burst} (hp : (s.sec i).power = .settling .shutdown)
    (he : (s.sec i).exch = .shutdown b) :
    s.shutdownDone i = s.setSec i { s.sec i with
      power := .settling .settle, exch := .quiet, settleTimer := some ⟨s.nowMs, 1000⟩, stuckTimer := none, breakTimer := none,
      quietTimer := none } := by
  unfold State.shutdownDone State.modLine
  rw [hp, he]
  dsimp only
  rw [SectionCtl.retime_asleep _ (by simp)]
  rfl

/-! ## The end of the settle -/

theorem State.arrive_hibernate {s : State} {i : SectionId} (w : WakeReason) (h : (s.sec i).power = .hibernate) :
    s.arrive i w = s.setSec i ((s.sec i).woken s.nowMs (ReasonSet.empty.add w)) := by
  unfold State.arrive
  rw [h]
  exact s.startWake_eq i _

theorem State.arrive_waking {s : State} {i : SectionId} (w : WakeReason) {ph : WakePhase} (h : (s.sec i).power = .waking ph) :
    s.arrive i w = s.setSec i { s.sec i with reasons := (s.sec i).reasons.add w } := by
  unfold State.arrive
  rw [h]
  rfl

theorem State.arrive_active {s : State} {i : SectionId} (w : WakeReason) (h : (s.sec i).power = .active) : s.arrive i w = s := by
  unfold State.arrive
  rw [h]

theorem State.arrive_settling {s : State} {i : SectionId} (w : WakeReason) {part : SettlePart}
    (h : (s.sec i).power = .settling part) : s.arrive i w = s.toActive i := by
  unfold State.arrive
  rw [h]

/-- A section whose settle is over (R85). -/
def SectionCtl.asleep (x : SectionCtl) : SectionCtl :=
  { x with power := .hibernate, settleTimer := none, stuckTimer := none, breakTimer := none, quietTimer := none }

/-- Section `i` hibernates at the millisecond `now`, and tells it (R85). -/
def State.hibernated (i : SectionId) (now : Nat) (s : State) : State :=
  { (s.reach now).setSec i (s.sec i).asleep with events := (s.post (.sectionState i .hibernate .empty)).events }

theorem State.post_eq (s : State) (b : EventBody) : s.post b = { s with events := (s.post b).events } := State.postAll_eq [b] s

section settle
variable {s : State} {i : SectionId} {tm : Timer}

theorem State.hibernated_of_post (s : State) (i : SectionId) (n : Nat) :
    ((s.reach n).setSec i (s.sec i).asleep).post (.sectionState i .hibernate .empty) = s.hibernated i n := by
  have he := State.post_events_congr (.sectionState i .hibernate .empty) (s := s) (t := (s.reach n).setSec i (s.sec i).asleep)
    rfl rfl rfl
  rw [State.post_eq, he]
  rfl

theorem State.settleEnds_sleeps (hp : (s.sec i).power = .settling .settle) (ht : (s.sec i).settleTimer = some tm) :
    s.settleEnds i false = s.hibernated i (tm.start + tm.dur) := by
  rw [← State.hibernated_of_post]
  unfold State.settleEnds State.modLine
  rw [hp, ht]
  dsimp only
  rw [SectionCtl.retime_asleep _ (by simp)]
  rfl

theorem State.sec_hibernated (s : State) (i : SectionId) (n : Nat) : (s.hibernated i n).sec i = (s.sec i).asleep :=
  (s.reach n).sec_setSec_self i _

theorem State.settleEnds_wakes (hp : (s.sec i).power = .settling .settle) (ht : (s.sec i).settleTimer = some tm) :
    s.settleEnds i true = (s.hibernated i (tm.start + tm.dur)).setSec i
      ((s.sec i).asleep.woken (max s.nowMs (tm.start + tm.dur)) ⟨true, false, false, false, false⟩) := by
  have hwake := State.arrive_hibernate (s := s.hibernated i (tm.start + tm.dur)) (i := i) .post (by rw [State.sec_hibernated]; rfl)
  rw [State.sec_hibernated] at hwake
  refine Eq.trans ?_ hwake
  rw [← State.settleEnds_sleeps hp ht]
  unfold State.settleEnds
  rw [hp, ht]
  rfl

end settle

end Sys2Proof.Machine

open Sys2Proof Sys2Proof.Machine

/-- Settles O46: `maySettle` is R84's list of conditions, and outside ACTIVE no line timer runs. -/
theorem settlingBeginsWhenEveryConditionHolds : Obligations.SettlingBeginsWhenEveryConditionHolds := by
  intro s i x hx
  subst hx
  refine ⟨fun d t0 hd hs ⟨h1, h2, h3, h4, h5, h6, h7, h8, h9, h10, h11, h12, h13, h14⟩ => ?_, fun d hd hmiss => ?_,
    fun b hp he => congrArg Host.Outcome.next (State.shutdownDone_settles hp he)⟩
  · have hall := (State.maySettle_iff hd).2 ⟨h1, h2, h3, h4, h5, h6, h7, h8, h9, h10, h11, h12, t0, h13, h14⟩
    have hw : (s.sec i).syncWord = d.sync := by rw [SectionCtl.syncWord, hd]
    rw [← hw]
    exact congrArg Host.Outcome.next (State.enterSettling_settles hall hs)
  · refine congrArg Host.Outcome.next (State.enterSettling_passed (fun hall => ?_))
    obtain ⟨h1, h2, h3, h4, h5, h6, h7, h8, h9, h10, h11, h12, t0, h13, h14⟩ := (State.maySettle_iff hd).1 hall
    obtain h | h | h | h | h | h | h | h | h | h | h | ⟨c, hc, hci, hst⟩ | h := hmiss
    · simp [h1] at h
    · exact h h2
    · exact h h3
    · simp [h4] at h
    · simp [h5] at h
    · simp [h6] at h
    · exact h h7
    · exact h h8
    · exact h h9
    · simp [h10] at h
    · exact h h11
    · exact hst (h12 c hc hci)
    · exact absurd h14 (Nat.not_le.2 (h t0 h13))

/-- Settles O47: the settle's end puts the section to sleep, and off-hook current at that moment is a wake cause in HIBERNATE. -/
theorem settleEndsInHibernateAndOffHookWakes : Obligations.SettleEndsInHibernateAndOffHookWakes := by
  intro s i x hx
  subst hx
  refine ⟨fun tm hp ht => ⟨⟨_, congrArg Host.Outcome.next (State.settleEnds_sleeps hp ht), ?_⟩,
      ⟨_, congrArg Host.Outcome.next (State.settleEnds_wakes hp ht), ?_⟩⟩, fun hp => ?_, fun hp => ?_⟩
  · exact ⟨s.sec_hibernated i _, rfl, rfl, fun j hj => (s.reach _).sec_setSec_ne _ hj⟩
  · exact ⟨State.sec_setSec_self _ i _, rfl, rfl,
      fun j hj => (State.sec_setSec_ne _ _ hj).trans ((s.reach _).sec_setSec_ne _ hj)⟩
  · exact congrArg Host.Outcome.next ((if_pos hp).trans (State.arrive_hibernate .post hp))
  · exact congrArg Host.Outcome.next (if_neg hp)
end

section
/-! SUPPORT. What the close of a round leaves of its section; FORCE IDLE, and the end of UNKNOWN. -/

-- One theorem after another: elaborated side by side, they ask for more thread stacks than the check has memory for.
set_option Elab.async false

namespace Sys2Proof.Machine

/-! ## What the close of a round leaves of its section -/

/-- What the opening and closing of a round leave of their section: all but the round, its overrun mark and the bracket. -/
def SectionCtl.Counted (x y : SectionCtl) : Prop := y = { x with round := y.round, overrun := y.overrun, bracket := y.bracket }

theorem SectionCtl.Counted.refl (x : SectionCtl) : x.Counted x := rfl

theorem SectionCtl.Counted.trans {x y z : SectionCtl} (h1 : x.Counted y) (h2 : y.Counted z) : x.Counted z := by
  unfold SectionCtl.Counted at *
  rw [h2, h1]

theorem State.modSec_counted (s : State) (i : SectionId) (f : SectionCtl → SectionCtl)
    (h : (s.sec i).Counted (f (s.sec i)) := by rfl) : (s.sec i).Counted ((s.modSec i f).sec i) := by
  rwa [State.sec_modSec_self]

theorem State.compareBracket_counted (s : State) (i : SectionId) : (s.sec i).Counted ((s.compareBracket i).sec i) := by
  unfold State.compareBracket
  dsimp only
  split
  · exact .refl _
  · rw [State.sec_post]
    exact s.modSec_counted i _
  · split
    · exact .refl _
    · rw [State.sec_post]
      exact s.modSec_counted i _

theorem State.closeRound_counted (s : State) (i : SectionId) : (s.sec i).Counted ((s.closeRound i).sec i) := by
  unfold State.closeRound
  split
  · refine ((s.modSec_counted i (fun x => { x with round := none })).trans ?_).trans (State.compareBracket_counted _ i)
    exact (congrArg (SectionCtl.Counted · _) (State.sec_post _ _ i)).mp (State.modSec_counted _ i _)
  · exact .refl _

theorem State.closeIfDone_counted (s : State) (i : SectionId) : (s.sec i).Counted ((s.closeIfDone i).sec i) := by
  unfold State.closeIfDone
  split
  · split
    · exact .refl _
    · exact s.closeRound_counted i
  · exact .refl _

theorem State.openRound_counted (s : State) (i : SectionId) : (s.sec i).Counted ((s.openRound i).sec i) :=
  (s.modSec_counted i _).trans (State.closeIfDone_counted _ i)

theorem State.pollEnded_counted (s : State) (i : SectionId) (a : Addr) (f : Round → Round) :
    (s.sec i).Counted ((s.pollEnded i a f).sec i) := by
  unfold State.pollEnded
  split
  · exact (s.modSec_counted i _).trans (State.closeIfDone_counted _ i)
  · exact .refl _

/-! ## The settle quiet timer outside UNKNOWN -/

/-- The settle quiet timer runs in UNKNOWN alone (R66). -/
theorem SectionCtl.retime_quiet {x : SectionCtl} (now : Nat) (h : x.line ≠ .unknown) : (x.retime now).quietTimer = none := by
  refine if_neg ?_
  simp [SectionCtl.quietRuns, h]

theorem State.arbitrateRound_quiet {s : State} {i : SectionId} (h : (s.sec i).quietTimer = none) :
    ((s.arbitrateRound i).sec i).quietTimer = none := by
  unfold State.arbitrateRound
  split
  · split
    · rw [State.sec_sendAttempt]
      exact SectionCtl.retime_quiet _ (by simp [SectionCtl.withAttempt])
    · rw [s.closeRound_counted i]
      exact h
  · exact h

theorem State.startMeasure_quiet {s : State} {i : SectionId} (h : (s.sec i).quietTimer = none) :
    ((s.startMeasure i).sec i).quietTimer = none := by
  unfold State.startMeasure
  split
  · rw [State.sec_modLine_self]
    exact SectionCtl.retime_quiet _ (by simp)
  · exact h

theorem State.arbiter_quiet {s : State} {i : SectionId} (h : (s.sec i).quietTimer = none) :
    ((s.arbiter i).sec i).quietTimer = none := by
  unfold State.arbiter
  split
  · split
    · exact h
    · split
      · exact State.startMeasure_quiet h
      · split
        · exact h
        · split
          · rw [State.sec_sendAttempt]
            exact SectionCtl.retime_quiet _ (by simp [SectionCtl.withAttempt])
          · exact State.arbitrateRound_quiet h
  · split
    · exact State.startMeasure_quiet h
    · exact h
  all_goals exact h

theorem State.enterIdle_quiet (s : State) (i : SectionId) : ((s.enterIdle i).sec i).quietTimer = none := by
  refine State.arbiter_quiet ?_
  unfold State.settleIdle
  rw [State.sec_modLine_self]
  exact SectionCtl.retime_quiet _ (by simp)

/-! ## Entries rewritten in place -/

/-- Where each entry is rewritten in its place, under its own post number, so is each post's entry. -/
theorem State.lookup_map {s t : State} {f : PostEntry → PostEntry} (hf : ∀ e, (f e).post = e.post)
    (h : ∀ r c, t.entry r c = (s.entry r c).map f) (p : Nat) :
    t.lookup p = (s.lookup p).map (fun x => (x.1, f x.2)) := by
  unfold State.lookup
  rw [h, h]
  cases h0 : s.entry (rowOf p) 0 with
  | none =>
    cases h1 : s.entry (rowOf p) 1 with
    | none => rfl
    | some e1 => by_cases he : e1.post = p <;> simp [hf, he]
  | some e0 =>
    by_cases he0 : e0.post = p
    · simp [hf, he0]
    · cases h1 : s.entry (rowOf p) 1 with
      | none => simp [hf, he0]
      | some e1 => by_cases he : e1.post = p <;> simp [hf, he0, he]

theorem State.entryAt_map {s t : State} {f : PostEntry → PostEntry} (hf : ∀ e, (f e).post = e.post)
    (h : ∀ r c, t.entry r c = (s.entry r c).map f) (hr : t.rosters = s.rosters) (i : SectionId) (a : Addr) :
    t.entryAt i a = (s.entryAt i a).map f := by
  have hslot : t.slotAt i a = s.slotAt i a := by
    unfold State.slotAt
    rw [hr]
  unfold State.entryAt
  rw [hslot]
  cases s.slotAt i a with
  | none => rfl
  | some p =>
    dsimp only
    rw [State.lookup_map hf h, Option.map_map, Option.map_map]
    rfl

/-- A pending timing that is applied rewrites the reachable marks of its section's entries alone (R64). -/
def rethresholded (i : SectionId) (v : Option Timing) (e : PostEntry) : PostEntry :=
  match v with
  | some v => if e.sec = i then e.rethreshold v.unreachable else e
  | none => e

theorem rethresholded_post (i : SectionId) (v : Option Timing) (e : PostEntry) : (rethresholded i v e).post = e.post := by
  unfold rethresholded
  split
  · split <;> rfl
  · rfl

theorem rethresholded_service (i : SectionId) (v : Option Timing) (e : PostEntry) :
    (rethresholded i v e).service = e.service := by
  unfold rethresholded
  split
  · split <;> rfl
  · rfl

theorem State.entry_applyPending (s : State) (i : SectionId) (r : Fin 64) (c : Fin 2) :
    (s.applyPending i).entry r c = (s.entry r c).map (rethresholded i (s.sec i).pendingTiming) := by
  unfold State.applyPending
  split
  · next v hv =>
    rw [hv, State.entry_applyTiming]
    rfl
  · next hv =>
    rw [hv]
    exact Option.map_id'.symm

/-- The entry into IDLE leaves every address as eligible as it was. -/
theorem State.settleIdle_eligible (s : State) (i j : SectionId) (a : Addr) :
    (s.settleIdle i).eligibleAddr j a = s.eligibleAddr j a := by
  unfold State.eligibleAddr
  rw [State.entryAt_map (t := s.settleIdle i) (rethresholded_post i _) (s.entry_applyPending i) (s.settleIdle_noCall i).rosters]
  cases s.entryAt j a with
  | none => rfl
  | some e =>
    dsimp only [Option.map_some]
    rw [rethresholded_service]

/-! ## The end of UNKNOWN -/

theorem State.settleIdle_ltu (s : State) (i : SectionId) : (s.settleIdle i).ltu = s.ltu := by
  unfold State.settleIdle State.applyPending State.applyTiming State.applyThreshold
  split <;> simp

theorem State.reach_self (s : State) : s.reach s.nowMs = s := by
  unfold State.reach
  rw [Nat.max_self]

theorem State.endMark_unknown {s : State} {i : SectionId} (h : (s.sec i).line = .unknown) :
    s.endMark i = (s.reach s.nowMs).enterIdle i := by
  rw [State.reach_self]
  exact if_pos h

theorem State.settleQuiet_ends {s : State} {i : SectionId} {tm : Timer} (h : (s.sec i).quietTimer = some tm) :
    s.settleQuiet i = (s.reach (tm.start + tm.dur)).enterIdle i := by
  rw [State.settleQuiet, h]
  rfl

end Sys2Proof.Machine

open Sys2Proof Sys2Proof.Machine

/-- Settles O32: FORCE IDLE is an entry into IDLE from UNKNOWN, and nothing elsewhere. -/
theorem forceIdleEndsUnknown : Obligations.ForceIdleEndsUnknown := by
  intro h s i f hf ha hd
  subst hf
  refine ⟨fun hoff => exec_of_act rfl ha (State.onSectionInService_off (s.taking _) i _ hd hoff), fun hon hne => ?_,
    fun hact hline => ⟨?_, fun hp => ?_, State.enterIdle_quiet _ i⟩⟩
  · refine exec_of_act rfl ha ((State.onSectionInService_found (s.taking _) i _ hd hon).trans ?_)
    exact congrArg (fun t => (t, Status.ok, ReplyBody.idleFound (s.sec i).power (s.sec i).line)) (if_neg hne)
  · refine exec_of_act rfl ha ((State.onSectionInService_found (s.taking _) i _ hd (by simp [hact])).trans ?_)
    simp only [State.sec_taking, hact, hline, and_self, if_true]
  · rw [State.enterIdle_held (s := s.taking _) hp]
    exact ((s.taking _).sec_settleIdle i).held.1

/-- Settles O57: either command is an entry into IDLE at the millisecond `now`, and the arbiter's order decides what follows. -/
theorem enteringIdleServesMeasureThenQueueThenRound : Obligations.EnteringIdleServesMeasureThenQueueThenRound := by
  intro s i x cmd now hx hcmd
  subst hx
  refine ⟨?_, fun hne => congrArg Host.Outcome.next (if_neg hne)⟩
  obtain ⟨n, hexec, hnow⟩ : ∃ n, exec cmd s = .next ((s.reach n).enterIdle i) ∧ (s.reach n).nowMs = now := by
    obtain ⟨rfl, hline, rfl⟩ | ⟨tm, rfl, ht, rfl⟩ := hcmd
    · exact ⟨s.nowMs, congrArg Host.Outcome.next (State.endMark_unknown hline), Nat.max_self _⟩
    · exact ⟨tm.start + tm.dur, congrArg Host.Outcome.next (State.settleQuiet_ends ht), rfl⟩
  have hframe := (s.reach n).enterIdle_noCall i
  have hset := (s.reach n).enterIdle_settled i
  rw [hnow] at hset
  refine ⟨_, hexec, hset.1, hframe.nowMs.trans hnow, hset.2.1, hset.2.2, fun hp => ?_, fun g hp hg hrun => ?_,
    fun hp hslot hs => ⟨fun q qs hq => ?_, fun r a hq hr hk hc h1 hel hfirst => ?_, fun hq hr => ?_⟩,
    ⟨hframe.rx, hframe.buffer, hframe.resetHeld, hframe.poweringUp⟩, ⟨hframe.reply, hframe.headTaken⟩, hframe.rosters,
    hframe.unresolved, hframe.calls, hframe.others, hframe.seconds, hframe.mode, hframe.globals⟩
  · rw [State.enterIdle_held (s := s.reach n) hp]
    obtain ⟨hl, hq, hin, _⟩ := ((s.reach n).sec_settleIdle i).held
    exact ⟨hl, hin, hq⟩
  · have hm : (s.reach n).measureRunnable i = true := by
      obtain rfl | hfree := hrun
      · exact State.measureRunnable_auto hg
      · cases g with
        | auto => exact State.measureRunnable_auto hg
        | host => exact (State.measureRunnable_host (s := s.reach n) hg).trans (by simp [hfree])
    obtain ⟨hl, hq, hin, hslot, _⟩ := ((s.reach n).sec_settleIdle i).held
    obtain ⟨hl', hslot', _, hq', _, hltu, _⟩ := State.startMeasure_spec (hslot.trans hg)
    rw [State.enterIdle_measure (s := s.reach n) hp hm]
    refine ⟨hl', hslot', hq'.trans hq, hltu.trans ?_⟩
    rw [((s.reach n).settleIdle_noCall i).seconds, ((s.reach n).settleIdle_noCall i).nowMs, hnow, State.ltuOf, State.settleIdle_ltu]
    rfl
  all_goals
    have hm : (s.reach n).measureRunnable i = false := by
      obtain h | ⟨h, hh⟩ := hslot
      · exact State.measureRunnable_none h
      · exact (State.measureRunnable_host (s := s.reach n) h).trans (by cases hj : s.holder i <;> simp_all)
  · obtain ⟨hsend, hq', _, _, hslot'⟩ := State.enterIdle_sends (s := s.reach n) hp hm hs hq
    exact ⟨hsend.line, hsend.inFlight, hq', hslot', by rw [← hnow]; exact hsend.exch⟩
  · have hidle := (s.reach n).settleIdle_noCall i
    have hid := (s.reach n).sec_settleIdle i
    obtain ⟨_, _, _, _, hround, _⟩ := hid.held
    have hnext : ((s.reach n).settleIdle i).nextEligible i r.cursor = some a :=
      State.nextEligible_eq_some hc h1 (((s.reach n).settleIdle_eligible i i a).trans hel)
        (fun b hb hlt => (hfirst b hb hlt).imp_left ((s.reach n).settleIdle_eligible i i b).trans)
    obtain ⟨hsend, _⟩ := State.arbitrateRound_polls (hround.trans hr) hnext (hidle.silent.trans hs)
    rw [State.enterIdle_round (s := s.reach n) hp hm hs hq]
    rw [hk] at hsend
    refine ⟨hsend.line, hsend.inFlight, ?_⟩
    rw [hsend.exch, hidle.nowMs, hnow, hid.syncWord]
    rfl
  · rw [State.enterIdle_nothing (s := s.reach n) hm hq hr]
    obtain ⟨hl, _, hin, _⟩ := ((s.reach n).sec_settleIdle i).held
    exact ⟨hl, hin⟩
end

section
/-! SUPPORT. The opening and the close of a poll round, and the open-fault bracket. -/

-- One theorem after another: elaborated side by side, they ask for more thread stacks than the check has memory for.
set_option Elab.async false

namespace Sys2Proof.Machine

/-! ## Posts in order, and the candidate bracket -/

theorem byOffset_pairwise (l : List PostEntry) :
    (byOffset l).Pairwise (fun a b => a.offset < b.offset ∨ (a.offset = b.offset ∧ a.addr ≤ b.addr)) :=
  sortBy_pairwise (R := fun a b : PostEntry => a.offset < b.offset ∨ (a.offset = b.offset ∧ a.addr ≤ b.addr))
    (fun a b h => by simpa [PostEntry.beforeByOffset] using h)
    (fun a b h => by
      simp only [PostEntry.beforeByOffset, Bool.or_eq_false_iff, decide_eq_false_iff_not, Bool.and_eq_false_imp, beq_iff_eq] at h
      simp only [Fin.le_def]
      omega)
    (fun a b c h1 h2 => by
      simp only [Fin.le_def] at *
      omega) l

/-- The posts of a section that `keep` keeps, sorted, are these posts in order (R32, R113). -/
theorem State.postsInOrder_byOffset (s : State) (i : SectionId) (keep : PostEntry → Bool) :
    s.PostsInOrder i (fun e => keep e = true) (byOffset ((s.postsOn i).filter keep)) :=
  ⟨fun e => by
    rw [byOffset, (sortBy_perm _ _).mem_iff, List.mem_filter, State.mem_postsOn_iff]
    tauto, byOffset_pairwise _⟩

/-- The split of a list at its first unreachable post. -/
theorem splitReachable_spec (l : List PostEntry) :
    l = (splitReachable l).1 ++ (splitReachable l).2 ∧ (∀ e ∈ (splitReachable l).1, e.reachable = true) ∧
      ∀ e es, (splitReachable l).2 = e :: es → e.reachable = false := by
  induction l with
  | nil => simp [splitReachable]
  | cons e es ih =>
    obtain ⟨hsplit, hups, hdown⟩ := ih
    unfold splitReachable
    split
    · next he => exact ⟨congrArg (e :: ·) hsplit, by simpa [he] using hups, hdown⟩
    · next he =>
      refine ⟨rfl, by simp, fun f fs hf => ?_⟩
      obtain ⟨rfl, _⟩ := List.cons.inj hf
      simpa using he

/-- R113's table, read off the posts in service in order. -/
theorem candidateBracket_spec (posts : List PostEntry) :
    OpenCandidate (byOffset (posts.filter (fun e => e.service == .inService))) (candidateBracket posts) := by
  unfold candidateBracket
  dsimp only
  generalize byOffset (posts.filter (fun e => e.service == .inService)) = l
  obtain ⟨hsplit, hups, hdown⟩ := splitReachable_spec l
  generalize splitReachable l = parts at *
  obtain ⟨ups, rest⟩ := parts
  dsimp only at *
  cases rest with
  | nil =>
    refine Or.inl (fun e he => hups e ?_)
    rw [hsplit] at he
    simpa using he
  | cons u downs =>
    have hu := hdown u downs rfl
    dsimp only
    by_cases hany : downs.any PostEntry.reachable = true
    · rw [if_pos hany]
      obtain ⟨b, hb, hbr⟩ := List.any_eq_true.1 hany
      obtain ⟨q, r, rfl⟩ := List.append_of_mem hb
      exact Or.inr ⟨ups, u, q, b, r, hsplit, hu, hbr⟩
    · rw [if_neg hany]
      have hdowns : ∀ e ∈ u :: downs, e.reachable = false := by
        simp only [List.any_eq_true, not_exists, not_and, Bool.not_eq_true] at hany
        intro e he
        obtain rfl | he := List.mem_cons.1 he
        · exact hu
        · exact hany e he
      cases hlast : ups.getLast? with
      | none => exact ⟨ups, u, downs, hsplit, hups, hdowns, rfl, rfl, fun _ => ⟨rfl, rfl⟩, fun e he => by simp [hlast] at he⟩
      | some e =>
        refine ⟨ups, u, downs, hsplit, hups, hdowns, rfl, rfl, fun hnil => ?_, fun e' he' => ?_⟩
        · rw [hnil] at hlast
          cases hlast
        · rw [hlast] at he'
          cases he'
          exact ⟨rfl, rfl⟩

/-! ## The comparison of the bracket -/

/-- The stored bracket becomes the candidate, and what has changed is told (R114). -/
theorem State.compareBracket_spec (s : State) (i : SectionId) :
    (s.compareBracket i).sec i = { s.sec i with bracket := (candidateBracket (s.postsOn i)).map Prod.fst } ∧
    s.Told (s.compareBracket i) (bracketTold i (s.sec i).defnD (s.sec i).bracket (candidateBracket (s.postsOn i))) := by
  unfold State.compareBracket bracketTold
  dsimp only
  cases hb : (s.sec i).bracket with
  | none =>
    cases candidateBracket (s.postsOn i) with
    | none =>
      refine ⟨?_, .refl s⟩
      conv_rhs => rw [Option.map_none, ← hb]
    | some p =>
      obtain ⟨c, oa, ob⟩ := p
      exact ⟨by simp, State.Told.afterQuiet (t := s.modSec i _) .quiet (State.post_told _ _)⟩
  | some b =>
    cases candidateBracket (s.postsOn i) with
    | none => exact ⟨by simp, State.Told.afterQuiet (t := s.modSec i _) .quiet (State.post_told _ _)⟩
    | some p =>
      obtain ⟨c, oa, ob⟩ := p
      dsimp only
      by_cases heq : some b = some c
      · rw [if_pos heq, if_pos heq]
        refine ⟨?_, .refl s⟩
        conv_rhs => rw [Option.map_some, ← heq, ← hb]
      · rw [if_neg heq, if_neg heq]
        exact ⟨by simp, State.Told.afterQuiet (t := s.modSec i _) .quiet (State.post_told _ _)⟩

/-! ## The close of a round -/

section closeRound
variable {s : State} {i : SectionId} {r : Round}

/-- What a round's close leaves of its section, and what it tells (R105, R114). -/
theorem State.closeRound_spec (hr : (s.sec i).round = some r) :
    (s.closeRound i).sec i = { s.sec i with
      round := none, overrun := false, bracket := (candidateBracket (s.postsOn i)).map Prod.fst } ∧
    s.Told (s.closeRound i) (.roundDone i (s.sec i).overrun r.answered r.missed r.skipped ::
      bracketTold i (s.sec i).defnD (s.sec i).bracket (candidateBracket (s.postsOn i))) := by
  unfold State.closeRound
  rw [hr]
  dsimp only
  generalize hu : ((s.modSec i (fun x => { x with round := none })).post
    (.roundDone i (s.sec i).overrun r.answered r.missed r.skipped)).modSec i (fun x => { x with overrun := false }) = u
  have hposts : u.postsOn i = s.postsOn i := by
    rw [← hu]
    unfold State.postsOn State.entries
    simp
  have hsec : u.sec i = { s.sec i with round := none, overrun := false } := by
    rw [← hu]
    simp
  have htold : s.Told u [.roundDone i (s.sec i).overrun r.answered r.missed r.skipped] := by
    rw [← hu]
    exact (State.Told.afterQuiet (t := s.modSec i _) .quiet (State.post_told _ _)).thenQuiet .quiet
  obtain ⟨hsec', htold'⟩ := u.compareBracket_spec i
  rw [hposts, hsec] at hsec' htold'
  exact ⟨hsec', htold.trans htold'⟩

/-- A round that closes with its work done closes as R105, R113 and R114 say. -/
theorem State.closeRound_closes {d : SectionDef} (hd : (s.sec i).defn = some d) (hr : (s.sec i).round = some r) :
    s.RoundCloses (s.closeRound i) i d [] r.answered r.missed r.skipped := by
  obtain ⟨hsec, htold⟩ := State.closeRound_spec hr
  have hposts : (s.closeRound i).postsOn i = s.postsOn i := by
    unfold State.postsOn State.entries
    rw [(s.closeRound_byLine i).dir]
  have hdef : (s.sec i).defnD = d := by simp [SectionCtl.defnD, hd]
  have hlist := (s.closeRound i).postsInOrder_byOffset i (fun e => e.service == .inService)
  rw [hposts] at hlist
  rw [hdef] at htold
  refine ⟨by rw [hsec], by rw [hsec], _, candidateBracket (s.postsOn i), ?_, candidateBracket_spec _, by rw [hsec], htold.tells⟩
  simpa using hlist

end closeRound

/-! ## The opening of a round -/

section openRound
variable {s : State} {i : SectionId}

theorem State.closeIfDone_open {r : Round} (hr : (s.sec i).round = some r) (h : (s.nextEligible i r.cursor).isSome = true) :
    s.closeIfDone i = s := by
  rw [State.closeIfDone, hr]
  exact if_pos h

theorem State.closeIfDone_done {r : Round} (hr : (s.sec i).round = some r) (h : s.nextEligible i r.cursor = none) :
    s.closeIfDone i = s.closeRound i := by
  rw [State.closeIfDone, hr]
  exact if_neg (by simp [h])

/-- A round with an eligible post opens and stays open (R102). -/
theorem State.openRound_opens {a : Addr} (h1 : 1 ≤ a.val) (he : s.eligibleAddr i a = true) :
    s.openRound i = s.setSec i { s.sec i with round := some ⟨1, none, 0, 0, 0⟩ } :=
  State.closeIfDone_open (s := s.modSec i _) (r := ⟨1, none, 0, 0, 0⟩) (by simp) (State.nextEligible_isSome h1 h1 he)

/-- A round with no eligible post closes at once (R102). -/
theorem State.openRound_closes (h : ∀ a : Addr, 1 ≤ a.val → s.eligibleAddr i a = false) :
    s.openRound i = (s.setSec i { s.sec i with round := some ⟨1, none, 0, 0, 0⟩ }).closeRound i :=
  State.closeIfDone_done (s := s.modSec i _) (r := ⟨1, none, 0, 0, 0⟩) (by simp) (State.nextEligible_eq_none (fun b hb _ => h b hb))

/-- A round that closes as it opens leaves no round and no overrun mark, and tells ROUND_DONE first (R102, R105). -/
theorem State.openRound_none (h : ∀ a : Addr, 1 ≤ a.val → s.eligibleAddr i a = false) :
    ((s.openRound i).sec i).round = none ∧ ((s.openRound i).sec i).overrun = false ∧
    ∃ bs, s.Told (s.openRound i) (.roundDone i (s.sec i).overrun 0 0 0 :: bs) := by
  have hround : ((s.setSec i { s.sec i with round := some ⟨1, none, 0, 0, 0⟩ }).sec i).round = some ⟨1, none, 0, 0, 0⟩ := by simp
  obtain ⟨hsec, htold⟩ := State.closeRound_spec hround
  rw [State.openRound_closes h, hsec]
  rw [State.sec_setSec_self] at htold
  exact ⟨rfl, rfl, _, State.Told.afterQuiet .quiet htold⟩

/-- With no round open the arbiter opens none (R73). -/
theorem State.arbiter_noRound (hr : (s.sec i).round = none) :
    ((s.arbiter i).sec i).round = none ∧ ((s.arbiter i).sec i).overrun = (s.sec i).overrun := by
  have hmeasure : ((s.startMeasure i).sec i).round = none ∧ ((s.startMeasure i).sec i).overrun = (s.sec i).overrun := by
    unfold State.startMeasure
    split
    · rw [State.sec_modLine_self]
      exact ⟨hr, rfl⟩
    · exact ⟨hr, rfl⟩
  unfold State.arbiter
  split
  · split
    · exact ⟨hr, rfl⟩
    · split
      · exact hmeasure
      · split
        · exact ⟨hr, rfl⟩
        · split
          · rw [State.sec_sendAttempt, State.sec_modSec_self]
            exact ⟨hr, rfl⟩
          · rw [State.arbitrateRound_none hr]
            exact ⟨hr, rfl⟩
  · split
    · exact hmeasure
    · exact ⟨hr, rfl⟩
  all_goals exact ⟨hr, rfl⟩

theorem State.workArrived_noRound (hr : (s.sec i).round = none) :
    ((s.workArrived i).sec i).round = none ∧ ((s.workArrived i).sec i).overrun = (s.sec i).overrun := by
  unfold State.workArrived
  split
  · exact State.arbiter_noRound hr
  · exact ⟨hr, rfl⟩

/-- A round that is opened on a busy line waits for the arbiter (R102). -/
theorem State.openAndAct_waits {a : Addr} (h1 : 1 ≤ a.val) (he : s.eligibleAddr i a = true) (hl : (s.sec i).line ≠ .idle) :
    s.openAndAct i = s.setSec i { s.sec i with round := some ⟨1, none, 0, 0, 0⟩ } := by
  unfold State.openAndAct
  rw [State.openRound_opens h1 he]
  exact State.workArrived_busy (by simpa using hl)

/-- With no eligible post the round closes at once, and ROUND_DONE is told first (R102, R105). -/
theorem State.openAndAct_none (h : ∀ a : Addr, 1 ≤ a.val → s.eligibleAddr i a = false) :
    s.TellsFirst (s.openAndAct i) [.roundDone i (s.sec i).overrun 0 0 0] ∧ ((s.openAndAct i).sec i).round = none ∧
    ((s.openAndAct i).sec i).overrun = false := by
  obtain ⟨hround, hover, bs, htold⟩ := State.openRound_none h
  obtain ⟨hround', hover'⟩ := State.workArrived_noRound hround
  obtain ⟨cs, hcs⟩ := ((s.openRound i).workArrived_byLine i).toInner.told'
  exact ⟨⟨bs ++ cs, (htold.trans hcs).tells⟩, hround', hover'.trans hover⟩

theorem State.openAndAct_worked (s : State) (i : SectionId) : (s.sec i).Worked ((s.openAndAct i).sec i) := by
  refine SectionCtl.Worked.trans ?_ ((s.openRound i).workArrived_worked i)
  unfold SectionCtl.Worked
  rw [s.openRound_counted i]

end openRound

end Sys2Proof.Machine
end

section
/-! SUPPORT. What joins a section's queue, by the section's power state: call notices and host entries. -/

-- One theorem after another: elaborated side by side, they ask for more thread stacks than the check has memory for.
set_option Elab.async false

namespace Sys2Proof.Machine

/-! ## A return from SETTLING -/

/-- A section that a wake cause has returned from SETTLING (R86, R87). -/
def SectionCtl.returned (x : SectionCtl) (now : Nat) : SectionCtl :=
  { x with power := .active, line := .idle, exch := .quiet, settleTimer := none, idleSince := some now }

theorem State.sec_toActive_self (s : State) (i : SectionId) : (s.toActive i).sec i = ((s.sec i).returned s.nowMs).retime s.nowMs :=
  s.sec_modLine_self i (fun x => x.returned s.nowMs)

/-! ## Work that joins a queue -/

/-- A wake cause that changes its section's queue and lets the arbiter act: what a call notice (R75) and a host entry (R76) have in
common. -/
def State.enqueue (i : SectionId) (w : WakeReason) (f : List Txn → List Txn) (s : State) : State :=
  ((s.arrive i w).modQueue i f).workArrived i

theorem State.offerNotice_eq {s : State} {i : SectionId} (h : (s.sec i).power ≠ .off) (a : Addr) (k : TxnKind) (r : Nat) :
    s.offerNotice i a k r = s.enqueue i .call (joinNotice (.fresh k a (.call r))) := by
  unfold State.offerNotice
  split
  · next hoff => exact absurd hoff h
  all_goals rfl

theorem State.offerNotice_off {s : State} {i : SectionId} (h : (s.sec i).power = .off) (a : Addr) (k : TxnKind) (r : Nat) :
    s.offerNotice i a k r = s := by
  unfold State.offerNotice
  rw [h]

theorem State.hostEntry_eq (s : State) (i : SectionId) (f : List Txn → List Txn) :
    s.hostEntry i f = (s.enqueue i .host f).finish := rfl

section enqueue
variable {s : State} {i : SectionId} {w : WakeReason} {f : List Txn → List Txn}

theorem State.modQueue_eq (s : State) (i : SectionId) (f : List Txn → List Txn) :
    s.modQueue i f = s.setSec i { s.sec i with queue := f (s.sec i).queue } := rfl

/-- A section woken by what joins its queue (R89). -/
theorem State.enqueue_hibernate (h : (s.sec i).power = .hibernate) :
    s.enqueue i w f =
      s.setSec i { (s.sec i).woken s.nowMs (ReasonSet.empty.add w) with queue := f (s.sec i).queue } := by
  unfold State.enqueue
  rw [State.arrive_hibernate w h, State.modQueue_eq, State.workArrived_busy (by simp [SectionCtl.woken]), State.setSec_setSec,
    State.sec_setSec_self]
  rfl

/-- In WAKING the reason is added (R89). -/
theorem State.enqueue_waking {ph : WakePhase} (h : (s.sec i).power = .waking ph) (hl : (s.sec i).line ≠ .idle) :
    s.enqueue i w f =
      s.setSec i { s.sec i with reasons := (s.sec i).reasons.add w, queue := f (s.sec i).queue } := by
  unfold State.enqueue
  rw [State.arrive_waking w h, State.modQueue_eq, State.workArrived_busy (by simpa using hl), State.setSec_setSec,
    State.sec_setSec_self]

/-- On a busy line, and on one that a carrier holds, it waits in the queue (R68, R73). -/
theorem State.enqueue_waits (h : (s.sec i).power = .active) (hl : (s.sec i).line ≠ .idle ∨ (s.sec i).pairFree = false) :
    s.enqueue i w f = s.setSec i { s.sec i with queue := f (s.sec i).queue } := by
  unfold State.enqueue
  rw [State.arrive_active w h]
  by_cases hidle : (s.sec i).line = .idle
  · have hfree := hl.resolve_left (fun hne => hne hidle)
    rw [State.workArrived_idle (by simpa [State.modQueue_eq] using hidle),
      State.arbiter_held (by simpa [State.modQueue_eq] using hidle)
        (by rw [State.modQueue_eq, State.sec_setSec_self]; exact hfree)]
    rfl
  · rw [State.workArrived_busy (by simpa [State.modQueue_eq] using hidle)]
    rfl

/-- A section in SETTLING returns to ACTIVE (R86). -/
theorem State.enqueue_settling {part : SettlePart} (h : (s.sec i).power = .settling part) :
    ((s.enqueue i w f).sec i).power = .active ∧ ((s.enqueue i w f).sec i).settleTimer = none := by
  have hworked := ((s.toActive i).modQueue i f).workArrived_worked i
  rw [State.modQueue_eq, State.sec_setSec_self, s.sec_toActive_self] at hworked
  unfold State.enqueue
  rw [State.arrive_settling w h, State.modQueue_eq, s.sec_toActive_self, hworked]
  exact ⟨rfl, rfl⟩

/-- On an IDLE line free of carrier, with no MEASURE before it, the head of the queue is sent at once (R73). -/
theorem State.enqueue_sends (h : ((s.sec i).power = .active ∧ (s.sec i).line = .idle) ∨ ∃ part, (s.sec i).power = .settling part)
    (hp : (s.sec i).pairFree = true) (hslot : (s.sec i).slot = none) (hs : s.silent = false) {t : Txn} {q : List Txn}
    (hq : f (s.sec i).queue = t :: q) :
    (s.sec i).Sends ((s.enqueue i w f).sec i) t s.nowMs ∧ ((s.enqueue i w f).sec i).queue = q ∧
      ((s.enqueue i w f).sec i).power = .active ∧ (s.enqueue i w f).events = s.events := by
  obtain ⟨u, hu, hact, hidle, hpair, hsync, hqueue, hslot', hsilent, hnow, hev⟩ : ∃ u : State, s.enqueue i w f = u.workArrived i ∧
      (u.sec i).power = .active ∧ (u.sec i).line = .idle ∧ (u.sec i).pairFree = (s.sec i).pairFree ∧
      (u.sec i).syncWord = (s.sec i).syncWord ∧ (u.sec i).queue = f (s.sec i).queue ∧ (u.sec i).slot = (s.sec i).slot ∧
      u.silent = s.silent ∧ u.nowMs = s.nowMs ∧ u.events = s.events := by
    refine ⟨(s.arrive i w).modQueue i f, rfl, ?_⟩
    rw [State.modQueue_eq, State.sec_setSec_self]
    obtain ⟨hact, hidle⟩ | ⟨part, hset⟩ := h
    · rw [State.arrive_active w hact]
      exact ⟨hact, hidle, rfl, rfl, rfl, rfl, rfl, rfl, rfl⟩
    · rw [State.arrive_settling w hset, s.sec_toActive_self]
      exact ⟨rfl, rfl, rfl, rfl, rfl, rfl, rfl, rfl, rfl⟩
  obtain ⟨hsend, hq', hev', _⟩ := State.arbiter_sends hidle (hpair.trans hp) (State.measureRunnable_none (hslot'.trans hslot))
    (hsilent.trans hs) (hqueue.trans hq)
  have hworked := u.arbiter_worked i
  rw [hu, State.workArrived_idle hidle]
  refine ⟨⟨hsend.line, hsend.inFlight, by rw [← hsync, ← hnow]; exact hsend.exch⟩, hq', ?_, hev'.trans hev⟩
  rw [hworked]
  exact hact

theorem State.enqueue_byCalls (s : State) (i : SectionId) (w : WakeReason) (f : List Txn → List Txn) :
    s.ByCalls i (s.enqueue i w f) :=
  ((s.arrive_byCalls i w).trans (State.modQueue_byLine _ i f).byCalls).trans (State.workArrived_byLine _ i).byCalls

end enqueue

/-! ## A call notice -/

theorem joinNotice_nil (q : Txn) : joinNotice q [] = [q] := rfl

theorem State.offerNotice_active {s : State} {i : SectionId} (h : (s.sec i).power = .active)
    (hl : (s.sec i).line ≠ .idle ∨ (s.sec i).pairFree = false) (a : Addr) (k : TxnKind) (r : Nat) :
    s.offerNotice i a k r = s.modQueue i (joinNotice ⟨k, a, .call r, 0, 0, 0, false⟩) :=
  (State.offerNotice_eq (by simp [h]) a k r).trans (State.enqueue_waits h hl)

/-- A call notice reaches its section as R75 says. -/
theorem State.offerNotice_given (s : State) (i : SectionId) (a : Addr) (k : TxnKind) (r : Nat) :
    (s.sec i).GivenNotice ((s.offerNotice i a k r).sec i) ⟨k, a, .call r, 0, 0, 0, false⟩ s.silent s.nowMs := by
  refine ⟨fun h => ?_, fun ph h hl => ?_, fun h hl => ?_, fun part h => ?_, fun h hp hslot hq hs => ?_⟩
  · rw [State.offerNotice_eq (by simp [h]), State.enqueue_hibernate h, State.sec_setSec_self]
    rfl
  · rw [State.offerNotice_eq (by simp [h]), State.enqueue_waking h (by simp [hl]), State.sec_setSec_self]
    rfl
  · rw [State.offerNotice_active h hl, State.modQueue_eq, State.sec_setSec_self]
  · rw [State.offerNotice_eq (by simp [h])]
    exact State.enqueue_settling h
  · have hon : (s.sec i).power ≠ .off := by
      obtain ⟨h, _⟩ | ⟨part, h⟩ := h <;> simp [h]
    rw [State.offerNotice_eq hon]
    obtain ⟨hsend, hq', hact, _⟩ := State.enqueue_sends (w := .call) (f := joinNotice (.fresh k a (.call r))) h hp hslot hs
      (t := ⟨k, a, .call r, 0, 0, 0, false⟩) (q := []) (by rw [hq]; rfl)
    exact ⟨hact, hsend.line, hsend.inFlight, hq', hsend.exch⟩

end Sys2Proof.Machine
end

section
/-! SUPPORT. The requests and the countdown that open a round, and the host entries. -/

-- One theorem after another: elaborated side by side, they ask for more thread stacks than the check has memory for.
set_option Elab.async false

namespace Sys2Proof.Machine

/-! ## A line that is up stays up -/

section up
variable {s : State} {i : SectionId}

theorem State.startMeasure_up (h : (s.sec i).line ≠ .down) : ((s.startMeasure i).sec i).line ≠ .down := by
  unfold State.startMeasure
  split
  · rw [State.sec_modLine_self]
    exact fun h => LineState.noConfusion h
  · exact h

theorem State.sendAttempt_line (s : State) (i : SectionId) (t : Txn) : ((s.sendAttempt i t).sec i).line = .owned := by
  rw [State.sec_sendAttempt]
  rfl

theorem State.arbitrateRound_up (h : (s.sec i).line ≠ .down) : ((s.arbitrateRound i).sec i).line ≠ .down := by
  unfold State.arbitrateRound
  split
  · split
    · rw [State.sendAttempt_line]
      exact fun h => LineState.noConfusion h
    · rw [s.closeRound_counted i]
      exact h
  · exact h

/-- The arbiter takes no line down. -/
theorem State.arbiter_up (h : (s.sec i).line ≠ .down) : ((s.arbiter i).sec i).line ≠ .down := by
  unfold State.arbiter
  split
  · split
    · exact h
    · split
      · exact State.startMeasure_up h
      · split
        · exact h
        · split
          · rw [State.sendAttempt_line]
            exact fun h => LineState.noConfusion h
          · exact State.arbitrateRound_up h
  · split
    · exact State.startMeasure_up h
    · exact h
  all_goals exact h

theorem State.workArrived_up (h : (s.sec i).line ≠ .down) : ((s.workArrived i).sec i).line ≠ .down := by
  unfold State.workArrived
  split
  · exact State.arbiter_up h
  · exact h

theorem State.openAndAct_up (h : (s.sec i).line ≠ .down) : ((s.openAndAct i).sec i).line ≠ .down := by
  refine State.workArrived_up ?_
  rw [s.openRound_counted i]
  exact h

end up

/-! ## The round of a section returned from SETTLING -/

/-- A round that is opened on a section returned from SETTLING finds and leaves it ACTIVE (R87). -/
theorem State.openAndAct_settling {s : State} {i : SectionId} {part : SettlePart} (h : (s.sec i).power = .settling part)
    (w : WakeReason) :
    ((((s.arrive i w).openAndAct i).finish).sec i).power = .active ∧
    ((((s.arrive i w).openAndAct i).finish).sec i).settleTimer = none ∧
    ((((s.arrive i w).openAndAct i).finish).sec i).due = (s.sec i).due ∧
    s.ByCalls i (((s.arrive i w).openAndAct i).finish) := by
  have hworked := (s.arrive i w).openAndAct_worked i
  rw [State.arrive_settling w h] at hworked ⊢
  rw [State.finish_sec, hworked, s.sec_toActive_self]
  exact ⟨rfl, rfl, rfl, ((s.toActive_byCalls i).trans (State.openAndAct_byLine _ i).byCalls).trans (State.finish_byCalls _ i)⟩

/-! ## The first poll of a round -/

/-- On an IDLE line free of carrier, with no MEASURE and an empty queue before it, a new round's first poll is sent at once. -/
theorem State.openAndAct_polls {s : State} {i : SectionId} {a : Addr} (h1 : 1 ≤ a.val) (he : s.eligibleAddr i a = true)
    (hfirst : ∀ b : Addr, 1 ≤ b.val → b < a → s.eligibleAddr i b = false) (hl : (s.sec i).line = .idle)
    (hp : (s.sec i).pairFree = true) (hslot : (s.sec i).slot = none) (hq : (s.sec i).queue = []) (hs : s.silent = false) :
    (s.sec i).Sends ((s.openAndAct i).sec i) ⟨.poll, a, .round, 0, 0, 0, false⟩ s.nowMs ∧
    ((s.openAndAct i).sec i).round = some ⟨a.val, none, 0, 0, 0⟩ := by
  unfold State.openAndAct
  rw [State.openRound_opens h1 he]
  generalize hu : s.setSec i { s.sec i with round := some ⟨1, none, 0, 0, 0⟩ } = u
  have husec : u.sec i = { s.sec i with round := some ⟨1, none, 0, 0, 0⟩ } := by rw [← hu, State.sec_setSec_self]
  have husilent : u.silent = false := by rw [← hu]; exact hs
  have hunow : u.nowMs = s.nowMs := by rw [← hu]; rfl
  have hnext : u.nextEligible i 1 = some a := by
    have helig : ∀ b, u.eligibleAddr i b = s.eligibleAddr i b := fun b => by
      rw [← hu]
      exact State.eligibleAddr_congr rfl rfl i b
    exact State.nextEligible_eq_some h1 h1 ((helig a).trans he) (fun b hb hlt => Or.inl ((helig b).trans (hfirst b hb hlt)))
  rw [State.workArrived_idle (by rw [husec]; exact hl), State.arbiter_round (by rw [husec]; exact hl) (by rw [husec]; exact hp)
    (State.measureRunnable_none (by rw [husec]; exact hslot)) husilent (by rw [husec]; exact hq)]
  obtain ⟨hsend, hround⟩ := State.arbitrateRound_polls (s := u) (r := ⟨1, none, 0, 0, 0⟩) (by rw [husec]) hnext husilent
  rw [husec] at hsend
  exact ⟨⟨hsend.line, hsend.inFlight, by rw [← hunow]; exact hsend.exch⟩, hround⟩

/-! ## The countdown -/

theorem State.countdown_due {s : State} {i : SectionId} {d : Nat} (hdue : (s.sec i).due = some d) (hd : d ≤ s.seconds)
    (hon : (s.sec i).power ≠ .off) :
    s.countdown i = (s.setSec i { s.sec i with due := some (d + (s.sec i).timingD.period) }).roundFallsDue i := by
  rw [State.countdown, hdue]
  exact if_pos ⟨hd, hon⟩

theorem State.roundFallsDue_overrun {s : State} {i : SectionId} (h : (s.sec i).power = .active) (hr : (s.sec i).round ≠ none) :
    s.roundFallsDue i = s.setSec i { s.sec i with overrun := true } := by
  rw [State.roundFallsDue, h]
  exact if_pos (Option.isSome_iff_ne_none.2 hr)

theorem State.roundFallsDue_opens {s : State} {i : SectionId} (h : (s.sec i).power = .active) (hr : (s.sec i).round = none) :
    s.roundFallsDue i = s.openAndAct i := by
  rw [State.roundFallsDue, h]
  exact if_neg (by simp [hr])

theorem State.roundFallsDue_settling {s : State} {i : SectionId} {part : SettlePart} (h : (s.sec i).power = .settling part) :
    s.roundFallsDue i = ((s.arrive i .schedule).openAndAct i).finish := by
  rw [State.roundFallsDue, h]

theorem State.roundFallsDue_hibernate {s : State} {i : SectionId} (h : (s.sec i).power = .hibernate) :
    s.roundFallsDue i = s.setSec i { (s.sec i).woken s.nowMs ⟨false, false, false, true, false⟩ with
      overrun := (s.sec i).overrun || (s.sec i).roundDue, roundDue := true } := by
  rw [State.roundFallsDue, h]
  refine (State.arrive_hibernate (s := s.modSec i _) .schedule (by simpa using h)).trans ?_
  rw [State.sec_modSec_self, State.modSec, State.setSec_setSec]
  rfl

theorem State.roundFallsDue_waking {s : State} {i : SectionId} {ph : WakePhase} (h : (s.sec i).power = .waking ph) :
    s.roundFallsDue i = s.setSec i { s.sec i with
      overrun := (s.sec i).overrun || (s.sec i).roundDue, roundDue := true,
      reasons := (s.sec i).reasons.add .schedule } := by
  rw [State.roundFallsDue, h]
  refine (State.arrive_waking (s := s.modSec i _) .schedule (ph := ph) (by simpa using h)).trans ?_
  rw [State.sec_modSec_self, State.modSec, State.setSec_setSec]

/-! ## A request's frame -/

/-- The frame of what an accepted request does for a call of section `i`, as the statements write it. -/
theorem State.ByCalls.ofRequest {s u t : State} {f : RequestForm} {i : SectionId} (h : u.ByCalls i t) (hu : s.taking f = u) :
    u.SameLink t ∧ s.SameSettings t ∧ s.SameDirectory t ∧ s.SameOtherSections i t := by
  subst hu
  exact ⟨⟨h.rx, h.buffer, h.resetHeld, h.poweringUp⟩, ⟨h.mode, h.globals, h.seconds, h.nowMs⟩, ⟨h.dir, h.rosters, h.unresolved⟩,
    h.others⟩

/-! ## POLL NOW -/

/-- What POLL NOW answers on a section in service. -/
theorem State.pollNowAct_found {s : State} {i : SectionId} (hd : (s.sec i).defn ≠ none) (hon : (s.sec i).power ≠ .off) :
    s.pollNowAct i.val =
      match (s.sec i).power with
      | .active =>
        if (s.sec i).round.isSome then (s, .ok, .pollNow .alreadyOpen) else (s.openAndAct i, .ok, .pollNow .opened)
      | .settling _ => (((s.arrive i .host).openAndAct i).finish, .ok, .pollNow .opened)
      | .hibernate => ((s.modSec i (fun x => { x with roundDue := true })).arrive i .host, .ok, .pollNow .markedDue)
      | .waking _ =>
        ((s.modSec i (fun x => { x with roundDue := true })).arrive i .host, .ok,
          .pollNow (if (s.sec i).roundDue then .alreadyDue else .markedDue))
      | .off => s.refuse .sectionOff := by
  refine (s.onSectionInService_found i _ hd hon).trans ?_
  cases (s.sec i).power <;> rfl

end Sys2Proof.Machine

open Sys2Proof Sys2Proof.Machine

/-- Settles O45: the due time moves on first, and what follows goes by the section's power state. -/
theorem pollCountdownOpensMarksOrOverruns : Obligations.PollCountdownOpensMarksOrOverruns := by
  intro s i d x hx hdue
  subst hx
  refine ⟨fun h => ?_, fun hd => ?_⟩
  · show Host.Outcome.next (s.countdown i) = _
    rw [State.countdown, hdue]
    refine congrArg Host.Outcome.next (if_neg (fun hc => ?_))
    obtain h | h := h
    · exact absurd hc.1 (Nat.not_le.2 h)
    · exact hc.2 h
  · generalize hu : s.setSec i { s.sec i with due := some (d + (s.sec i).timingD.period) } = u
    have husec : u.sec i = { s.sec i with due := some (d + (s.sec i).timingD.period) } := by rw [← hu, State.sec_setSec_self]
    have huline : s.ByLine i u := by rw [← hu]; exact s.setSec_byLine i _
    have hset : ∀ y, u.setSec i y = s.setSec i y := fun y => by rw [← hu, State.setSec_setSec]
    have helig : ∀ a, u.eligibleAddr i a = s.eligibleAddr i a := fun a =>
      State.eligibleAddr_congr huline.dir huline.rosters i a
    have hexec : (s.sec i).power ≠ .off → exec (.pollCountdownExpiry i) s = .next (u.roundFallsDue i) := fun hon => by
      rw [← hu]
      exact congrArg Host.Outcome.next (State.countdown_due hdue hd hon)
    refine ⟨fun hp hr => ?_, fun hp hr => ?_, fun part hp => ?_, fun hp => ?_, fun ph hp => ?_⟩
    · rw [hexec (by simp [hp]), State.roundFallsDue_overrun (by rw [husec]; exact hp) (by rw [husec]; exact hr), hset, husec]
    · refine ⟨_, hexec (by simp [hp]), ?_⟩
      rw [State.roundFallsDue_opens (by rw [husec]; exact hp) (by rw [husec]; exact hr)]
      have hworked := u.openAndAct_worked i
      refine ⟨by rw [hworked, husec], fun ⟨a, h1, he⟩ hl => ?_, fun hnone => ?_,
        (huline.trans (u.openAndAct_byLine i)).onlyLine⟩
      · rw [State.openAndAct_waits h1 ((helig a).trans he) (by rw [husec]; exact hl), hset, husec]
      · obtain ⟨⟨more, htells⟩, hround, hover⟩ := State.openAndAct_none (s := u) (fun a h1 => (helig a).trans (hnone a h1))
        rw [husec] at htells
        exact ⟨⟨more, htells.start (by rw [← hu]; rfl) huline.silent huline.seconds⟩, hround, hover⟩
    · refine ⟨_, hexec (by simp [hp]), ?_⟩
      have hup : (u.sec i).power = .settling part := by rw [husec]; exact hp
      rw [State.roundFallsDue_settling hup]
      obtain ⟨hact, htimer, hdue', hframe⟩ := State.openAndAct_settling hup .schedule
      have hall := huline.byCalls.trans hframe
      exact ⟨hact, htimer, by rw [hdue', husec], ⟨hall.rx, hall.buffer, hall.resetHeld, hall.poweringUp⟩,
        ⟨hall.reply, hall.headTaken⟩, ⟨hall.mode, hall.globals, hall.seconds, hall.nowMs⟩,
        ⟨hall.dir, hall.rosters, hall.unresolved⟩, hall.others⟩
    · rw [hexec (by simp [hp]), State.roundFallsDue_hibernate (by rw [husec]; exact hp), hset, husec, huline.nowMs]
      rfl
    · rw [hexec (by simp [hp]), State.roundFallsDue_waking (by rw [husec]; exact hp), hset, husec]

/-- Settles O33: POLL NOW by the section's power state. -/
theorem pollNowOpensOrMarksARound : Obligations.PollNowOpensOrMarksARound := by
  intro h s i f hf ha hd
  subst hf
  generalize hu : s.taking ⟨.pollNow, h, byte1 i.val, 1⟩ = u
  have husec : u.sec i = s.sec i := by rw [← hu]; rfl
  have hunow : u.nowMs = s.nowMs := by rw [← hu]; rfl
  have hexec : ∀ t st b, (s.sec i).power ≠ .off → u.pollNowAct i.val = (t, st, b) →
      exec (.pollNow h i.val) s = .next (t.replied ⟨.pollNow, h, byte1 i.val, 1⟩ st b) := fun t st b _ hact => by
    refine exec_of_act rfl ha ?_
    rw [hu]
    exact hact
  have hfound := fun hon => State.pollNowAct_found (s := u) (i := i) (by rw [husec]; exact hd) (by rw [husec]; exact hon)
  rw [husec] at hfound
  refine ⟨fun hoff => exec_of_act rfl ha (State.onSectionInService_off (s.taking _) i _ hd hoff), fun hp hr => ?_, fun hp hr => ?_,
    fun part hp => ?_, fun hp => ?_, fun ph hp => ?_⟩
  · have hon : (s.sec i).power ≠ .off := by simp [hp]
    rw [State.answers, hu]
    refine hexec _ _ _ hon ((hfound hon).trans ?_)
    rw [hp]
    exact if_pos (Option.isSome_iff_ne_none.2 hr)
  · have hon : (s.sec i).power ≠ .off := by simp [hp]
    have hline := u.openAndAct_byLine i
    have helig : ∀ a, u.eligibleAddr i a = s.eligibleAddr i a := fun a => by rw [← hu]; rfl
    have hcalls : s.SameCalls (u.openAndAct i) := by
      have hc := hline.calls
      rwa [← hu] at hc ⊢
    refine ⟨u.openAndAct i, hexec _ _ _ hon ((hfound hon).trans ?_), ?_⟩
    · rw [hp]
      exact if_neg (by simp [hr])
    · refine ⟨fun ⟨a, h1, he⟩ hl => ?_, fun a h1 he hfirst hl hpair hslot hq hs => ?_, fun hnone => ?_, ?_⟩
      · rw [State.openAndAct_waits h1 ((helig a).trans he) (by rw [husec]; exact hl), husec]
      · obtain ⟨hsend, hround⟩ := State.openAndAct_polls (s := u) h1 ((helig a).trans he)
          (fun b hb hlt => (helig b).trans (hfirst b hb hlt)) (by rw [husec]; exact hl) (by rw [husec]; exact hpair)
          (by rw [husec]; exact hslot) (by rw [husec]; exact hq) (by rw [← hu]; exact hs)
        rw [husec, hunow] at hsend
        exact ⟨hsend.line, hsend.inFlight, hround, hsend.exch⟩
      · obtain ⟨⟨more, htells⟩, hround, hover⟩ := State.openAndAct_none (s := u) (fun a h1 => (helig a).trans (hnone a h1))
        rw [husec] at htells
        exact ⟨⟨more, htells.start (by rw [← hu]; rfl) (by rw [← hu]; rfl) (by rw [← hu]; rfl)⟩, hround, hover⟩
      · obtain ⟨hlink, hset, hdir, hothers⟩ := hline.byCalls.ofRequest hu
        exact ⟨hlink, hset, hdir, hcalls, hothers⟩
  · have hon : (s.sec i).power ≠ .off := by simp [hp]
    obtain ⟨hact, htimer, _, hby⟩ := State.openAndAct_settling (s := u) (i := i) (part := part) (by rw [husec]; exact hp) .host
    obtain ⟨hlink, hset, hdir, hothers⟩ := hby.ofRequest hu
    refine ⟨_, hexec _ _ _ hon ((hfound hon).trans (by rw [hp])), hact, htimer, ?_, hlink, hset, hdir, hothers⟩
    rw [State.finish_sec]
    refine State.openAndAct_up ?_
    rw [State.arrive_settling .host (by rw [husec]; exact hp), u.sec_toActive_self]
    exact fun h => LineState.noConfusion h
  · have hon : (s.sec i).power ≠ .off := by simp [hp]
    refine hexec _ _ _ hon ((hfound hon).trans ?_)
    rw [hp]
    dsimp only
    rw [State.arrive_hibernate (s := u.modSec i _) .host (by simpa [husec] using hp), State.sec_modSec_self, State.modSec,
      State.setSec_setSec, husec, State.setSec_nowMs, hunow]
    rfl
  · have hon : (s.sec i).power ≠ .off := by simp [hp]
    refine hexec _ _ _ hon ((hfound hon).trans ?_)
    rw [hp]
    dsimp only
    rw [State.arrive_waking (s := u.modSec i _) (ph := ph) .host (by simpa [husec] using hp), State.sec_modSec_self, State.modSec,
      State.setSec_setSec, husec]
end

section
/-! SUPPORT. MEASURE, LAMP and MESSAGE. -/

-- One theorem after another: elaborated side by side, they ask for more thread stacks than the check has memory for.
set_option Elab.async false

namespace Sys2Proof.Machine

/-! ## A MEASURE that is requested -/

section arbiter
variable {s : State} {i : SectionId}

theorem State.arbitrateRound_slot (s : State) (i : SectionId) :
    ((s.arbitrateRound i).sec i).slot = (s.sec i).slot ∧ (s.arbitrateRound i).ltu = s.ltu := by
  have hclose : (s.closeRound i).ltu = s.ltu := by
    unfold State.closeRound State.compareBracket
    split
    · dsimp only
      split
      · simp
      · simp
      · split <;> simp
    · rfl
  unfold State.arbitrateRound
  split
  · split
    · rw [State.sec_sendAttempt, State.sec_modSec_self]
      exact ⟨rfl, rfl⟩
    · rw [s.closeRound_counted i]
      exact ⟨rfl, hclose⟩
  · exact ⟨rfl, rfl⟩

/-- A MEASURE that may not run waits in the slot (R73). -/
theorem State.arbiter_slot (hm : s.measureRunnable i = false) :
    ((s.arbiter i).sec i).slot = (s.sec i).slot ∧ (s.arbiter i).ltu = s.ltu := by
  unfold State.arbiter
  simp only [hm, Bool.false_eq_true, if_false]
  split
  · split
    · exact ⟨rfl, rfl⟩
    · split
      · exact ⟨rfl, rfl⟩
      · split
        · rw [State.sec_sendAttempt, State.sec_modSec_self]
          exact ⟨rfl, rfl⟩
        · exact s.arbitrateRound_slot i
  all_goals exact ⟨rfl, rfl⟩

end arbiter

/-- The MEASURE of a host request up to the dispatcher (R116). -/
def State.requestMeasure (i : SectionId) (s : State) : State :=
  ((s.arrive i .host).modSec i (fun x => { x with slot := some .host })).arbiter i

section measure
variable {s : State} {i : SectionId}

theorem State.measureAct_pending (hd : (s.sec i).defn ≠ none) (hon : (s.sec i).power ≠ .off)
    (h : (s.sec i).slot ≠ none ∨ (s.ltuOf i).running ≠ none) : s.measureAct i.val = s.refuse .measurePending := by
  refine (s.onSectionInService_found i _ hd hon).trans (if_pos ?_)
  simpa [Option.isSome_iff_ne_none] using h

theorem State.measureAct_taken (hd : (s.sec i).defn ≠ none) (hon : (s.sec i).power ≠ .off) (hslot : (s.sec i).slot = none)
    (hrun : (s.ltuOf i).running = none) :
    s.measureAct i.val = ((s.requestMeasure i).finish, .ok, .measure (s.measureNote i)) := by
  refine (s.onSectionInService_found i _ hd hon).trans (if_neg ?_)
  simp [hslot, hrun]

theorem State.measureNote_up (h : (s.sec i).power = .active ∨ ∃ part, (s.sec i).power = .settling part) :
    s.measureNote i = if s.holder i = none then .startsAtOnce else .waitsForPath := by
  have hnote : s.measureNote i = if (s.holder i).isSome then .waitsForPath else .startsAtOnce := by
    unfold State.measureNote
    obtain h | ⟨part, h⟩ := h <;> rw [h]
  rw [hnote]
  cases s.holder i <;> rfl

/-- On a section that is ACTIVE already the slot is filled and the arbiter acts (R116). -/
theorem State.requestMeasure_active (h : (s.sec i).power = .active) :
    s.requestMeasure i = (s.setSec i { s.sec i with slot := some .host }).arbiter i := by
  unfold State.requestMeasure
  rw [State.arrive_active .host h]
  rfl

theorem State.requestMeasure_waits (h : (s.sec i).power = .active) (hhold : s.holder i ≠ none)
    (hidle : (s.sec i).line = .idle → (s.sec i).queue = [] ∧ (s.sec i).round = none) :
    s.requestMeasure i = s.setSec i { s.sec i with slot := some .host } := by
  rw [State.requestMeasure_active h]
  generalize hu : s.setSec i { s.sec i with slot := some .host } = u
  have husec : u.sec i = { s.sec i with slot := some .host } := by rw [← hu, State.sec_setSec_self]
  have hm : u.measureRunnable i = false := by
    rw [State.measureRunnable_host (by rw [husec]), ← hu, State.holder_setSec]
    cases hj : s.holder i with
    | none => exact absurd hj hhold
    | some r => rfl
  by_cases hl : (s.sec i).line = .idle
  · exact State.arbiter_nothing (by rw [husec]; exact hl) hm (by rw [husec]; exact (hidle hl).1) (by rw [husec]; exact (hidle hl).2)
  · by_cases hb : (s.sec i).line = .brk
    · rw [State.arbiter_brk (by rw [husec]; exact hb), if_neg (by simp [hm])]
    · exact State.arbiter_elsewhere (by rw [husec]; exact hl) (by rw [husec]; exact hb)

theorem State.requestMeasure_busy (h : (s.sec i).power = .active)
    (hl : ((s.sec i).line ≠ .idle ∧ (s.sec i).line ≠ .brk) ∨ ((s.sec i).line = .idle ∧ (s.sec i).pairFree = false)) :
    s.requestMeasure i = s.setSec i { s.sec i with slot := some .host } := by
  rw [State.requestMeasure_active h]
  obtain ⟨hl, hb⟩ | ⟨hl, hp⟩ := hl
  · exact State.arbiter_elsewhere (by simpa using hl) (by simpa using hb)
  · exact State.arbiter_held (by simpa using hl) (by rw [State.sec_setSec_self]; exact hp)

theorem State.requestMeasure_starts (h : (s.sec i).power = .active) (hhold : s.holder i = none)
    (hl : ((s.sec i).line = .idle ∧ (s.sec i).pairFree = true) ∨ (s.sec i).line = .brk) :
    s.requestMeasure i = (s.setSec i { s.sec i with slot := some .host }).startMeasure i := by
  rw [State.requestMeasure_active h]
  have hm : (s.setSec i { s.sec i with slot := some .host }).measureRunnable i = true := by
    rw [State.measureRunnable_host (by simp), State.holder_setSec, hhold]
    rfl
  obtain ⟨hl, hp⟩ | hb := hl
  · exact State.arbiter_measure (by simpa using hl) (by rw [State.sec_setSec_self]; exact hp) hm
  · rw [State.arbiter_brk (by simpa using hb), if_pos hm]

theorem State.requestMeasure_hibernate (h : (s.sec i).power = .hibernate) :
    s.requestMeasure i = s.setSec i { (s.sec i).woken s.nowMs ⟨false, true, false, false, false⟩ with slot := some .host } := by
  unfold State.requestMeasure
  rw [State.arrive_hibernate .host h, State.modSec, State.setSec_setSec, State.sec_setSec_self]
  exact State.arbiter_elsewhere (by simp [SectionCtl.woken]) (by simp [SectionCtl.woken])

theorem State.requestMeasure_waking {ph : WakePhase} (h : (s.sec i).power = .waking ph) (hl : (s.sec i).line = .down) :
    s.requestMeasure i = s.setSec i { s.sec i with slot := some .host, reasons := (s.sec i).reasons.add .host } := by
  unfold State.requestMeasure
  rw [State.arrive_waking .host h, State.modSec, State.setSec_setSec, State.sec_setSec_self]
  exact State.arbiter_elsewhere (by simp [hl]) (by simp [hl])

theorem State.requestMeasure_byCalls (s : State) (i : SectionId) : s.ByCalls i (s.requestMeasure i) :=
  ((s.arrive_byCalls i .host).trans (State.modSec_byLine _ i _).byCalls).trans (State.arbiter_byLine _ i).byCalls

/-- On a section returned from SETTLING the MEASURE starts on a free pair and path, and else waits (R86, R118). -/
theorem State.requestMeasure_settling {part : SettlePart} (h : (s.sec i).power = .settling part) :
    ((s.requestMeasure i).sec i).power = .active ∧ ((s.requestMeasure i).sec i).settleTimer = none ∧
    (s.holder i = none → (s.sec i).pairFree = true →
      ((s.requestMeasure i).sec i).line = .testing ∧ ((s.requestMeasure i).sec i).slot = none ∧
      (s.requestMeasure i).ltuOf i = ⟨some ⟨.host, s.seconds, s.nowMs, []⟩, (s.ltuOf i).last⟩) ∧
    (s.holder i = none → (s.sec i).pairFree = false →
      ((s.requestMeasure i).sec i).line = .idle ∧ ((s.requestMeasure i).sec i).slot = some .host) ∧
    (s.holder i ≠ none → ((s.requestMeasure i).sec i).slot = some .host ∧ (s.requestMeasure i).ltuOf i = s.ltuOf i) := by
  unfold State.requestMeasure
  rw [State.arrive_settling .host h]
  generalize hu : (s.toActive i).modSec i (fun x => { x with slot := some .host }) = u
  have husec : u.sec i = { ((s.sec i).returned s.nowMs).retime s.nowMs with slot := some .host } := by
    rw [← hu, State.sec_modSec_self, s.sec_toActive_self]
  have hltu : u.ltu = s.ltu := by rw [← hu]; rfl
  have hm : u.measureRunnable i = (s.holder i).isNone := by
    rw [State.measureRunnable_host (by rw [husec]), ← hu]
    rfl
  have hl : (u.sec i).line = .idle := by rw [husec]; rfl
  have hpair : (u.sec i).pairFree = (s.sec i).pairFree := by rw [husec]; rfl
  have hworked := u.arbiter_worked i
  refine ⟨by rw [hworked, husec]; rfl, by rw [hworked, husec]; rfl, fun hh hp => ?_, fun hh hp => ?_, fun hh => ?_⟩
  · rw [State.arbiter_measure hl (hpair.trans hp) (hm.trans (by simp [hh]))]
    obtain ⟨hl', hslot', _, _, _, hltu', _⟩ := State.startMeasure_spec (s := u) (i := i) (g := .host) (by rw [husec])
    refine ⟨hl', hslot', hltu'.trans ?_⟩
    rw [← hu]
    rfl
  · rw [State.arbiter_held hl (hpair.trans hp), husec]
    exact ⟨rfl, rfl⟩
  · obtain ⟨hslot, hltu'⟩ := State.arbiter_slot (s := u) (i := i) (hm.trans (by cases hj : s.holder i <;> simp_all))
    rw [hslot, State.ltuOf, hltu', hltu, husec]
    exact ⟨rfl, rfl⟩

end measure

end Sys2Proof.Machine

open Sys2Proof Sys2Proof.Machine

/-- Settles O34: MEASURE fills the slot and lets the arbiter act, by the section's power state. -/
theorem measureStartsOrWaits : Obligations.MeasureStartsOrWaits := by
  intro h s i f hf ha hd hdue
  subst hf
  generalize hu : s.taking ⟨.measure, h, byte1 i.val, 1⟩ = u
  have husec : u.sec i = s.sec i := by rw [← hu]; rfl
  have hunow : u.nowMs = s.nowMs := by rw [← hu]; rfl
  have huhold : u.holder i = s.holder i := by rw [← hu]; rfl
  have hultu : u.ltuOf i = s.ltuOf i := by rw [← hu]; rfl
  have hudue : u.dispatchDue = false := by rw [← hu]; exact hdue
  have hidle' : ∀ y, (u.setSec i y).finish = u.setSec i y := fun _ => State.finish_idle hudue
  refine ⟨fun hoff => exec_of_act rfl ha (State.onSectionInService_off (s.taking _) i _ hd hoff), fun hon hp => ?_,
    fun hslot hrun => ?_⟩
  · exact exec_of_act rfl ha (State.measureAct_pending (s := s.taking _) hd hon hp)
  have hexec : (s.sec i).power ≠ .off → exec (.measure h i.val) s =
      .next ((u.requestMeasure i).finish.replied ⟨.measure, h, byte1 i.val, 1⟩ .ok (.measure (u.measureNote i))) := fun hon => by
    refine exec_of_act rfl ha ?_
    rw [hu]
    exact State.measureAct_taken (by rw [husec]; exact hd) (by rw [husec]; exact hon) (by rw [husec]; exact hslot)
      (by rw [hultu]; exact hrun)
  have hnote := fun hp => State.measureNote_up (s := u) (i := i) hp
  rw [husec, huhold] at hnote
  refine ⟨fun hp hhold hidle => ?_, fun hp hhold hl => ?_, fun part hp => ?_, fun hp hhold hl => ?_, fun hp => ?_, fun ph hp hl => ?_⟩
  · rw [hexec (by simp [hp]), hnote (.inl hp), if_neg hhold,
      State.requestMeasure_waits (by rw [husec]; exact hp) (by rw [huhold]; exact hhold) (by rw [husec]; exact hidle), husec,
      hidle']
  · rw [hexec (by simp [hp]), hnote (.inl hp), if_pos hhold,
      State.requestMeasure_busy (by rw [husec]; exact hp) (by rw [husec]; exact hl), husec, hidle']
  · have hon : (s.sec i).power ≠ .off := by simp [hp]
    obtain ⟨hact, htimer, hstart, hheld, hwait⟩ := State.requestMeasure_settling (s := u) (i := i) (part := part)
      (by rw [husec]; exact hp)
    rw [husec, huhold, hultu, hunow] at *
    obtain ⟨hlink, hset, hdir, hothers⟩ := ((u.requestMeasure_byCalls i).trans (State.finish_byCalls _ i)).ofRequest hu
    refine ⟨_, (hexec hon).trans (by rw [hnote (.inr ⟨part, hp⟩)]), by rwa [State.finish_sec], by rwa [State.finish_sec],
      fun hh hpair => ?_, fun hh hpair => ?_, fun hh => ?_, hlink, hset, hdir, hothers⟩
    · obtain ⟨hl, hs, hl'⟩ := hstart hh hpair
      rw [State.finish_sec, State.testSource, State.finish_ltuOf, hl']
      refine ⟨hl, hs, rfl, ?_⟩
      rw [← hu]
      rfl
    · rw [State.finish_sec]
      exact hheld hh hpair
    · rw [State.finish_sec, State.finish_ltuOf]
      exact hwait hh
  · have hstart := State.requestMeasure_starts (s := u) (i := i) (by rw [husec]; exact hp) (by rw [huhold]; exact hhold)
      (by rw [husec]; exact hl)
    obtain ⟨hl', hslot', _, _, _, hltu', hev'⟩ := State.startMeasure_spec (s := u.setSec i { u.sec i with slot := some .host })
      (i := i) (g := .host) (by simp)
    have hline := (u.setSec_byLine i { u.sec i with slot := some .host }).trans (State.startMeasure_byLine _ i)
    rw [← hstart] at hl' hslot' hltu' hev' hline
    have hfin : (u.requestMeasure i).finish = u.requestMeasure i := State.finish_idle (hline.due.trans hudue)
    refine ⟨_, (hexec (by simp [hp])).trans (by rw [hnote (.inl hp), if_pos hhold, hfin]), hl', hslot', ?_, ?_, ?_, hline.onlyLine⟩
    · rw [State.testSource, hltu']
      rfl
    · rw [hltu', ← hu]
      rfl
    · rw [hev', ← hu]
      rfl
  · rw [hexec (by simp [hp]), State.requestMeasure_hibernate (by rw [husec]; exact hp), husec, hunow, hidle']
    rw [State.measureNote, husec, hp]
  · rw [hexec (by simp [hp]), State.requestMeasure_waking (by rw [husec]; exact hp) (by rw [husec]; exact hl), husec,
      hidle', State.measureNote, husec, hp]
end

section
/-! SUPPORT. LAMP and MESSAGE. -/

-- One theorem after another: elaborated side by side, they ask for more thread stacks than the check has memory for.
set_option Elab.async false

namespace Sys2Proof.Machine

/-! ## A host entry -/

/-- The answer to a request that puts a host entry in the queue of section `i`; `full` where the queue has no place for it (R76). -/
def State.hostTaken (s : State) (i : SectionId) (g : List Txn → List Txn) (full : Bool) (st : Status) (b : ReplyBody) : Answered :=
  if (s.sec i).power = .off then s.refuse .sectionOff
  else if full then s.refuse .queueFull
  else (s.hostEntry i g, st, b)

section hostTaken
variable {s : State} {p : Nat} {c : Fin 2} {e : PostEntry}

theorem State.lampAct_found (h1 : 1 ≤ p) (h2 : p ≤ 59999) (hl : s.lookup p = some (c, e)) {n : Nat} {pat : LampPattern}
    (hpat : LampPattern.ofCode n = some pat) :
    s.lampAct p n = s.hostTaken e.sec (joinLamp ⟨.lamp pat, e.addr, .host, 0, 0, 0, false⟩)
      (!(s.sec e.sec).lampQueued e.addr && decide (6 ≤ (s.sec e.sec).hostCount)) .ok
      (.lampTaken e.sec e.addr ((s.sec e.sec).lampQueued e.addr)) := by
  unfold State.lampAct
  rw [hpat]
  exact s.onPost_found _ h1 h2 hl

theorem State.messageAct_found (h1 : 1 ≤ p) (h2 : p ≤ 59999) (hl : s.lookup p = some (c, e)) (text : List Byte) :
    s.messageAct p text = s.hostTaken e.sec (fun q => q ++ [⟨.text (preparedText text), e.addr, .host, 0, 0, 0, false⟩])
      (decide (6 ≤ (s.sec e.sec).hostCount)) (okStatus (preparedText text == text))
      (.textTaken e.sec e.addr (preparedText text) (recordCount (preparedText text))) := by
  refine (s.onPost_found _ h1 h2 hl).trans ?_
  unfold State.hostTaken
  split
  · rfl
  · by_cases hfull : 6 ≤ (s.sec e.sec).hostCount
    · rw [if_pos (show Config.hostDepth ≤ _ from hfull), if_pos (by simpa using hfull)]
    · rw [if_neg (show ¬ Config.hostDepth ≤ _ from hfull), if_neg (by simpa using hfull)]
      rfl

theorem recordCount_eq (text : List Byte) : recordCount text = if text = [] then 1 else (text.length + 7) / 8 := by
  unfold recordCount
  cases text <;> rfl

theorem joinLamp_eq (t : Txn) (q : List Txn) :
    joinLamp t q = if q.any (fun u => u.kind.isLamp && u.addr == t.addr) then
      q.map (fun u => if u.kind.isLamp = true ∧ u.addr = t.addr then t else u) else q ++ [t] := by
  unfold joinLamp
  simp

end hostTaken

end Sys2Proof.Machine

open Sys2Proof Sys2Proof.Machine

/-- Settles O35: both requests put one entry in the queue, a LAMP in the place of another, and the section's power state says what
follows. -/
theorem lampAndMessageJoinTheQueue : Obligations.LampAndMessageJoinTheQueue := by
  intro h p s c e cmd f kind st b swap x new joined hcmd ha h1 h2 hlook hx hnew hjoined hdue
  subst hx
  obtain ⟨g, hreq, hact, hg, hnil⟩ : ∃ g, requestOf cmd = some f ∧
      requestAct cmd (s.taking f) =
        (s.taking f).hostTaken e.sec g (!swap && decide (6 ≤ (s.sec e.sec).hostCount)) st b ∧
      g (s.sec e.sec).queue = joined ∧ ((s.sec e.sec).queue = [] → joined = [new]) := by
    obtain ⟨pat, n, hpat, rfl, rfl, rfl, rfl, rfl, rfl⟩ | ⟨text, done, rfl, rfl, rfl, rfl, rfl, rfl, rfl⟩ := hcmd
    · refine ⟨joinLamp new, rfl, ?_, by rw [hjoined, hnew]; exact joinLamp_eq _ _, fun hq => by rw [hjoined, hq]; rfl⟩
      rw [hnew]
      exact State.lampAct_found (s := s.taking _) h1 h2 hlook hpat
    · refine ⟨fun q => q ++ [new], rfl, ?_, by rw [hjoined]; rfl, fun hq => by rw [hjoined, hq]; rfl⟩
      have hfound := State.messageAct_found (s := s.taking ⟨.message, h, byte2 p ++ byte1 text.length ++ text, 3 + text.length⟩)
        h1 h2 hlook text
      rw [recordCount_eq] at hfound
      refine hfound.trans ?_
      rw [hnew, okStatus]
      simp only [beq_iff_eq]
      rfl
  generalize hu : s.taking f = u at hact
  have husec : u.sec e.sec = s.sec e.sec := by rw [← hu]; rfl
  have hunow : u.nowMs = s.nowMs := by rw [← hu]; rfl
  have hudue : u.dispatchDue = false := by rw [← hu]; exact hdue
  have hidle : ∀ y, (u.setSec e.sec y).finish = u.setSec e.sec y := fun _ => State.finish_idle hudue
  have hexec : ∀ {t st' b'}, u.hostTaken e.sec g (!swap && decide (6 ≤ (s.sec e.sec).hostCount)) st b = (t, st', b') →
      exec cmd s = .next (t.replied f st' b') := fun ht => exec_of_act hreq ha (by rw [hu, hact, ht])
  unfold State.hostTaken at hexec
  rw [husec] at hexec
  refine ⟨fun hoff => ?_, fun hon hsw hfull => ?_, fun hroom => ?_⟩
  · rw [State.answers, hu]
    exact hexec (if_pos hoff)
  · rw [State.answers, hu]
    exact hexec ((if_neg hon).trans (if_pos (by simp [hsw, hfull])))
  have hentry : (s.sec e.sec).power ≠ .off → exec cmd s = .next ((u.enqueue e.sec .host g).finish.replied f st b) := fun hon =>
    hexec ((if_neg hon).trans (if_neg (by obtain h | h := hroom <;> simp [h])))
  have hqueue : g (u.sec e.sec).queue = joined := by rw [husec]; exact hg
  refine ⟨fun hp hl => ?_, fun ph hp hl => ?_, fun hp => ?_, fun part hp => ?_, fun hp hl hpair hslot hq hs => ?_⟩
  · rw [hentry (by simp [hp]), State.enqueue_waits (by rw [husec]; exact hp) (.inl (by rw [husec]; exact hl)), hqueue, hidle,
      husec]
  · rw [hentry (by simp [hp]), State.enqueue_waking (by rw [husec]; exact hp) (by rw [husec, hl]; exact fun h => LineState.noConfusion h),
      hqueue, hidle, husec]
  · rw [hentry (by simp [hp]), State.enqueue_hibernate (by rw [husec]; exact hp), hqueue, hidle, husec, hunow]
    rfl
  · obtain ⟨hact', htimer⟩ := State.enqueue_settling (w := .host) (f := g) (s := u) (by rw [husec]; exact hp)
    obtain ⟨hlink, hset, hdir, hothers⟩ := ((u.enqueue_byCalls e.sec .host g).trans (State.finish_byCalls _ _)).ofRequest hu
    exact ⟨_, hentry (by simp [hp]), by rwa [State.finish_sec], by rwa [State.finish_sec], hlink, hset, hdir, hothers⟩
  · obtain ⟨hsend, hq', hact', hev⟩ := State.enqueue_sends (w := .host) (s := u) (i := e.sec) (f := g) (t := new) (q := [])
      (.inl (by rw [husec]; exact ⟨hp, hl⟩)) (by rw [husec]; exact hpair) (by rw [husec]; exact hslot) (by rw [← hu]; exact hs)
      (hqueue.trans (hnil hq))
    rw [husec, hunow] at hsend
    have hline : u.ByLine e.sec (u.enqueue e.sec .host g) := by
      unfold State.enqueue
      rw [State.arrive_active .host (by rw [husec]; exact hp)]
      exact (u.modQueue_byLine e.sec g).trans (State.workArrived_byLine _ e.sec)
    have hfin : (u.enqueue e.sec .host g).finish = u.enqueue e.sec .host g := State.finish_idle (hline.due.trans hudue)
    refine ⟨_, (hentry (by simp [hp])).trans (by rw [hfin]), hsend.line, hsend.inFlight, hsend.exch, hq', ?_, hline.onlyLine⟩
    rw [hev, ← hu]
    rfl
end

section
/-! SUPPORT. The failure of the transaction in flight. -/

-- One theorem after another: elaborated side by side, they ask for more thread stacks than the check has memory for.
set_option Elab.async false

namespace Sys2Proof.Machine

/-! ## The report of a failure -/

theorem State.noticeFailed_inner (s : State) (k : TxnKind) (r : Nat) : s.Inner (s.noticeFailed k r) := by
  unfold State.noticeFailed
  split
  · split
    · exact (s.endCall_byCalls _ _).toInner
    · exact .refl s
  · exact .refl s

/-- A failed notice that is no RING is reported to nobody (R147). -/
theorem State.noticeFailed_other {k : TxnKind} (h : k ≠ .ring) (s : State) (r : Nat) : s.noticeFailed k r = s := by
  unfold State.noticeFailed
  split
  · exact if_neg (fun hk => h hk.1)
  · rfl

/-- TRANSACTION_FAILED of `t`, which is told first (R79). -/
def State.failTold (s : State) (i : SectionId) (t : Txn) (r : FailReason) : EventBody :=
  .transactionFailed i t.addr ((s.slotAt i t.addr).getD 0) t.kind.name r t.origin.ref (t.delivered r)

theorem State.reportFailed_round {t : Txn} (h : t.origin = .round) (s : State) (i : SectionId) (r : FailReason) :
    s.reportFailed i t r = (s.post (s.failTold i t r)).pollFailed i t.addr r := by
  unfold State.reportFailed
  simp only [h]
  rw [State.failTold, h]

theorem State.reportFailed_host {t : Txn} (h : t.origin = .host) (s : State) (i : SectionId) (r : FailReason) :
    s.reportFailed i t r = s.post (s.failTold i t r) := by
  unfold State.reportFailed
  simp only [h]
  rw [State.failTold, h]

theorem State.reportFailed_call {t : Txn} {n : Nat} (h : t.origin = .call n) (s : State) (i : SectionId) (r : FailReason) :
    s.reportFailed i t r = (s.post (s.failTold i t r)).noticeFailed t.kind n := by
  unfold State.reportFailed
  simp only [h]
  rw [State.failTold, h]

/-- What follows TRANSACTION_FAILED in its report stays inside the command. -/
theorem State.reportFailed_post (s : State) (i : SectionId) (t : Txn) (r : FailReason) :
    (s.post (s.failTold i t r)).Inner (s.reportFailed i t r) := by
  cases h : t.origin with
  | round =>
    rw [State.reportFailed_round h]
    exact (State.pollFailed_noCall _ i _ r).toInner
  | host =>
    rw [State.reportFailed_host h]
    exact .refl _
  | call n =>
    rw [State.reportFailed_call h]
    exact State.noticeFailed_inner _ _ n

theorem State.reportFailed_inner (s : State) (i : SectionId) (t : Txn) (r : FailReason) : s.Inner (s.reportFailed i t r) :=
  (s.post_byLine i _).toInner.trans (s.reportFailed_post i t r)

theorem State.pollFailed_counted (s : State) (i : SectionId) (a : Addr) (r : FailReason) :
    (s.sec i).Counted ((s.pollFailed i a r).sec i) ∧ ((s.sec i).round = none → ((s.pollFailed i a r).sec i).round = none) := by
  have hmissed : (s.missedReport i a).sec i = s.sec i := by rw [State.sec, s.missedReport_secs]; rfl
  have hended : ∀ (u : State) g, (u.sec i).round = none → u.pollEnded i a g = u := fun u g hu => by rw [State.pollEnded, hu]
  unfold State.pollFailed
  cases r with
  | noReply =>
    have hc := (s.missedReport i a).pollEnded_counted i a (fun x => { x with missed := x.missed + 1 })
    rw [hmissed] at hc
    refine ⟨hc, fun hr => ?_⟩
    dsimp only
    rw [hended _ _ (by rw [hmissed]; exact hr), hmissed]
    exact hr
  | arbLost =>
    refine ⟨s.pollEnded_counted i a _, fun hr => ?_⟩
    dsimp only
    rw [hended s _ hr]
    exact hr
  | lengthShort | aborted => exact ⟨.refl _, id⟩

/-- A failure that ends no call leaves its section's queue, and opens no round. -/
theorem State.reportFailed_counted (s : State) (i : SectionId) {t : Txn} (r : FailReason)
    (h : t.kind = .ring → t.origin.ref = none) :
    (s.sec i).Counted ((s.reportFailed i t r).sec i) ∧
    ((s.sec i).round = none → ((s.reportFailed i t r).sec i).round = none) := by
  cases ho : t.origin with
  | round =>
    rw [State.reportFailed_round ho]
    have hc := (s.post (s.failTold i t r)).pollFailed_counted i t.addr r
    rwa [State.sec_post] at hc
  | host =>
    rw [State.reportFailed_host ho, State.sec_post]
    exact ⟨.refl _, id⟩
  | call n =>
    rw [ho] at h
    rw [State.reportFailed_call ho, State.noticeFailed_other (fun hk => absurd (h hk) (by simp [TxnOrigin.ref])), State.sec_post]
    exact ⟨.refl _, id⟩

/-! ## The transaction in flight fails -/

/-- The failure of the transaction in flight up to the entry into IDLE (R79). -/
def State.flightFailed (i : SectionId) (t : Txn) (r : FailReason) (s : State) : State :=
  ((s.clearFlight i).reportFailed i t r).finish

theorem State.failFlight_eq (s : State) (i : SectionId) (t : Txn) (r : FailReason) :
    s.failFlight i t r = (s.flightFailed i t r).enterIdle i := rfl

section flightFailed
variable {s : State} {i : SectionId} {t : Txn} {r : FailReason}

theorem State.clearFlight_failTold (s : State) (i : SectionId) (t : Txn) (r : FailReason) :
    (s.clearFlight i).failTold i t r = s.failTold i t r := rfl

theorem State.flightFailed_told (s : State) (i : SectionId) (t : Txn) (r : FailReason) :
    ∃ bs, s.Told (s.flightFailed i t r) (s.failTold i t r :: bs) := by
  have htold : s.Told ((s.clearFlight i).post (s.failTold i t r)) [s.failTold i t r] :=
    State.Told.afterQuiet (t := s.clearFlight i) .quiet (State.post_told _ _)
  obtain ⟨bs, hbs⟩ := (((s.clearFlight i).reportFailed_post i t r).trans (State.finish_byCalls _ i).toInner).told'
  exact ⟨bs, htold.trans hbs⟩

theorem State.flightFailed_inner (s : State) (i : SectionId) (t : Txn) (r : FailReason) : s.Inner (s.flightFailed i t r) :=
  ((s.clearFlight_byLine i).toInner.trans (State.reportFailed_inner _ i t r)).trans (State.finish_byCalls _ i).toInner

theorem State.failFlight_inner (s : State) (i : SectionId) (t : Txn) (r : FailReason) : s.Inner (s.failFlight i t r) :=
  (s.flightFailed_inner i t r).trans (State.enterIdle_noCall _ i).toInner

/-- The transaction has left a busy line, which is otherwise as it was but for its queue and round. -/
theorem State.flightFailed_sec (hb : (s.sec i).Busy) (t : Txn) (r : FailReason) :
    ({ s.sec i with inFlight := none, exch := .quiet }.retime s.nowMs).SameLine ((s.flightFailed i t r).sec i) := by
  have h := (State.reportFailed_lineKept (s.clearFlight i) i t r).trans (State.finish_lineKept _) i (State.clearFlight_busy hb)
  rwa [State.sec_clearFlight, if_pos rfl] at h

/-- A failure that ends no call leaves the queue and opens no round. -/
theorem State.flightFailed_counted (s : State) (i : SectionId) (r : FailReason) (h : t.kind = .ring → t.origin.ref = none) :
    ((s.flightFailed i t r).sec i).queue = (s.sec i).queue ∧ ((s.flightFailed i t r).sec i).slot = (s.sec i).slot ∧
    ((s.sec i).round = none → ((s.flightFailed i t r).sec i).round = none) := by
  obtain ⟨hc, hr⟩ := (s.clearFlight i).reportFailed_counted i r h
  rw [State.sec_clearFlight, if_pos rfl] at hc hr
  unfold State.flightFailed
  rw [State.finish_sec]
  refine ⟨?_, ?_, hr⟩ <;> rw [hc] <;> rfl

/-- The failure of what is in flight on a busy line (R47, R68, R79); `q` is `t` but for its counts. -/
theorem State.failFlight_fails {q : Txn} {n : Option Nat} (hb : (s.sec i).Busy) (haddr : t.addr = q.addr) (hkind : t.kind = q.kind)
    (horigin : t.origin = q.origin) (hn : t.delivered r = n) : s.FlightFails (s.failFlight i t r) i q r n := by
  have hsec := State.flightFailed_sec hb t r
  have hinner := s.flightFailed_inner i t r
  have hidle := (s.flightFailed i t r).enterIdle_noCall i
  have hpair : ((s.flightFailed i t r).sec i).pairFree = (s.sec i).pairFree := by rw [hsec]; rfl
  have hsync : ((s.flightFailed i t r).sec i).syncWord = (s.sec i).syncWord := by rw [hsec]; rfl
  have hnone : ((s.flightFailed i t r).sec i).inFlight = none := hsec.inFlight
  rw [State.failFlight_eq]
  refine ⟨?_, ?_, fun hp => ?_, fun hslot href => ⟨fun hq hr => ?_, fun m ms hq hp hs => ?_⟩⟩
  · obtain ⟨bs, hbs⟩ := s.flightFailed_told i t r
    obtain ⟨cs, hcs⟩ := hidle.toInner.told'
    rw [State.failTold, haddr, hkind, horigin, hn] at hbs
    exact ⟨bs ++ cs, (hbs.trans hcs).tells⟩
  · rw [((s.flightFailed i t r).enterIdle_settled i).1, hidle.nowMs]
  · rw [State.enterIdle_held (hpair.trans hp)]
    obtain ⟨hl, _, hin, _, _, hex⟩ := ((s.flightFailed i t r).sec_settleIdle i).held
    exact ⟨hl, hex, hin.trans hnone⟩
  all_goals
    obtain ⟨hqueue, hslot', hround⟩ := s.flightFailed_counted i r (t := t) (by rw [hkind, horigin]; exact href)
    have hm := State.measureRunnable_none (hslot'.trans hslot)
  · rw [State.enterIdle_nothing hm (hqueue.trans hq) (hround hr)]
    obtain ⟨hl, hq', hin, _, _, hex⟩ := ((s.flightFailed i t r).sec_settleIdle i).held
    exact ⟨hl, hex, hin.trans hnone, hq'.trans (hqueue.trans hq)⟩
  · obtain ⟨hsend, hq', _, _, _⟩ := State.enterIdle_sends (hpair.trans hp) hm (hinner.silent.trans hs) (hqueue.trans hq)
    refine ⟨hsend.line, hsend.inFlight, hq', ?_⟩
    rw [hsend.exch, hsync, hidle.nowMs]

end flightFailed

/-- The failure of a transaction, read from any state that is as far as it goes. -/
theorem State.FlightFails.start {s u t : State} {i : SectionId} {q : Txn} {r : FailReason} {n : Option Nat}
    (h : u.FlightFails t i q r n) (he : u.events = s.events) (hw : u.silent = s.silent) (hs : u.seconds = s.seconds)
    (hrost : u.rosters = s.rosters) (hpair : (u.sec i).pairFree = (s.sec i).pairFree)
    (hsync : (u.sec i).syncWord = (s.sec i).syncWord) (hslot : (u.sec i).slot = (s.sec i).slot)
    (hqueue : (u.sec i).queue = (s.sec i).queue) (hround : (u.sec i).round = (s.sec i).round) : s.FlightFails t i q r n := by
  obtain ⟨⟨more, htells⟩, hidle, hheld, hfree⟩ := h
  have hrosters : u.slotAt i q.addr = s.slotAt i q.addr := by
    unfold State.slotAt
    rw [hrost]
  rw [hrosters] at htells
  rw [hpair] at hheld
  rw [hslot, hqueue, hround, hpair, hw, hsync] at hfree
  exact ⟨⟨more, htells.start he hw hs⟩, hidle, hheld, hfree⟩

end Sys2Proof.Machine
end

section
/-! SUPPORT. The attempt that follows, or does not follow, a failed one; the end mark of a transaction burst. -/

-- One theorem after another: elaborated side by side, they ask for more thread stacks than the check has memory for.
set_option Elab.async false

namespace Sys2Proof.Machine

theorem SectionCtl.Busy.of_line {x : SectionCtl} (ha : x.power = .active) (hl : x.line = .owned ∨ x.line = .foreign) : x.Busy := by
  obtain hl | hl := hl <;> exact ⟨ha, by simp [hl], by simp [hl]⟩

/-! ## The next attempt -/

section attempt
variable {s : State} {i : SectionId} {q : Txn}

theorem SectionCtl.spent_iff (x : SectionCtl) (t : Txn) : x.spent t = true ↔ x.timingD.retries < t.attempts := by
  simp [SectionCtl.spent]

theorem State.resumeFlight_sends (hin : (s.sec i).inFlight = some q) (h : q.attempts ≤ (s.sec i).timingD.retries) :
    s.resumeFlight i = s.sendAttempt i q := by
  rw [State.resumeFlight, hin]
  exact if_neg (by rw [SectionCtl.spent_iff]; omega)

theorem State.resumeFlight_spent (hin : (s.sec i).inFlight = some q) (h : (s.sec i).timingD.retries < q.attempts) :
    s.resumeFlight i = s.failFlight i q .noReply := by
  rw [State.resumeFlight, hin]
  exact if_pos ((SectionCtl.spent_iff _ _).2 h)

theorem State.resumeFlight_fails (hb : (s.sec i).Busy) (hin : (s.sec i).inFlight = some q)
    (h : (s.sec i).timingD.retries < q.attempts) :
    s.FlightFails (s.resumeFlight i) i q .noReply none ∧ s.Inner (s.resumeFlight i) := by
  rw [State.resumeFlight_spent hin h]
  exact ⟨State.failFlight_fails hb rfl rfl rfl rfl, s.failFlight_inner i q .noReply⟩

theorem State.attemptFailed_sends (hin : (s.sec i).inFlight = some q) (h : q.attempts < (s.sec i).timingD.retries)
    (hp : (s.sec i).pairFree = true) : s.attemptFailed i = s.sendAttempt i { q with attempts := q.attempts + 1 } := by
  rw [State.attemptFailed, hin]
  exact (if_neg (by rw [SectionCtl.spent_iff]; simp only [Txn.oneMore]; omega)).trans (if_pos hp)

theorem State.attemptFailed_waits (hin : (s.sec i).inFlight = some q) (h : q.attempts < (s.sec i).timingD.retries)
    (hp : (s.sec i).pairFree = false) :
    s.attemptFailed i = s.modLine i (fun x => { x with inFlight := some { q with attempts := q.attempts + 1 }, exch := .retryWait }) := by
  rw [State.attemptFailed, hin]
  exact (if_neg (by rw [SectionCtl.spent_iff]; simp only [Txn.oneMore]; omega)).trans (if_neg (by simp [hp]))

theorem State.attemptFailed_spent (hin : (s.sec i).inFlight = some q) (h : (s.sec i).timingD.retries ≤ q.attempts) :
    s.attemptFailed i = s.failFlight i { q with attempts := q.attempts + 1 } .noReply := by
  rw [State.attemptFailed, hin]
  exact if_pos ((SectionCtl.spent_iff _ _).2 (Nat.lt_succ_of_le h))

theorem State.attemptFailed_fails (hb : (s.sec i).Busy) (hin : (s.sec i).inFlight = some q)
    (h : (s.sec i).timingD.retries ≤ q.attempts) :
    s.FlightFails (s.attemptFailed i) i q .noReply none ∧ s.Inner (s.attemptFailed i) := by
  rw [State.attemptFailed_spent hin h]
  exact ⟨State.failFlight_fails hb rfl rfl rfl rfl, s.failFlight_inner i _ .noReply⟩

/-- An attempt takes the line and leaves the queue. -/
theorem State.sendAttempt_spec (i : SectionId) (t : Txn) (hs : s.silent = false) :
    (s.sec i).Sends ((s.sendAttempt i t).sec i) t s.nowMs ∧ ((s.sendAttempt i t).sec i).queue = (s.sec i).queue ∧
    ((s.sendAttempt i t).sec i).idleSince = (s.sec i).idleSince ∧ ((s.sendAttempt i t).sec i).carrier = (s.sec i).carrier := by
  refine ⟨State.sendAttempt_sends i t hs, ?_, ?_, ?_⟩ <;> rw [State.sec_sendAttempt] <;> rfl

end attempt

/-! ## An exchange that changes -/

theorem State.sec_setExch (s : State) (i : SectionId) (e : Exchange) :
    (s.setExch i e).sec i = { s.sec i with exch := e }.retime s.nowMs := by
  unfold State.setExch
  rw [State.sec_modLine_self]

theorem State.burstSent_sent {s : State} {i : SectionId} {b : Burst} {tm : Timer}
    (h : (s.sec i).exch = .sending b tm ∨ ((s.sec i).exch = .lead b tm ∧ tm.start + tm.dur ≤ s.nowMs)) :
    s.burstSent i = s.setExch i (.window ⟨s.nowMs, (s.sec i).timingD.replyWindow⟩) := by
  obtain h | ⟨h, hdue⟩ := h <;> rw [State.burstSent, h]
  · rfl
  · exact if_pos hdue

theorem State.burstSent_collided {s : State} {i : SectionId} {b : Burst} (h : (s.sec i).exch = .collided b) :
    s.burstSent i = if (s.sec i).pairFree then (s.setExch i .retryWait).resumeFlight i else s.setExch i .retryWait := by
  have hpair : ((s.setExch i .retryWait).sec i).pairFree = (s.sec i).pairFree := by rw [State.sec_setExch]; rfl
  rw [State.burstSent, h]
  dsimp only
  rw [hpair]

end Sys2Proof.Machine

open Sys2Proof Sys2Proof.Machine

/-- Settles O49: the exchange says what the end mark is the end of. -/
theorem burstIsSentAndTheWindowOpens : Obligations.BurstIsSentAndTheWindowOpens := by
  intro s i x hx
  subst hx
  refine ⟨fun b tm he => ?_, fun hne => ?_, fun b tm he hdue => ?_, fun b tm he => ?_, fun b he hp => ?_,
    fun b q he hp hact hl hin => ?_⟩
  · have hlead : s.leadEnds i = (s.reach (tm.start + tm.dur)).setExch i (.sending b tm) := by
      rw [State.leadEnds, he]
      rfl
    refine ⟨_, congrArg Host.Outcome.next hlead, ?_, ?_, ?_, ?_, rfl, (State.modLine_byLine _ i _).others⟩ <;>
      rw [State.sec_setExch] <;> rfl
  · refine congrArg Host.Outcome.next ?_
    unfold State.leadEnds
    split
    · next b tm he => exact absurd he (hne b tm)
    · rfl
  · refine congrArg Host.Outcome.next ?_
    rw [State.burstSent, he]
    exact if_neg (Nat.not_le.2 hdue)
  · refine ⟨_, congrArg Host.Outcome.next (State.burstSent_sent he), ?_, ?_, ?_, ?_, rfl, rfl, (s.modLine_byLine i _).onlyLine⟩ <;>
      rw [State.sec_setExch] <;> rfl
  · refine ⟨_, congrArg Host.Outcome.next ((State.burstSent_collided he).trans (if_neg (by simp [hp]))), ?_, ?_, ?_, rfl, rfl,
      (s.modLine_byLine i _).onlyLine⟩ <;> rw [State.sec_setExch] <;> rfl
  · have hexec : exec (.transactionBurstSent i) s = .next ((s.setExch i .retryWait).resumeFlight i) :=
      congrArg Host.Outcome.next ((State.burstSent_collided he).trans (if_pos hp))
    have hsec := s.sec_setExch i .retryWait
    have hin' : ((s.setExch i .retryWait).sec i).inFlight = some q := by rw [hsec]; exact hin
    refine ⟨fun hroom hs => ?_, fun hspent => ?_⟩
    · obtain ⟨hsend, hq, _⟩ := State.sendAttempt_spec (s := s.setExch i .retryWait) i q hs
      rw [hsec] at hsend hq
      rw [State.resumeFlight_sends hin' (by rw [hsec]; exact hroom)] at hexec
      exact ⟨_, hexec, hsend.line, hsend.inFlight, hsend.exch, hq, rfl, rfl,
        ((s.modLine_byLine i _).trans (State.sendAttempt_byLine _ i q)).onlyLine⟩
    · have hbusy : ((s.setExch i .retryWait).sec i).Busy := by
        rw [hsec]
        exact SectionCtl.Busy.of_line hact (.inl hl)
      obtain ⟨hfail, hinner⟩ := State.resumeFlight_fails hbusy hin' (by rw [hsec]; exact hspent)
      have hfail' := hfail.start (s := s) rfl rfl rfl rfl (by rw [hsec]; rfl) (by rw [hsec]; rfl) (by rw [hsec]; rfl)
        (by rw [hsec]; rfl) (by rw [hsec]; rfl)
      have hall := (s.modLine_byLine i (fun x => { x with exch := .retryWait })).toInner.trans hinner
      exact ⟨_, hexec, hfail', ⟨hall.rx, hall.buffer, hall.resetHeld, hall.poweringUp⟩, ⟨hall.reply, hall.headTaken⟩,
        ⟨hall.mode, hall.globals, hall.seconds, hall.nowMs⟩, hall.rosters, hall.unresolved⟩
end

section
/-! SUPPORT. The wake sequence. -/

-- One theorem after another: elaborated side by side, they ask for more thread stacks than the check has memory for.
set_option Elab.async false

namespace Sys2Proof.Machine

/-! ## A round that the arbiter keeps open -/

/-- A round with an eligible address left is open after the arbiter's act (R103). -/
theorem State.arbiter_keepsRound {s : State} {i : SectionId} {r : Round} (hr : (s.sec i).round = some r)
    (h : (s.nextEligible i r.cursor).isSome = true) : ((s.arbiter i).sec i).round ≠ none := by
  obtain ⟨a, ha⟩ := Option.isSome_iff_exists.1 h
  have hmeasure : ((s.startMeasure i).sec i).round ≠ none := by
    unfold State.startMeasure
    split
    · rw [State.sec_modLine_self]
      exact Option.ne_none_iff_exists'.2 ⟨r, hr⟩
    · rw [hr]
      exact Option.some_ne_none r
  have hsame : (s.sec i).round ≠ none := by rw [hr]; exact Option.some_ne_none r
  unfold State.arbiter
  split
  · split
    · exact hsame
    · split
      · exact hmeasure
      · split
        · exact hsame
        · split
          · rw [State.sec_sendAttempt, State.sec_modSec_self]
            exact hsame
          · unfold State.arbitrateRound
            rw [hr]
            dsimp only
            rw [ha]
            dsimp only
            rw [State.sec_sendAttempt, State.sec_modSec_self]
            exact Option.some_ne_none _
  · split
    · exact hmeasure
    · exact hsame
  all_goals exact hsame

/-! ## The wake sequence -/

section wake
variable {s : State} {i : SectionId} {tm : Timer}

theorem State.powerUpEnds_eq (hp : (s.sec i).power = .waking .powerUp) (ht : (s.sec i).wakeTimer = some tm)
    (hs : s.silent = false) :
    s.powerUpEnds i = (s.reach (tm.start + tm.dur)).setSec i { s.sec i with
      power := .waking .announce, wakeTimer := some ⟨max s.nowMs (tm.start + tm.dur), 200⟩,
      exch := .announce ⟨(s.sec i).syncWord, .addressed 0, []⟩, stuckTimer := none, breakTimer := none, quietTimer := none } := by
  unfold State.powerUpEnds State.modLine
  rw [hp, ht]
  dsimp only
  rw [SectionCtl.retime_asleep _ (by simp), hs]
  rfl

/-- A section as ANNOUNCE ends, up to the entry into IDLE (R91). -/
def State.announced (i : SectionId) (now : Nat) (s : State) : State :=
  (s.reach now).modLine i (fun x => { x with power := .active, wakeTimer := none })

/-- A section that has become ACTIVE, up to the arbiter's act: the reasons told and emptied, and the round opened (R91). -/
def State.awoken (i : SectionId) (now : Nat) (s : State) : State := (((s.announced i now).settleIdle i).tellActive i).openDue i

theorem State.announceEnds_eq (hp : (s.sec i).power = .waking .announce) (ht : (s.sec i).wakeTimer = some tm) :
    s.announceEnds i = ((s.awoken i (tm.start + tm.dur)).arbiter i).markDispatch.finish := by
  rw [State.announceEnds, hp, ht]
  rfl

theorem State.sec_announced (s : State) (i : SectionId) (n : Nat) :
    (s.announced i n).sec i = { s.sec i with power := .active, wakeTimer := none }.retime (max s.nowMs n) :=
  State.sec_modLine_self (s.reach n) i _

theorem State.sec_tellActive (s : State) (i : SectionId) : (s.tellActive i).sec i = { s.sec i with reasons := .empty } := by
  unfold State.tellActive
  rw [State.sec_modSec_self, State.sec_post]

theorem State.tellActive_told (s : State) (i : SectionId) :
    s.Told (s.tellActive i) [.sectionState i .active (s.sec i).reasons] :=
  (State.post_told _ _).thenQuiet .quiet

theorem State.tellActive_byLine (s : State) (i : SectionId) : s.ByLine i (s.tellActive i) :=
  (s.post_byLine i _).trans (State.modSec_byLine _ i _)

theorem State.openDue_byLine (s : State) (i : SectionId) : s.ByLine i (s.openDue i) := by
  unfold State.openDue
  split
  · exact (s.modSec_byLine i _).trans (State.openRound_byLine _ i)
  · exact .refl i s

/-- The round's mark is taken, and nothing else of the section but its round, overrun mark and bracket has changed. -/
theorem State.openDue_counted (s : State) (i : SectionId) :
    { s.sec i with roundDue := false }.Counted ((s.openDue i).sec i) := by
  unfold State.openDue
  split
  · have h := State.openRound_counted (s.modSec i (fun x => { x with roundDue := false })) i
    rwa [State.sec_modSec_self] at h
  · next h =>
    have hfalse : (s.sec i).roundDue = false := by simpa using h
    unfold SectionCtl.Counted
    conv_rhs => rw [← hfalse]

theorem State.openDue_opens (hdue : (s.sec i).roundDue = true) {a : Addr} (h1 : 1 ≤ a.val) (he : s.eligibleAddr i a = true) :
    ((s.openDue i).sec i).round = some ⟨1, none, 0, 0, 0⟩ ∧ (s.openDue i).dir = s.dir ∧ (s.openDue i).rosters = s.rosters := by
  unfold State.openDue
  rw [if_pos hdue, State.openRound_opens (s := s.modSec i _) h1 he, State.sec_setSec_self]
  exact ⟨rfl, rfl, rfl⟩

/-- A section that has just become ACTIVE (R91): `x` is its controller before. -/
structure SectionCtl.Awoken (x y : SectionCtl) (now : Nat) : Prop where
  active : y.power = .active
  wakeTimer : y.wakeTimer = none
  reasons : y.reasons = ⟨false, false, false, false, false⟩
  roundDue : y.roundDue = false
  idleSince : y.idleSince = some now
  pendingTiming : y.pendingTiming = none
  timing : y.timing = (match x.pendingTiming with | some v => some v | none => x.timing)
  line : y.line = .idle
  queue : y.queue = x.queue
  slot : y.slot = x.slot
  pairFree : y.pairFree = x.pairFree

theorem State.awoken_sec (s : State) (i : SectionId) (n : Nat) :
    (s.sec i).Awoken ((s.awoken i n).sec i) (max s.nowMs n) := by
  have hidle := (s.announced i n).sec_settleIdle i
  have htell := ((s.announced i n).settleIdle i).sec_tellActive i
  have hdue := (((s.announced i n).settleIdle i).tellActive i).openDue_counted i
  rw [htell, hidle, s.sec_announced] at hdue
  unfold State.awoken
  rw [hdue]
  exact ⟨rfl, rfl, rfl, rfl, rfl, rfl, rfl, rfl, rfl, rfl, rfl⟩

theorem State.awoken_told (s : State) (i : SectionId) (n : Nat) (h : (s.sec i).pendingTiming = none) :
    ∃ bs, s.Told (s.awoken i n) (.sectionState i .active (s.sec i).reasons :: bs) := by
  have hquiet := (s.announced i n).settleIdle_quiet i (by rw [s.sec_announced]; exact h)
  have htold := ((s.announced i n).settleIdle i).tellActive_told i
  have hreasons : (((s.announced i n).settleIdle i).sec i).reasons = (s.sec i).reasons := by
    rw [(s.announced i n).sec_settleIdle i, s.sec_announced]
    rfl
  rw [hreasons] at htold
  obtain ⟨bs, hbs⟩ := ((((s.announced i n).settleIdle i).tellActive i).openDue_byLine i).toInner.told'
  exact ⟨bs, (State.Told.afterQuiet (.quiet (t := s.announced i n)) (hquiet.afterQuiet htold)).trans hbs⟩

theorem State.awoken_noCall (s : State) (i : SectionId) (n : Nat) : (s.reach n).NoCall i (s.awoken i n) :=
  ((((s.reach n).modLine_byLine i _).toNoCall.trans (State.settleIdle_noCall _ i)).trans (State.tellActive_byLine _ i).toNoCall).trans
    (State.openDue_byLine _ i).toNoCall

/-- A round that was marked due is open on a section with an eligible post (R91). -/
theorem State.awoken_opens {n : Nat} (hdue : (s.sec i).roundDue = true) {a : Addr} (h1 : 1 ≤ a.val)
    (he : s.eligibleAddr i a = true) :
    ((s.awoken i n).sec i).round = some ⟨1, none, 0, 0, 0⟩ ∧ ((s.awoken i n).nextEligible i 1).isSome = true := by
  have hmark : ((((s.announced i n).settleIdle i).tellActive i).sec i).roundDue = true := by
    rw [State.sec_tellActive, (s.announced i n).sec_settleIdle i, s.sec_announced]
    exact hdue
  have helig : (((s.announced i n).settleIdle i).tellActive i).eligibleAddr i a = true := by
    have hline := ((s.announced i n).settleIdle i).tellActive_byLine i
    rw [State.eligibleAddr_congr hline.dir hline.rosters, State.settleIdle_eligible]
    exact he
  obtain ⟨hround, hdir, hrosters⟩ := State.openDue_opens hmark h1 helig
  exact ⟨hround, State.nextEligible_isSome h1 h1 ((State.eligibleAddr_congr hdir hrosters i a).trans helig)⟩

end wake

end Sys2Proof.Machine

open Sys2Proof Sys2Proof.Machine

/-- Settles O48: each phase of the wake sequence in turn; as ANNOUNCE ends the arbiter finds the line IDLE and the round open. -/
theorem wakeSequenceEndsInActive : Obligations.WakeSequenceEndsInActive := by
  intro s i x tm hx ht
  subst hx
  refine ⟨fun hp hs => congrArg Host.Outcome.next (State.powerUpEnds_eq hp ht hs), fun b rs hb hadm => ?_, fun hp => ?_⟩
  · subst hb
    rw [Burst.admits_fillerOnly, Bool.and_eq_true, List.all_eq_true] at hadm
    obtain ⟨hall, hne⟩ := hadm
    refine ⟨by simpa using hne, fun r hr => ?_, readBurst_of_isFiller (fun r hr => Filler.isFiller_of_admits (hall r hr))⟩
    have hf := hall r hr
    simp only [Filler.admits, LineRec.isFiller, Bool.and_eq_true, beq_iff_eq, decide_eq_true_eq] at hf
    obtain ⟨⟨⟨⟨hkind, hcrc⟩, hlen⟩, _⟩, haddr⟩ := hf
    exact ⟨hkind, by simpa using haddr, hlen, hcrc⟩
  · have hsec := s.awoken_sec i (tm.start + tm.dur)
    have hno := s.awoken_noCall i (tm.start + tm.dur)
    generalize hw : s.awoken i (tm.start + tm.dur) = w at hsec hno
    have hexec : exec (.announceEnd i) s = .next ((w.arbiter i).markDispatch.finish) := by
      rw [← hw]
      exact congrArg Host.Outcome.next (State.announceEnds_eq hp ht)
    have hworked := w.arbiter_worked i
    have htail := ((w.arbiter_byLine i).byCalls.trans (State.markDispatch_byCalls _ i)).trans (State.finish_byCalls _ i)
    have hall := hno.toOnSection.trans htail.toOnSection
    have hfin : ((w.arbiter i).markDispatch.finish).sec i = (w.arbiter i).sec i := State.finish_sec _ i
    refine ⟨_, hexec, ?_⟩
    rw [hfin]
    refine ⟨by rw [hworked]; exact hsec.active, by rw [hworked]; exact hsec.wakeTimer, by rw [hworked]; exact hsec.reasons,
      by rw [hworked]; exact hsec.roundDue, State.arbiter_up (by rw [hsec.line]; exact fun h => LineState.noConfusion h),
      by rw [hworked]; exact hsec.idleSince, fun hpend => ?_, fun v hv => ?_, fun hdue ⟨a, h1, he⟩ => ?_,
      fun hpair hslot hs q qs hq => ?_, hall.nowMs, hall.seconds, hall.mode, hall.globals,
      ⟨hall.rx, hall.buffer, hall.resetHeld, hall.poweringUp⟩, ⟨hall.reply, hall.headTaken⟩, hall.rosters, hall.unresolved,
      hall.others⟩
    · obtain ⟨bs, hbs⟩ := s.awoken_told i (tm.start + tm.dur) hpend
      obtain ⟨cs, hcs⟩ := htail.toInner.told'
      rw [hw] at hbs
      exact ⟨bs ++ cs, (hbs.trans hcs).tells⟩
    · rw [hworked]
      refine ⟨hsec.timing.trans ?_, hsec.pendingTiming⟩
      rw [hv]
    · obtain ⟨hround, hnext⟩ := State.awoken_opens (n := tm.start + tm.dur) hdue h1 he
      rw [hw] at hround hnext
      exact State.arbiter_keepsRound hround hnext
    · obtain ⟨hsend, hq', _⟩ := State.arbiter_sends hsec.line (hsec.pairFree.trans hpair)
        (State.measureRunnable_none (hsec.slot.trans hslot)) (hno.silent.trans hs) (hsec.queue.trans hq)
      exact ⟨hsend.line, hsend.inFlight, hq'⟩
end

section
/-! SUPPORT. The samples of a measurement and its result. -/

-- One theorem after another: elaborated side by side, they ask for more thread stacks than the check has memory for.
set_option Elab.async false

namespace Sys2Proof.Machine

/-! ## The nearest post and the bracket -/

theorem nearestOf_mem {d : Nat} {l : List PostEntry} {e : PostEntry} (h : nearestOf d l = some e) : e ∈ l := by
  induction l generalizing e with
  | nil => cases h
  | cons x xs ih =>
    unfold nearestOf at h
    split at h
    · next f hf =>
      split at h
      · obtain rfl := Option.some.inj h
        exact List.mem_cons_of_mem x (ih hf)
      · obtain rfl := Option.some.inj h
        exact List.mem_cons_self
    · obtain rfl := Option.some.inj h
      exact List.mem_cons_self

/-- The nearest post is the first of those closest (R32). -/
theorem nearestOf_eq {d : Nat} {ps qs : List PostEntry} {e : PostEntry} (hps : ∀ f ∈ ps, apart e.offset d < apart f.offset d)
    (hqs : ∀ f ∈ qs, apart e.offset d ≤ apart f.offset d) : nearestOf d (ps ++ e :: qs) = some e := by
  induction ps with
  | nil =>
    rw [List.nil_append, nearestOf]
    split
    · next f hf => exact if_neg (Nat.not_lt.2 (hqs f (nearestOf_mem hf)))
    · rfl
  | cons p ps ih =>
    rw [List.cons_append, nearestOf, ih (fun f hf => hps f (List.mem_cons_of_mem p hf))]
    exact if_pos (hps p List.mem_cons_self)

/-- A list sorted by offset splits at any distance. -/
theorem split_at_offset (d : Nat) {l : List PostEntry}
    (h : l.Pairwise (fun a b => a.offset < b.offset ∨ (a.offset = b.offset ∧ a.addr ≤ b.addr))) :
    l = l.filter (fun e => decide (e.offset ≤ d)) ++ l.filter (fun e => decide (d < e.offset)) := by
  induction l with
  | nil => rfl
  | cons x xs ih =>
    obtain ⟨hx, hxs⟩ := List.pairwise_cons.1 h
    by_cases hle : x.offset ≤ d
    · rw [List.filter_cons_of_pos (by simpa using hle), List.filter_cons_of_neg (by simpa using hle), List.cons_append, ← ih hxs]
    · have hall : ∀ y ∈ x :: xs, d < y.offset := by
        intro y hy
        obtain rfl | hy := List.mem_cons.1 hy
        · omega
        · have := hx y hy
          omega
      rw [List.filter_eq_nil_iff.2 (fun y hy => by simpa using hall y hy),
        List.filter_eq_self.2 (fun y hy => by simpa using hall y hy), List.nil_append]

theorem bracketOf_eq (l : List PostEntry) (d : Nat) :
    bracketOf l d =
      ((match (l.filter (fun e => decide (e.offset ≤ d))).getLast? with | some e => .post e.post | none => .cabinet),
       (match (l.filter (fun e => decide (d < e.offset))).head? with | some e => .post e.post | none => .sectionEnd)) := by
  unfold bracketOf
  rw [List.head?_filter] <;> rfl

/-! ## The trimmed samples -/

/-- Four samples of which one at most is saturated, in order, without the lowest and the highest (R28). -/
theorem trim_spec {l : List Nat} (hlen : l.length = 4) (hsat : saturatedCount l < 2) :
    ∃ w a b z, l.Perm [w, a, b, z] ∧ w ≤ a ∧ a ≤ b ∧ b ≤ z ∧ trim l = some (a, b) := by
  have hperm := sortBy_perm (fun a b : Nat => decide (a ≤ b)) l
  have hsorted : (sortBy (fun a b : Nat => decide (a ≤ b)) l).Pairwise (· ≤ ·) :=
    sortBy_pairwise (R := fun a b : Nat => a ≤ b) (fun _ _ h => of_decide_eq_true h)
      (fun _ _ h => Nat.le_of_not_le (of_decide_eq_false h)) (fun _ _ _ => Nat.le_trans) l
  have hlen' := hperm.length_eq.trans hlen
  unfold trim
  rw [if_neg (Nat.not_le.2 hsat)]
  generalize sortBy (fun a b : Nat => decide (a ≤ b)) l = m at *
  match m, hlen', hsorted, hperm with
  | [w, a, b, z], _, hsorted, hperm =>
    simp only [List.pairwise_cons, List.mem_cons, List.not_mem_nil, or_false, forall_eq_or_imp, forall_eq] at hsorted
    exact ⟨w, a, b, z, hperm.symm, hsorted.1.1, hsorted.2.1.1, hsorted.2.2.1, rfl⟩

theorem trim_saturated {l : List Nat} (hsat : 2 ≤ saturatedCount l) : trim l = none := if_pos hsat

/-! ## The result -/

theorem SectionDef.result_clear (d : SectionDef) (i : SectionId) (posts : List PostEntry) (time : Nat) (g : Trigger) {l : List Nat}
    (h : trim l = none) : d.result i posts time g l =
      ⟨i, time, g, l, .clear, none, none, false, false, none, false, none, none⟩ := by
  unfold SectionDef.result
  rw [h]

theorem SectionDef.result_short (d : SectionDef) (i : SectionId) (posts : List PostEntry) (time : Nat) (g : Trigger) {l : List Nat}
    {a b : Nat} (h : trim l = some (a, b)) : d.result i posts time g l =
      ⟨i, time, g, l, .short, some (roundDiv (a + b) 2), some (d.distance (roundDiv (a + b) 2)).1,
        (d.distance (roundDiv (a + b) 2)).2, unsteady a b, some (d.chainage (d.distance (roundDiv (a + b) 2)).1).1,
        (d.chainage (d.distance (roundDiv (a + b) 2)).1).2,
        (nearestOf (d.distance (roundDiv (a + b) 2)).1 (byOffset posts)).map PostEntry.post,
        some (bracketOf (byOffset posts) (d.distance (roundDiv (a + b) 2)).1)⟩ := by
  unfold SectionDef.result
  rw [h]

/-! ## A sample is taken -/

section sample
variable {s : State} {i : SectionId} {r : Running}

theorem State.takeSample_stores (hr : (s.ltuOf i).running = some r) (hl : (s.sec i).line = .testing) (hlen : r.samples.length < 3)
    (v : Nat) : ∃ n, s.takeSample i v =
      (s.reach n).setLtu i ⟨some { r with samples := r.samples ++ [min 60000 v] }, (s.ltuOf i).last⟩ := by
  refine ⟨r.startMs + Config.sampleMs * (r.samples.length + 1), ?_⟩
  rw [State.takeSample, hr, hl]
  exact if_neg (by simp; omega)

theorem State.takeSample_completes (hr : (s.ltuOf i).running = some r) (hl : (s.sec i).line = .testing)
    (hlen : r.samples.length = 3) (v : Nat) :
    ∃ n, s.takeSample i v = (s.reach n).completeMeasure i r (r.samples ++ [min 60000 v]) := by
  refine ⟨r.startMs + Config.sampleMs * (r.samples.length + 1), ?_⟩
  rw [State.takeSample, hr, hl]
  exact if_pos (by simp [hlen])

/-- What the completion of a measurement leaves (R122). -/
theorem State.completeMeasure_spec (s : State) (i : SectionId) (r : Running) (l : List Nat) {d : SectionDef}
    (hd : (s.sec i).defn = some d) (m : MeasResult) (hm : m = d.result i (s.postsOn i) s.seconds r.trigger l) :
    (s.completeMeasure i r l).ltuOf i = ⟨none, some m⟩ ∧ ((s.completeMeasure i r l).sec i).line = .unknown ∧
    s.Told (s.completeMeasure i r l) [m.event] ∧ s.ByLine i (s.completeMeasure i r l) := by
  have hdef : (s.sec i).defnD = d := by simp [SectionCtl.defnD, hd]
  unfold State.completeMeasure
  rw [hdef, ← hm]
  refine ⟨by simp, by rw [State.sec_modLine_self]; rfl, ?_,
    ((s.setLtu_byLine i _).trans (State.post_byLine _ i _)).trans (State.modLine_byLine _ i _)⟩
  exact (State.Told.afterQuiet (.quiet (t := s.setLtu i _)) (State.post_told _ _)).thenQuiet .quiet

end sample

end Sys2Proof.Machine

open Sys2Proof Sys2Proof.Machine

/-- Settles O58: the fourth sample completes the measurement, and the result is read off the trimmed samples and the posts. -/
theorem samplesMakeAMeasurement : Obligations.SamplesMakeAMeasurement := by
  intro s i x r v hx hr hl
  subst hx
  refine ⟨fun hlen => ?_, fun d hlen hd => ?_⟩
  · obtain ⟨n, hn⟩ := State.takeSample_stores hr hl hlen v
    exact ⟨_, congrArg Host.Outcome.next hn, by simp, by simp [State.testSource], rfl, rfl,
      fun j hj => (((s.reach n).setLtu_byLine i _).others j hj).2⟩
  · obtain ⟨n, hn⟩ := State.takeSample_completes hr hl hlen v
    have hexec : exec (.sampleTaken i v) s = .next ((s.reach n).completeMeasure i r (r.samples ++ [min 60000 v])) :=
      congrArg Host.Outcome.next hn
    have hlen4 : (r.samples ++ [min 60000 v]).length = 4 := by simp [hlen]
    generalize r.samples ++ [min 60000 v] = samples at *
    obtain ⟨hltu, hline, htold, hby⟩ := (s.reach n).completeMeasure_spec i r samples hd _ rfl
    have hposts : (s.reach n).postsOn i = s.postsOn i := rfl
    rw [hposts, State.reach_seconds] at hltu htold
    have hin : s.PostsInOrder i (fun _ => True) (byOffset (s.postsOn i)) := by
      have h := s.postsInOrder_byOffset i (fun _ => true)
      rw [List.filter_eq_self.2 (fun _ _ => rfl)] at h
      simpa using h
    have htells : ∀ bs, (s.reach n).Told ((s.reach n).completeMeasure i r samples) bs →
        s.Tells ((s.reach n).completeMeasure i r samples) bs := fun bs h => (State.Told.afterQuiet .quiet h).tells
    have hframe : s.SameLink ((s.reach n).completeMeasure i r samples) ∧ s.SameReply ((s.reach n).completeMeasure i r samples) ∧
        s.SameDirectory ((s.reach n).completeMeasure i r samples) ∧ s.SameCalls ((s.reach n).completeMeasure i r samples) ∧
        s.SameOtherSections i ((s.reach n).completeMeasure i r samples) :=
      ⟨⟨hby.rx, hby.buffer, hby.resetHeld, hby.poweringUp⟩, ⟨hby.reply, hby.headTaken⟩, ⟨hby.dir, hby.rosters, hby.unresolved⟩,
        hby.calls, hby.others⟩
    have hsource : ((s.reach n).completeMeasure i r samples).testSource i = false := by
      rw [State.testSource, hltu]
      rfl
    by_cases hsat : 2 ≤ saturatedCount samples
    · have hresult := d.result_clear i (s.postsOn i) s.seconds r.trigger (trim_saturated hsat)
      rw [hresult] at hltu htold
      exact ⟨_, _, _, hexec, hltu, rfl, rfl, rfl, rfl, hin,
        fun _ => ⟨rfl, rfl, rfl, rfl, rfl, rfl, htells _ htold⟩, fun hlt => absurd hsat (Nat.not_le.2 hlt), hsource, hline, hframe⟩
    · obtain ⟨w, a, b, z, hperm, hwa, hab, hbz, htrim⟩ := trim_spec hlen4 (Nat.lt_of_not_le hsat)
      have hresult := d.result_short i (s.postsOn i) s.seconds r.trigger htrim
      rw [hresult] at hltu htold
      refine ⟨_, _, _, hexec, hltu, rfl, rfl, rfl, rfl, hin, fun hge => absurd hge hsat, fun _ => ⟨rfl, ?_⟩, hsource, hline, hframe⟩
      refine ⟨w, a, b, z, roundDiv (a + b) 2, (d.distance (roundDiv (a + b) 2)).1, _, _, _, hperm, hwa, hab, hbz, rfl, rfl, rfl, rfl,
        d.distance_le _, rfl, rfl, d.chainage_le _, rfl, fun hnil => ?_, fun ps e qs hsplit hps hqs => ?_, rfl,
        ⟨_, _, split_at_offset (d.distance (roundDiv (a + b) 2)).1 (byOffset_pairwise _), fun e he => ?_, fun e he => ?_, ?_, ?_⟩, ?_⟩
      · dsimp only
        rw [hnil]
        rfl
      · dsimp only
        rw [hsplit, nearestOf_eq hps hqs]
        rfl
      · simpa using (List.mem_filter.1 he).2
      · simpa using (List.mem_filter.1 he).2
      · exact congrArg Prod.fst (bracketOf_eq _ _)
      · exact congrArg Prod.snd (bracketOf_eq _ _)
      · exact htells _ htold
end

section
/-! SUPPORT. A break under a transaction that is held after a yield, outside ACTIVE. -/

-- One theorem after another: elaborated side by side, they ask for more thread stacks than the check has memory for.
set_option Elab.async false

namespace Sys2Proof.Machine

/-- Section 5 in SETTLING with its line in FOREIGN and a RING of call 7 held at its third loss: no law of the part allows it, and the
statement asks for none. -/
def settlingForeign : SectionCtl :=
  { Sys2Proof.Tests.on with power := .settling .settle, line := .foreign, breakTimer := some ⟨98500, 2000⟩,
                            inFlight := some ⟨.ring, 4, .call 7, 0, 2, 0, false⟩ }

/-- The part with that section, and call 7 RINGING. -/
def breaksWhileSettling : State := Sys2Proof.Tests.calling settlingForeign .ringing

/-- The RING fails, its call ends, and the call's RING STOP returns the section to ACTIVE, where it is sent at once: something is in
flight as the line enters the break. -/
theorem breakTime_leaves_flight : ((breaksWhileSettling.breakTime 5).sec 5).inFlight.isSome = true := by decide +kernel

end Sys2Proof.Machine

open Sys2Proof Sys2Proof.Machine

/-- Refutes O56: without the power law a section in SETTLING may have its line in FOREIGN, and the RING STOP of the call that a third
loss ends is in flight after the break time, where the statement has nothing in flight. -/
theorem not_spaceBreaksTheLine : ¬ Obligations.SpaceBreaksTheLine := by
  intro h
  obtain ⟨_, _, _, _, _, hyield, _⟩ := h breaksWhileSettling 5 _ rfl
  obtain ⟨t, hexec, hflight, _⟩ := (hyield ⟨98500, 2000⟩ ⟨.ring, 4, .call 7, 0, 2, 0, false⟩ (by decide +kernel) (by decide +kernel)
    (by decide +kernel)).2 (by decide)
  obtain rfl : breaksWhileSettling.breakTime 5 = t := Host.Outcome.next.inj hexec
  have hsome := breakTime_leaves_flight
  rw [hflight] at hsome
  cases hsome
end

section
/-! SUPPORT. What the dispatcher's acts do to a call, a channel, a path and a join. -/

-- One theorem after another: elaborated side by side, they ask for more thread stacks than the check has memory for.
set_option Elab.async false

namespace Sys2Proof.Machine

/-! ## Calls found -/

theorem State.findCall_congr {s t : State} (h : t.calls = s.calls) (q : Nat) : t.findCall q = s.findCall q := by
  unfold State.findCall
  rw [h]

theorem State.findCall_isSome (s : State) (q : Nat) : (s.findCall q).isSome = s.calls.any (fun c => c.ref == q) := by
  unfold State.findCall
  rw [Bool.eq_iff_iff, List.find?_isSome, List.any_eq_true]

theorem State.RefLaw.ofRefs {s t : State} (h : s.RefLaw) (hc : t.calls.map Call.ref = s.calls.map Call.ref)
    (hn : t.nextRef = s.nextRef) : t.RefLaw := by
  obtain ⟨hpair, h1, h2, hrange⟩ := h
  refine ⟨?_, hn ▸ h1, hn ▸ h2, fun c hm => ?_⟩
  · have hp : (t.calls.map Call.ref).Pairwise (· ≠ ·) := by
      rw [hc, List.pairwise_map]
      exact hpair
    exact List.pairwise_map.1 hp
  · have hr : c.ref ∈ s.calls.map Call.ref := hc ▸ List.mem_map_of_mem hm
    obtain ⟨d, hd, he⟩ := List.mem_map.1 hr
    exact he ▸ hrange d hd

theorem State.modCall_refs (s : State) (r : Nat) (f : Call → Call) (hf : ∀ c, (f c).ref = c.ref) :
    (s.modCall r f).calls.map Call.ref = s.calls.map Call.ref := by
  rw [State.modCall_calls, List.map_map]
  refine List.map_congr_left (fun c _ => ?_)
  simp only [Function.comp]
  split
  · exact hf c
  · rfl

theorem State.RefLaw.modCall' {s : State} (h : s.RefLaw) (r : Nat) {f : Call → Call} (hf : ∀ c, (f c).ref = c.ref) :
    (s.modCall r f).RefLaw :=
  h.ofRefs (s.modCall_refs r f hf) (State.modCall_nextRef _ _ _)

theorem State.RefLaw.same {s t : State} (h : s.RefLaw) (hs : s.SameCalls t) : t.RefLaw :=
  h.ofRefs (by rw [hs.1]) hs.2.2.1

/-! ## An offer -/

section offer
variable (s : State) (c : Call) (ch : ChanId)

theorem State.offer_refs : (s.offer c ch).calls.map Call.ref = s.calls.map Call.ref := by
  rw [← s.modCall_refs c.ref (fun x =>
    { x with state := .offered, channel := some ch, offerTimer := some ⟨s.nowMs, 1000 * s.globals.offerTimeout⟩ }) (fun _ => rfl)]
  simp [State.offer]

theorem State.offer_chan (d : ChanId) :
    (s.offer c ch).chan d = if d = ch then ⟨.offering, (s.chan ch).ready, some c.ref⟩ else s.chan d := by
  by_cases h : d = ch
  · subst h
    simp [State.offer]
  · have h' : ch ≠ d := Ne.symm h
    simp [State.offer, h, h']

theorem State.offer_path (j : SectionId) :
    (s.offer c ch).holder j = (if j = c.sec then some c.ref else s.holder j) ∧
    (s.offer c ch).join j = (if j = c.sec then .nothing else s.join j) := by
  by_cases h : j = c.sec
  · subst h
    simp [State.offer]
  · have h' : c.sec ≠ j := Ne.symm h
    simp [State.offer, h, h']

end offer

/-! ## The dispatcher's acts -/

/-- What the dispatcher's acts leave of calls, channels, paths and joins (R162, R163): a call is as it was, or was QUEUED and has been
offered; only a FREE channel and the path of an eligible call are taken. -/
structure State.Dispatched (s t : State) : Prop where
  refs : t.RefLaw
  call : ∀ q, t.findCall q = s.findCall q ∨ ∃ c ch tm, s.findCall q = some c ∧ c.state = .queued ∧
    t.findCall q = some { c with state := .offered, channel := some ch, offerTimer := some tm }
  chan : ∀ d, (s.chan d).state ≠ .free → t.chan d = s.chan d
  holder : ∀ i r, s.holder i = some r → t.holder i = some r
  path : ∀ i, (∀ c ∈ s.calls, c.sec = i → s.eligible c = false) →
    t.holder i = s.holder i ∧ t.join i = s.join i ∧ ∀ c ∈ t.calls, c.sec = i → t.eligible c = false

theorem State.Dispatched.refl {s : State} (h : s.RefLaw) : s.Dispatched s :=
  ⟨h, fun _ => Or.inl rfl, fun _ _ => rfl, fun _ _ => id, fun _ hi => ⟨rfl, rfl, hi⟩⟩

theorem State.Dispatched.trans {s t u : State} (h1 : s.Dispatched t) (h2 : t.Dispatched u) : s.Dispatched u := by
  refine ⟨h2.refs, fun q => ?_, fun d hd => ?_, fun i r hr => h2.holder i r (h1.holder i r hr), fun i hi => ?_⟩
  · obtain he1 | ⟨c, ch, tm, hc, hst, ht⟩ := h1.call q
    · rw [← he1]
      exact h2.call q
    · obtain he2 | ⟨c', _, _, hc', hst', _⟩ := h2.call q
      · exact Or.inr ⟨c, ch, tm, hc, hst, he2.trans ht⟩
      · rw [ht] at hc'
        obtain rfl := Option.some.inj hc'
        cases hst'
  · have hk := h1.chan d hd
    rw [h2.chan d (by rwa [hk]), hk]
  · obtain ⟨ha, hb, hc⟩ := h1.path i hi
    obtain ⟨ha', hb', hc'⟩ := h2.path i hc
    exact ⟨ha'.trans ha, hb'.trans hb, hc'⟩

theorem State.eligible_iff (s : State) (c : Call) : s.eligible c = true ↔
    c.state = .queued ∧ (s.holder c.sec = none ∨ s.holder c.sec = some c.ref) ∧ (s.sec c.sec).power = .active := by
  simp [State.eligible, and_assoc]

/-- One offer, of an eligible call on a FREE channel. -/
theorem State.offer_dispatched {s : State} (h : s.RefLaw) {c : Call} {ch : ChanId} (hc : c ∈ s.calls) (he : s.eligible c = true)
    (hch : (s.chan ch).state = .free) : s.Dispatched (s.offer c ch) := by
  obtain ⟨hst, hpath, hact⟩ := (s.eligible_iff c).1 he
  have hsec : ∀ i, (s.offer c ch).sec i = s.sec i := fun i => by rw [State.sec, (s.offer_offers c ch).secs]; rfl
  refine ⟨h.ofRefs (s.offer_refs c ch) (s.offer_offers c ch).nextRef, fun q => ?_, fun d hd => ?_, fun i r hr => ?_, fun i hi => ?_⟩
  · rw [State.findCall_offer]
    by_cases hq : q = c.ref
    · subst hq
      rw [if_pos rfl, h.findCall hc]
      exact Or.inr ⟨c, ch, _, rfl, hst, rfl⟩
    · exact Or.inl (if_neg hq)
  · rw [State.offer_chan, if_neg]
    rintro rfl
    exact hd hch
  · rw [(s.offer_path c ch i).1]
    split
    · next hi =>
      subst hi
      rw [hr] at hpath
      simpa [eq_comm] using hpath
    · exact hr
  · have hne : i ≠ c.sec := by
      rintro rfl
      rw [hi c hc rfl] at he
      cases he
    obtain ⟨hh, hj⟩ := s.offer_path c ch i
    rw [if_neg hne] at hh hj
    refine ⟨hh, hj, fun d hd hds => ?_⟩
    subst hds
    have hd' : (s.offer c ch).calls = s.calls.map (fun x => if x.ref == c.ref then
        { x with state := .offered, channel := some ch, offerTimer := some ⟨s.nowMs, 1000 * s.globals.offerTimeout⟩ } else x) := by
      simp [State.offer]
    rw [hd', List.mem_map] at hd
    obtain ⟨x, hx, rfl⟩ := hd
    split
    · simp [State.eligible]
    · next hr =>
      rw [if_neg hr] at hh
      have := hi x hx (by rw [if_neg hr])
      unfold State.eligible at this ⊢
      rw [hh, hsec]
      exact this

theorem State.dispatch_dispatched (n : Nat) {s : State} (h : s.RefLaw) : s.Dispatched (State.dispatch n s) := by
  induction n generalizing s with
  | zero => exact .refl h
  | succ n ih =>
    unfold State.dispatch
    split
    · next ch c hch hc =>
      obtain ⟨hm, he⟩ := State.bestCall_mem hc
      have h1 := State.offer_dispatched h hm he (State.freeChannel_free hch)
      exact h1.trans (ih h1.refs)
    · exact .refl h

theorem State.finish_dispatched {s : State} (h : s.RefLaw) : s.Dispatched s.finish := by
  unfold State.finish
  split
  · split
    · have := State.dispatch_dispatched 4 (s := { s with dispatchDue := false }) h
      exact ⟨this.refs, this.call, this.chan, this.holder, this.path⟩
    · have := State.Dispatched.refl (s := { s with dispatchDue := false }) h
      exact ⟨this.refs, this.call, this.chan, this.holder, this.path⟩
  · exact .refl h

theorem State.Dispatched.keeps {s t : State} (h : s.Dispatched t) {q : Nat} {c : Call} (hc : s.findCall q = some c)
    (hst : c.state ≠ .queued) : t.findCall q = some c := by
  obtain he | ⟨d, _, _, hd, hq, _⟩ := h.call q
  · rw [he, hc]
  · rw [hc] at hd
    obtain rfl := Option.some.inj hd
    exact absurd hq hst

/-! ## The end of an operation, whatever the references -/

theorem State.dispatch_refs (n : Nat) (s : State) : (State.dispatch n s).calls.map Call.ref = s.calls.map Call.ref := by
  induction n generalizing s with
  | zero => rfl
  | succ n ih =>
    unfold State.dispatch
    split
    · rw [ih, State.offer_refs]
    · rfl

theorem State.finish_refs (s : State) : s.finish.calls.map Call.ref = s.calls.map Call.ref := by
  unfold State.finish
  split
  · split
    · exact State.dispatch_refs 4 _
    · rfl
  · rfl

theorem any_ref_of_map {l m : List Call} (h : l.map Call.ref = m.map Call.ref) (q : Nat) :
    l.any (fun c => c.ref == q) = m.any (fun c => c.ref == q) := by
  have : ∀ k : List Call, k.any (fun c => c.ref == q) = (k.map Call.ref).any (fun r => r == q) := fun k => by
    rw [List.any_map]
    rfl
  rw [this, this, h]

theorem State.finish_isSome (s : State) (q : Nat) : (s.finish.findCall q).isSome = (s.findCall q).isSome := by
  rw [State.findCall_isSome, State.findCall_isSome, any_ref_of_map s.finish_refs]

/-- No call joins the table at the end of an operation. -/
theorem State.finish_none {s : State} {q : Nat} (h : s.findCall q = none) : s.finish.findCall q = none := by
  have := s.finish_isSome q
  rw [h] at this
  simpa using this

theorem State.finish_inner (s : State) : s.Inner s.finish := (s.finish_byCalls 0).toInner

/-- With auto-offer off the end of an operation leaves all that the call manager holds. -/
theorem State.finish_calls {s : State} (h : s.globals.autoOffer = false) : s.SameCalls s.finish := by
  rw [State.finish_off h]
  exact ⟨rfl, rfl, rfl, rfl, rfl, rfl, rfl⟩

end Sys2Proof.Machine
end

section
/-! SUPPORT. A call's end: the table, the channel and the path it leaves, what is told, and its closing notice. -/

-- One theorem after another: elaborated side by side, they ask for more thread stacks than the check has memory for.
set_option Elab.async false

namespace Sys2Proof.Machine

/-! ## Nothing told -/

/-- A section whose arbiter has no round to come to: something waits in its queue, or its line is not IDLE. -/
def SectionCtl.Working (x : SectionCtl) : Prop := x.queue ≠ [] ∨ x.line ≠ .idle

theorem State.startMeasure_quietly (s : State) (i : SectionId) : s.Told (s.startMeasure i) [] := by
  unfold State.startMeasure
  split <;> exact .quiet

theorem State.startMeasure_working {s : State} {i : SectionId} (h : (s.sec i).Working) : ((s.startMeasure i).sec i).Working := by
  cases hg : (s.sec i).slot with
  | some g => exact Or.inr (by simp [(State.startMeasure_spec hg).1])
  | none =>
    rw [State.startMeasure, hg]
    exact h

/-- Only a round that it closes makes the arbiter tell something (R73, R105). -/
theorem State.arbiter_working {s : State} {i : SectionId} (h : (s.sec i).Working) :
    s.Told (s.arbiter i) [] ∧ ((s.arbiter i).sec i).Working := by
  unfold State.arbiter
  split
  · next hl =>
    split
    · exact ⟨.quiet, h⟩
    · split
      · exact ⟨s.startMeasure_quietly i, State.startMeasure_working h⟩
      · split
        · exact ⟨.quiet, h⟩
        · split
          · exact ⟨.quiet, Or.inr (by simp [State.sendAttempt_line])⟩
          · next hq => exact absurd h (by simp [SectionCtl.Working, hl, hq])
  · split
    · exact ⟨s.startMeasure_quietly i, State.startMeasure_working h⟩
    · exact ⟨.quiet, h⟩
  all_goals exact ⟨.quiet, h⟩

theorem joinNotice_ne_nil (t : Txn) (q : List Txn) : joinNotice t q ≠ [] := by
  unfold joinNotice
  split
  · next h =>
    rw [Ne, List.map_eq_nil_iff]
    rintro rfl
    simp at h
  · simp

theorem State.arrive_quietly (s : State) (i : SectionId) (w : WakeReason) : s.Told (s.arrive i w) [] := by
  unfold State.arrive
  split <;> exact .quiet

/-- A call notice tells nothing. -/
theorem State.offerNotice_told (s : State) (i : SectionId) (a : Addr) (k : TxnKind) (r : Nat) :
    s.Told (s.offerNotice i a k r) [] ∧ ((s.sec i).power ≠ .off → ((s.offerNotice i a k r).sec i).Working) := by
  by_cases hoff : (s.sec i).power = .off
  · rw [State.offerNotice_off hoff]
    exact ⟨.refl s, fun h => absurd hoff h⟩
  · rw [State.offerNotice_eq hoff, State.enqueue]
    have hq : (((s.arrive i .call).modQueue i (joinNotice (.fresh k a (.call r)))).sec i).Working :=
      Or.inl (by rw [State.modQueue_eq, State.sec_setSec_self]; exact joinNotice_ne_nil _ _)
    have htold : s.Told ((s.arrive i .call).modQueue i (joinNotice (.fresh k a (.call r)))) [] :=
      (s.arrive_quietly i .call).thenQuiet .quiet
    unfold State.workArrived
    split
    · obtain ⟨h1, h2⟩ := State.arbiter_working hq
      exact ⟨htold.thenQuiet h1, fun _ => h2⟩
    · exact ⟨htold, fun _ => hq⟩

/-! ## What the call leaves -/

theorem State.retireCall_told (s : State) (c : Call) (e : EndCause) : s.Told (s.retireCall c e) [c.endTold e s.seconds] :=
  ⟨(s.retireCall_byCalls 0 c e).silent, (s.retireCall_byCalls 0 c e).seconds, State.post_events_congr _ rfl rfl rfl⟩

theorem State.retireCall_sec (s : State) (c : Call) (e : EndCause) (i : SectionId) : (s.retireCall c e).sec i = s.sec i := by
  rw [State.sec, s.retireCall_secs]
  rfl

theorem State.releaseHeld_quietly (s : State) (c : Call) : s.Told (s.releaseHeld c) [] ∧ (s.releaseHeld c).secs = s.secs := by
  have h1 : s.Told (s.releaseChannel c.channel) [] ∧ (s.releaseChannel c.channel).secs = s.secs := by
    unfold State.releaseChannel
    split
    · split <;> exact ⟨.quiet, rfl⟩
    · exact ⟨.quiet, rfl⟩
  have h2 : ∀ u : State, u.Told (u.dropPath c.sec c.ref) [] ∧ (u.dropPath c.sec c.ref).secs = u.secs := fun u => by
    unfold State.dropPath
    split <;> exact ⟨.quiet, rfl⟩
  exact ⟨h1.1.thenQuiet (h2 _).1, (h2 _).2.trans h1.2⟩

/-- What the end of the call `c` leaves (R145, R150, R157, R159): the table without it, its history record first, the full episode over,
and its channel and its path free. -/
structure State.Ends (s t : State) (c : Call) (e : EndCause) : Prop where
  calls : t.calls = s.calls.filter (fun x => x.ref != c.ref)
  history : t.history = (c.histRec e s.seconds :: s.history).take Config.historyDepth
  next : t.nextRef = s.nextRef
  full : t.fullEpisode = false
  chan : ∀ d, t.chan d = if c.channel = some d then (s.chan d).released else s.chan d
  holder : ∀ j, t.holder j = if j = c.sec ∧ s.holder c.sec = some c.ref then none else s.holder j
  join : ∀ j, t.join j = if j = c.sec ∧ s.holder c.sec = some c.ref then .nothing else s.join j

theorem State.Ends.same {s t u : State} {c : Call} {e : EndCause} (h : s.Ends t c e) (hs : t.SameCalls u) : s.Ends u c e :=
  ⟨hs.1.trans h.calls, hs.2.1.trans h.history, hs.2.2.1.trans h.next, hs.2.2.2.1.trans h.full, fun d => (hs.chan d).trans (h.chan d),
    fun j => (hs.holder j).trans (h.holder j), fun j => (hs.join j).trans (h.join j)⟩

theorem State.Ends.findCall {s t : State} {c : Call} {e : EndCause} (h : s.Ends t c e) (q : Nat) :
    t.findCall q = if q = c.ref then none else s.findCall q := by
  unfold State.findCall
  rw [h.calls, List.find?_filter]
  split
  · next hq =>
    rw [List.find?_eq_none]
    intro x _
    simp [hq]
  · next hq =>
    congr 1
    funext x
    by_cases hx : x.ref = q
    · simp [hx, hq]
    · simp [hx]

theorem State.releaseHeld_ends {s u : State} {c : Call} {e : EndCause} (h : (s.retireCall c e).SameCalls u) :
    s.Ends (u.releaseHeld c) c e := by
  obtain ⟨hcalls, hhist, hnext, hchan, hpath⟩ := s.calls_retireCall c e
  obtain ⟨hrc, hrh, hrn, hrf⟩ := u.calls_releaseChannel c.channel
  obtain ⟨hdc, hdh, hdn, hdf, hdch⟩ := (u.releaseChannel c.channel).calls_dropPath c.sec c.ref
  have hfull : (s.retireCall c e).fullEpisode = false := rfl
  refine ⟨hdc.trans (hrc.trans (h.1.trans hcalls)), hdh.trans (hrh.trans (h.2.1.trans hhist)), hdn.trans (hrn.trans (h.2.2.1.trans hnext)),
    hdf.trans (hrf.trans (h.2.2.2.1.trans hfull)), fun d => ?_, fun j => ?_, fun j => ?_⟩
  · rw [State.releaseHeld, hdch, State.chan_releaseChannel, h.chan, hchan]
  · rw [State.releaseHeld, (State.holder_dropPath _ c.sec j c.ref).1]
    simp only [State.holder_releaseChannel, h.holder, hpath]
  · rw [State.releaseHeld, (State.holder_dropPath _ c.sec j c.ref).2]
    simp only [State.holder_releaseChannel, h.holder, h.join, hpath]

theorem State.endCall_ends (s : State) (c : Call) (e : EndCause) : s.Ends (s.endCall c e) c e := by
  have h := State.releaseHeld_ends (State.offerNotice_calls (s.retireCall c e) c.sec c.addr c.closing c.ref)
  unfold State.endCall State.freeHeld
  split
  · exact h.same (State.arbiter_byLine _ c.sec).calls
  · exact h

theorem State.endCallQuietly_ends (s : State) (c : Call) (e : EndCause) : s.Ends (s.endCallQuietly c e) c e :=
  State.releaseHeld_ends (State.offerQuietNotice_byLine (s.retireCall c e) c.sec c.addr c.closing c.ref).calls

/-! ## What the end of a call tells, and its section -/

theorem State.releaseHeld_sec (s : State) (c : Call) (i : SectionId) : (s.releaseHeld c).sec i = s.sec i := by
  rw [State.sec, (s.releaseHeld_quietly c).2]
  rfl

/-- The end of a call tells CALL_ENDED and nothing else (R145), where no line of an OFF section is up. -/
theorem State.endCall_told (s : State) (c : Call) (e : EndCause) (hoff : (s.sec c.sec).power = .off → (s.sec c.sec).line ≠ .idle) :
    s.Told (s.endCall c e) [c.endTold e s.seconds] := by
  obtain ⟨hq, hw⟩ := (s.retireCall c e).offerNotice_told c.sec c.addr c.closing c.ref
  have hwork : (((s.retireCall c e).offerNotice c.sec c.addr c.closing c.ref).sec c.sec).Working := by
    by_cases ho : (s.sec c.sec).power = .off
    · rw [State.offerNotice_off (by rwa [State.retireCall_sec]), State.retireCall_sec]
      exact Or.inr (hoff ho)
    · exact hw (by rwa [State.retireCall_sec])
  have htold := (s.retireCall_told c e).thenQuiet hq
  unfold State.endCall State.freeHeld
  split
  · refine (htold.thenQuiet (State.releaseHeld_quietly _ c).1).thenQuiet (State.arbiter_working ?_).1
    rwa [State.releaseHeld_sec]
  · exact htold.thenQuiet (State.releaseHeld_quietly _ c).1

/-- CALL_ENDED is told first in any case. -/
theorem State.endCall_toldFirst (s : State) (c : Call) (e : EndCause) :
    ∃ bs, s.Told (s.endCall c e) (c.endTold e s.seconds :: bs) := by
  have hin : (s.retireCall c e).Inner (s.endCall c e) :=
    (State.offerNotice_byCalls _ c.sec _ _ _).toInner.trans (State.freeHeld_byCalls _ c).toInner
  obtain ⟨bs, hbs⟩ := hin.told'
  exact ⟨bs, (s.retireCall_told c e).trans hbs⟩

/-- On an ACTIVE section whose line is neither IDLE nor in a break the closing notice joins the queue, and nothing else happens there. -/
theorem State.endCall_secs {s : State} {c : Call} (e : EndCause) (ha : (s.sec c.sec).power = .active) (hl : (s.sec c.sec).line ≠ .idle)
    (hb : (s.sec c.sec).line ≠ .brk) :
    (s.endCall c e).secs = (s.modQueue c.sec (joinNotice ⟨c.closing, c.addr, .call c.ref, 0, 0, 0, false⟩)).secs := by
  have hoffer : (s.retireCall c e).offerNotice c.sec c.addr c.closing c.ref =
      (s.retireCall c e).modQueue c.sec (joinNotice ⟨c.closing, c.addr, .call c.ref, 0, 0, 0, false⟩) :=
    State.offerNotice_active (by rwa [State.retireCall_sec]) (Or.inl (by rwa [State.retireCall_sec])) _ _ _
  have hsecs : ((s.retireCall c e).modQueue c.sec (joinNotice ⟨c.closing, c.addr, .call c.ref, 0, 0, 0, false⟩)).secs =
      (s.modQueue c.sec (joinNotice ⟨c.closing, c.addr, .call c.ref, 0, 0, 0, false⟩)).secs := by
    rw [State.modQueue_eq, State.modQueue_eq, State.retireCall_sec, State.setSec, State.setSec]
    dsimp only
    rw [State.retireCall_secs]
  have hheld := ((s.retireCall c e).modQueue c.sec (joinNotice ⟨c.closing, c.addr, .call c.ref, 0, 0, 0, false⟩)).releaseHeld_quietly c
  rw [State.endCall, hoffer, State.freeHeld]
  split
  · rw [State.arbiter_elsewhere, hheld.2, hsecs]
    all_goals rw [State.releaseHeld_sec, State.modQueue_eq, State.sec_setSec_self, State.retireCall_sec]
    · exact hl
    · exact hb
  · rw [hheld.2, hsecs]

theorem Channel.released_eq (x : Channel) : x.released = ⟨if x.ready then .free else .down, x.ready, none⟩ := rfl

end Sys2Proof.Machine

open Sys2Proof Sys2Proof.Machine

/-- Settles O39: the end of a call is one operation for CLEAR and DISMISS, and the dispatcher that follows it changes no section, no
record of the history and no reference. -/
theorem clearAndDismissEndACall : Obligations.ClearAndDismissEndACall := by
  unfold Obligations.ClearAndDismissEndACall
  intro h r s c cmd f cause hcmd ha hr hc
  have hact : ∀ st : State × Status × ReplyBody, requestAct cmd (s.taking f) = st → exec cmd s = .next (st.1.replied f st.2.1 st.2.2) := by
    rintro st rfl
    obtain ⟨rfl, rfl, rfl⟩ | ⟨rfl, rfl, rfl⟩ := hcmd <;> exact exec_of_accepts rfl ha
  generalize hu : s.taking f = u at hact
  have hfind : u.findCall r = some c := by rw [← hu]; exact hc
  obtain rfl : c.ref = r := (State.mem_of_findCall hc).2
  have hsec : u.sec c.sec = s.sec c.sec := by rw [← hu]; rfl
  refine ⟨fun hwrong => ?_, fun hright => ?_⟩
  · refine (hact (u, .wrongCallState, .callFound c.state) ?_).trans (by rw [← hu]; rfl)
    obtain ⟨rfl, _, _⟩ | ⟨rfl, _, _⟩ := hcmd
    · have hst : c.state = .abandoned := by simpa using hwrong
      exact (u.onCall_found _ hr hfind).trans (if_pos hst)
    · have hst : c.state ≠ .abandoned := by simpa using hwrong
      exact (u.onCall_found _ hr hfind).trans (if_neg hst)
  · have hends := u.endCall_ends c cause
    have hby := (u.endCall_byCalls c cause).trans (State.finish_byCalls _ c.sec)
    obtain ⟨bs, htold⟩ := u.endCall_toldFirst c cause
    obtain ⟨hlink, hset, hdir, hothers⟩ := hby.ofRequest hu
    obtain ⟨cs, hcs⟩ := (u.endCall c cause).finish_inner.told'
    have hsecs : u.seconds = s.seconds := by rw [← hu]; rfl
    have hstays : s.globals.autoOffer = false → (u.endCall c cause).SameCalls (u.endCall c cause).finish := fun hoff =>
      State.finish_calls (by rw [(u.endCall_byCalls c cause).globals, ← hu]; exact hoff)
    refine ⟨(u.endCall c cause).finish, ?_, ?_, ?_, ?_, ?_, ?_, fun q hq => ?_, fun hoff => ⟨fun q hq => ?_, fun hh => ?_, fun ch hch => ?_⟩,
      fun hp hl hb => ?_, hu ▸ hlink, hset, hdir, hothers⟩
    · refine hact ((u.endCall c cause).finish, .ok, .callOver (c.connectedSeconds s.seconds)) ?_
      obtain ⟨rfl, _, rfl⟩ | ⟨rfl, _, rfl⟩ := hcmd
      · have hst : c.state ≠ .abandoned := by simpa using hright
        exact (u.onCall_found _ hr hfind).trans ((if_neg hst).trans (by rw [hsecs]))
      · have hst : c.state = .abandoned := by simpa using hright
        exact (u.onCall_found _ hr hfind).trans ((if_pos hst).trans (by rw [hsecs]))
    · exact State.finish_none (by rw [hends.findCall, if_pos rfl])
    · rw [State.finish_history, hends.history, ← hu]
      rfl
    · rw [State.finish_fullEpisode, hends.full]
    · rw [State.finish_nextRef, hends.next, ← hu]
      rfl
    · subst hu
      exact ⟨bs ++ cs, (State.Told.afterQuiet (t := s.taking f) .quiet (htold.trans hcs)).tells⟩
    · rw [State.finish_isSome, hends.findCall, if_neg hq, ← hu]
      rfl
    · rw [(hstays hoff).findCall, hends.findCall, if_neg hq, ← hu]
      rfl
    · have hh' : u.holder c.sec = some c.ref := by rw [← hu]; exact hh
      rw [(hstays hoff).holder, (hstays hoff).join, hends.holder, hends.join, if_pos ⟨rfl, hh'⟩,
        if_pos ⟨rfl, hh'⟩]
      exact ⟨rfl, rfl⟩
    · rw [(hstays hoff).chan, hends.chan, if_pos hch, ← hu]
      rfl
    · rw [State.finish_secs, State.endCall_secs cause (by rw [hsec]; exact hp) (by rw [hsec]; exact hl) (by rw [hsec]; exact hb),
        ← hu]
      rfl
end

section
/-! SUPPORT. A call that changes: the channel it gets or gives back, its path, its join, and what is told. -/

-- One theorem after another: elaborated side by side, they ask for more thread stacks than the check has memory for.
set_option Elab.async false

namespace Sys2Proof.Machine

/-! ## The channel that a request gets -/

section channels
variable {s : State}

theorem State.freeChannel_none (h : ∀ d, (s.chan d).state ≠ .free) : s.freeChannel = none := by
  rw [State.freeChannel, List.find?_eq_none]
  intro d _
  simpa using h d

theorem mem_allChannels (ch : ChanId) : ch ∈ allChannels := by
  revert ch
  decide

theorem State.freeChannel_first {ch : ChanId} (hf : (s.chan ch).state = .free) (h : ∀ d : ChanId, d < ch → (s.chan d).state ≠ .free) :
    s.freeChannel = some ch := by
  have hmem : ch ∈ allChannels := mem_allChannels ch
  have hsorted : allChannels.Pairwise (· < ·) := by decide
  obtain ⟨l, r, hlr⟩ := List.append_of_mem hmem
  unfold State.freeChannel
  rw [hlr] at hsorted ⊢
  refine List.find?_eq_some_iff_append.2 ⟨by simpa using hf, l, r, rfl, fun d hd => ?_⟩
  have hlt : d < ch := (List.pairwise_append.1 hsorted).2.2 d hd ch (by simp)
  simpa using h d hlt

theorem optChanOf_val (d : ChanId) : optChanOf d.val = some (some d) := by
  have hne : d.val ≠ Config.noChannel := Nat.ne_of_lt (Nat.lt_trans d.isLt (by decide))
  rw [optChanOf, if_neg hne, chanOf_val]
  rfl

theorem optChanOf_range {n : Nat} (h4 : 4 ≤ n) (hn : n ≠ 0xFF) : optChanOf n = none := by
  have hne : n ≠ Config.noChannel := hn
  rw [optChanOf, if_neg hne, chanOf, dif_neg (Nat.not_lt.2 h4)]
  rfl

theorem optChanOf_named {n : Nat} (h : n < 4 ∨ n = 0xFF) : ∃ named, optChanOf n = some named := by
  obtain h | rfl := h
  · exact ⟨_, optChanOf_val ⟨n, h⟩⟩
  · exact ⟨none, rfl⟩

/-- The channel that the channel byte gets (R167, R169, R171). -/
theorem State.ChannelFor.chosen {n : Nat} {ch : ChanId} (h : s.ChannelFor n ch) :
    ∃ named, optChanOf n = some named ∧ s.chooseChannel named = .ok ch := by
  obtain ⟨hf, rfl | ⟨rfl, hfirst⟩⟩ := h
  · exact ⟨some ch, optChanOf_val ch, if_pos hf⟩
  · refine ⟨none, rfl, ?_⟩
    rw [State.chooseChannel, State.freeChannel_first hf hfirst]

theorem State.chooseChannel_none (h : ∀ d, (s.chan d).state ≠ .free) : s.chooseChannel none = .error .noChannel := by
  rw [State.chooseChannel, State.freeChannel_none h]

theorem State.chooseChannel_busy {d : ChanId} (h : (s.chan d).state ≠ .free) : s.chooseChannel (some d) = .error .channelBusy := if_neg h

end channels

/-! ## One call changed -/

/-- The call of the reference that `c` has is `c`, every other call is as it was, and `bs` has been told. -/
structure State.Alters (s t : State) (c : Call) (bs : List EventBody) : Prop where
  found : t.findCall c.ref = some c
  others : ∀ q, q ≠ c.ref → t.findCall q = s.findCall q
  refs : s.RefLaw → t.RefLaw
  history : t.history = s.history
  next : t.nextRef = s.nextRef
  full : t.fullEpisode = s.fullEpisode
  told : s.Told t bs

/-- The call has a channel, in this state, and its section's path, with this join. -/
structure State.Takes (s t : State) (c : Call) (ch : ChanId) (x : ChannelState) (j : Join) : Prop where
  chan : ∀ d, t.chan d = if d = ch then ⟨x, (s.chan ch).ready, some c.ref⟩ else s.chan d
  holder : ∀ i, t.holder i = if i = c.sec then some c.ref else s.holder i
  join : ∀ i, t.join i = if i = c.sec then j else s.join i

/-- The channel that the call carried is released, and its path, which it keeps, is at TONE. -/
structure State.LetsGo (s t : State) (c : Call) : Prop where
  chan : ∀ d, t.chan d = if c.channel = some d then (s.chan d).released else s.chan d
  holder : ∀ i, t.holder i = s.holder i
  join : ∀ i, t.join i = if i = c.sec then .tone else s.join i

section alters
variable {s t u : State} {c : Call} {bs : List EventBody}

theorem State.Alters.after (h : s.Alters t c bs) (hs : t.SameCalls u) (hq : t.Told u []) : s.Alters u c bs :=
  ⟨(hs.findCall _).trans h.found, fun q hq => (hs.findCall q).trans (h.others q hq), fun hr => (h.refs hr).same hs,
    hs.2.1.trans h.history, hs.2.2.1.trans h.next, hs.2.2.2.1.trans h.full, h.told.thenQuiet hq⟩

theorem State.Takes.same {ch : ChanId} {x : ChannelState} {j : Join} (h : s.Takes t c ch x j) (hs : t.SameCalls u) :
    s.Takes u c ch x j :=
  ⟨fun d => (hs.chan d).trans (h.chan d), fun i => (hs.holder i).trans (h.holder i), fun i => (hs.join i).trans (h.join i)⟩

theorem State.LetsGo.same (h : s.LetsGo t c) (hs : t.SameCalls u) : s.LetsGo u c :=
  ⟨fun d => (hs.chan d).trans (h.chan d), fun i => (hs.holder i).trans (h.holder i), fun i => (hs.join i).trans (h.join i)⟩

/-- One call of the table changed by `f`, and what is told after it. -/
theorem State.modCall_alters {f : Call → Call} (hf : ∀ c, (f c).ref = c.ref) (hc : s.findCall c.ref = some c)
    (hcalls : t.calls = (s.modCall c.ref f).calls) (hhist : t.history = s.history) (hnext : t.nextRef = s.nextRef)
    (hfull : t.fullEpisode = s.fullEpisode) (htold : s.Told t bs) : s.Alters t (f c) bs := by
  refine ⟨?_, fun q hq => ?_, fun hr => (hr.modCall' c.ref hf).ofRefs (by rw [hcalls]) (hnext.trans (State.modCall_nextRef _ _ _).symm),
    hhist, hnext, hfull, htold⟩
  · rw [State.findCall_congr hcalls, State.findCall_modCall _ _ _ _ hf, hf, if_pos rfl, hc]
    rfl
  · rw [State.findCall_congr hcalls, State.findCall_modCall _ _ _ _ hf, if_neg (by rwa [hf] at hq)]

theorem State.Alters.offered (h : s.Alters t c bs) (i : SectionId) (a : Addr) (k : TxnKind) (r : Nat) :
    s.Alters (t.offerNotice i a k r) c bs :=
  h.after (t.offerNotice_calls i a k r) (t.offerNotice_told i a k r).1

end alters

/-! ## A call gets a channel -/

/-- A call as it is put on a channel, before its notice: the record changed by `f`, channel, path and join (R163, R166, R172). -/
def State.putOn (c : Call) (f : Call → Call) (ch : ChanId) (x : ChannelState) (j : Join) (s : State) : State :=
  (((s.modCall c.ref f).setChan ch ⟨x, (s.chan ch).ready, some c.ref⟩).setHolder c.sec (some c.ref)).setJoin c.sec j

section putOn
variable (s : State) {c : Call} {f : Call → Call} (ch : ChanId) (x : ChannelState) (j : Join)

theorem State.putOn_alters (hf : ∀ c, (f c).ref = c.ref) (hc : s.findCall c.ref = some c) :
    s.Alters (s.putOn c f ch x j) (f c) [] :=
  State.modCall_alters hf hc rfl rfl rfl rfl .quiet

theorem State.putOn_takes : s.Takes (s.putOn c f ch x j) c ch x j := by
  refine ⟨fun d => ?_, fun i => ?_, fun i => ?_⟩
  · by_cases h : d = ch
    · subst h
      simp [State.putOn]
    · have h' : ch ≠ d := Ne.symm h
      simp [State.putOn, h, h']
  · by_cases h : i = c.sec
    · subst h
      simp [State.putOn]
    · have h' : c.sec ≠ i := Ne.symm h
      simp [State.putOn, h, h']
  · by_cases h : i = c.sec
    · subst h
      simp [State.putOn]
    · have h' : c.sec ≠ i := Ne.symm h
      simp [State.putOn, h, h']

end putOn

/-- A call as CONNECTED on a channel (R166, R167, R169). -/
def Call.connectedOn (c : Call) (ch : ChanId) (now : Nat) : Call :=
  { c with state := .connected, channel := some ch, connectedSince := some now, offerTimer := none, ringTimer := none }

section connect
variable (s : State) (c : Call) (ch : ChanId)

/-- A call connected, before its CONNECT notice. -/
def State.joined : State :=
  (s.putOn c (fun x => x.connectedOn ch s.seconds) ch .connected (.channel ch)).post (.callConnected c.ref ch)

theorem State.connect_eq : s.connect c ch = (s.joined c ch).offerNotice c.sec c.addr .connect c.ref := rfl

theorem State.joined_sec (i : SectionId) : (s.joined c ch).sec i = s.sec i := by
  unfold State.joined
  rw [State.sec_post]
  rfl

theorem State.joined_secs : (s.joined c ch).secs = s.secs := by
  unfold State.joined
  simp [State.putOn]

theorem State.connect_alters (hc : s.findCall c.ref = some c) :
    s.Alters (s.connect c ch) (c.connectedOn ch s.seconds) [.callConnected c.ref ch] := by
  have h := s.putOn_alters ch .connected (.channel ch) (f := fun x => x.connectedOn ch s.seconds) (fun _ => rfl) hc
  have hpost : s.Alters (s.joined c ch) (c.connectedOn ch s.seconds) [.callConnected c.ref ch] :=
    ⟨(State.findCall_congr (State.post_calls _ _) _).trans h.found, fun q hq => (State.findCall_congr (State.post_calls _ _) q).trans
      (h.others q hq), fun hr => (h.refs hr).same ((State.post_byLine _ 0 _).calls), (State.post_history _ _).trans h.history,
      (State.post_nextRef _ _).trans h.next, (State.post_fullEpisode _ _).trans h.full, h.told.trans (State.post_told _ _)⟩
  exact hpost.offered c.sec c.addr .connect c.ref

theorem State.connect_takes : s.Takes (s.connect c ch) c ch .connected (.channel ch) :=
  ((s.putOn_takes ch .connected (.channel ch)).same (State.post_byLine _ c.sec _).calls).same (State.offerNotice_calls _ _ _ _ _)

end connect

/-! ## A call gives its channel back -/

/-- A call that gives its channel back and keeps its path at TONE, with the PARKED notice: what a PARK (R168) and a requeue (R164) have
in common. -/
def State.letGo (c : Call) (f : Call → Call) (b : EventBody) (s : State) : State :=
  ((((s.modCall c.ref f).releaseChannel c.channel).setJoin c.sec .tone).post b).offerNotice c.sec c.addr .parked c.ref

/-- The same, before the notice. -/
def State.freed (c : Call) (f : Call → Call) (b : EventBody) (s : State) : State :=
  (((s.modCall c.ref f).releaseChannel c.channel).setJoin c.sec .tone).post b

section letGo
variable (s : State) (c : Call) (f : Call → Call) (b : EventBody)

theorem State.freed_secs : (s.freed c f b).secs = s.secs := by
  unfold State.freed State.releaseChannel
  split
  · split <;> simp
  · simp

theorem State.freed_sec (i : SectionId) : (s.freed c f b).sec i = s.sec i := by
  rw [State.sec, s.freed_secs]
  rfl

theorem State.freed_told : s.Told (s.freed c f b) [b] := by
  have h : s.Told (((s.modCall c.ref f).releaseChannel c.channel).setJoin c.sec .tone) [] := by
    unfold State.releaseChannel
    split
    · split <;> exact .quiet
    · exact .quiet
  exact h.afterQuiet (State.post_told _ _)

theorem State.letGo_alters {c : Call} {f : Call → Call} (hf : ∀ c, (f c).ref = c.ref) (hc : s.findCall c.ref = some c) :
    s.Alters (s.letGo c f b) (f c) [b] := by
  obtain ⟨h1, h2, h3, h4⟩ := (s.modCall c.ref f).calls_releaseChannel c.channel
  have h : s.Alters (s.freed c f b) (f c) [b] :=
    State.modCall_alters hf hc ((State.post_calls _ _).trans h1) ((State.post_history _ _).trans h2)
      ((State.post_nextRef _ _).trans h3) ((State.post_fullEpisode _ _).trans h4) (s.freed_told c f b)
  exact h.offered c.sec c.addr .parked c.ref

theorem State.letGo_letsGo : s.LetsGo (s.letGo c f b) c := by
  have h : s.LetsGo (((s.modCall c.ref f).releaseChannel c.channel).setJoin c.sec .tone) c := by
    refine ⟨fun d => ?_, fun i => ?_, fun i => ?_⟩
    · rw [State.chan_setJoin, State.chan_releaseChannel]
      rfl
    · rw [State.holder_setJoin, (State.holder_releaseChannel _ _ _).1]
      rfl
    · rw [State.join_setJoin, (State.holder_releaseChannel _ _ _).2]
      by_cases hi : i = c.sec
      · rw [if_pos hi, if_pos hi.symm]
      · rw [if_neg hi, if_neg (Ne.symm hi)]
        rfl
  exact (h.same (State.post_byLine _ c.sec _).calls).same (State.offerNotice_calls _ _ _ _ _)

/-- On an ACTIVE section whose line is not IDLE the PARKED notice joins the queue, and nothing else happens there. -/
theorem State.letGo_secs (ha : (s.sec c.sec).power = .active) (hl : (s.sec c.sec).line ≠ .idle) :
    (s.letGo c f b).secs = (s.modQueue c.sec (joinNotice ⟨.parked, c.addr, .call c.ref, 0, 0, 0, false⟩)).secs := by
  have h : s.letGo c f b = (s.freed c f b).modQueue c.sec (joinNotice ⟨.parked, c.addr, .call c.ref, 0, 0, 0, false⟩) :=
    State.offerNotice_active (s := s.freed c f b) (by rwa [State.freed_sec]) (Or.inl (by rwa [State.freed_sec])) _ _ _
  rw [h, State.modQueue_eq, State.modQueue_eq, State.freed_sec, State.setSec, State.setSec]
  dsimp only
  rw [State.freed_secs]

end letGo

theorem State.parkCall_eq (s : State) {c : Call} {ch : ChanId} (h : c.channel = some ch) : s.parkCall c ch =
    s.letGo c (fun x => { x.closeConnected s.seconds with state := .parked, channel := none }) (.callParked c.ref ch) := by
  rw [State.letGo, h]
  rfl

theorem State.requeue_eq (s : State) (c : Call) (e : RequeueCause) : s.requeue c e =
    (s.letGo c (fun x => { x.closeConnected s.seconds with state := .queued, boost := boostAfter x.boost, channel := none,
                                                           offerTimer := none })
      (.callRequeued c.ref e (boostAfter c.boost) c.channel)).markDispatch := rfl

end Sys2Proof.Machine
end

section
/-! SUPPORT. The call requests ANSWER, PICK, RETRIEVE and PARK. -/

-- One theorem after another: elaborated side by side, they ask for more thread stacks than the check has memory for.
set_option Elab.async false

namespace Sys2Proof.Machine

/-! ## A notice before the end of the operation -/

/-- A call notice brings an occasion for the dispatcher only where it returns a section from SETTLING (R161). -/
theorem State.offerNotice_due {s : State} {i : SectionId} (h : ∀ part, (s.sec i).power ≠ .settling part) (a : Addr) (k : TxnKind)
    (r : Nat) : (s.offerNotice i a k r).dispatchDue = s.dispatchDue := by
  by_cases hoff : (s.sec i).power = .off
  · rw [State.offerNotice_off hoff]
  · rw [State.offerNotice_eq hoff, State.enqueue, (State.workArrived_byLine _ i).due]
    exact s.arrive_due i .call h

theorem State.connect_finish {s : State} {c : Call} (ha : (s.sec c.sec).power = .active) (hd : s.dispatchDue = false) (ch : ChanId) :
    (s.connect c ch).finish = s.connect c ch := by
  refine State.finish_idle ?_
  rw [State.connect_eq, State.offerNotice_due (by rw [State.joined_sec, ha]; simp)]
  unfold State.joined
  rw [State.post_dispatchDue]
  exact hd

/-! ## The owners -/

section owners
variable {s : State} {r n : Nat} {c : Call}

theorem State.refuseNamed_found (st : Status) (hr : r ≠ 0) (hc : s.findCall r = some c) :
    s.refuseNamed st r = s.refuseCall st c := by
  rw [State.refuseNamed, if_pos ((isRef_iff r).2 hr), hc]

theorem State.refuseNamed_zero (st : Status) : s.refuseNamed st 0 = s.refuse st := rfl

theorem State.refuseNamed_missing (st : Status) (hr : r ≠ 0) (hc : s.findCall r = none) : s.refuseNamed st r = s.refuse st := by
  rw [State.refuseNamed, if_pos ((isRef_iff r).2 hr), hc]

/-- What ANSWER, PICK and RETRIEVE have in common: the state that they take a call from, and, for a channel byte, what is asked of the
call and the channel. -/
theorem State.answerAct_connects {ch : ChanId} (hr : r ≠ 0) (hc : s.findCall r = some c) (hst : c.state = .offered)
    (hch : c.channel = some ch) : s.answerAct r = ((s.connect c ch).finish, .ok, .callLeft .connected (some ch)) := by
  refine (s.onCall_found _ hr hc).trans ?_
  rw [hst, hch]

theorem State.answerAct_wrong (hr : r ≠ 0) (hc : s.findCall r = some c) (hst : c.state ≠ .offered) :
    s.answerAct r = s.refuseCall .wrongCallState c := by
  refine (s.onCall_found _ hr hc).trans ?_
  split
  · next h _ => exact absurd h hst
  · rfl

variable {named : Option ChanId}

theorem State.pickAct_found (hr : r ≠ 0) (hc : s.findCall r = some c) (hn : optChanOf n = some named) :
    s.pickAct r n =
      if c.state = .queued then
        if s.eligible c then
          match s.chooseChannel named with
          | .ok ch => ((s.connect c ch).finish, .ok, .callLeft .connected (some ch))
          | .error e => s.refuseCall e c
        else s.refuseCall .pathBusy c
      else s.refuseCall .wrongCallState c := by
  unfold State.pickAct
  rw [hn]
  exact s.onCall_found _ hr hc

theorem State.retrieveAct_found (hr : r ≠ 0) (hc : s.findCall r = some c) (hn : optChanOf n = some named) :
    s.retrieveAct r n =
      if c.state = .parked then
        match s.chooseChannel named with
        | .ok ch => ((s.connect c ch).finish, .ok, .callLeft .connected (some ch))
        | .error e => s.refuseCall e c
      else s.refuseCall .wrongCallState c := by
  unfold State.retrieveAct
  rw [hn]
  exact s.onCall_found _ hr hc

theorem State.pickAct_range (hn : optChanOf n = none) : s.pickAct r n = s.refuseNamed .badField r := by
  unfold State.pickAct
  rw [hn]

theorem State.retrieveAct_range (hn : optChanOf n = none) : s.retrieveAct r n = s.refuseNamed .badField r := by
  unfold State.retrieveAct
  rw [hn]

end owners

/-- A request that connects a call is one of these three commands, with this form (R166, R167, R169). -/
def Connecting (h : Hdr) (r n : Nat) (cmd : Instr) (f : RequestForm) : Prop :=
  cmd = .answer h r ∧ f = ⟨.answer, h, byte2 r, 2⟩ ∨ cmd = .pick h r n ∧ f = ⟨.pick, h, byte2 r ++ byte1 n, 3⟩ ∨
    cmd = .retrieve h r n ∧ f = ⟨.retrieve, h, byte2 r ++ byte1 n, 3⟩

section connecting
variable {h : Hdr} {r n : Nat} {cmd : Instr} {f : RequestForm} {s : State}

theorem Connecting.exec (hcmd : Connecting h r n cmd f) (ha : s.Accepts f) {t : State} {st : Status} {b : ReplyBody}
    (hact : requestAct cmd (s.taking f) = (t, st, b)) : Machine.exec cmd s = .next (t.replied f st b) := by
  obtain ⟨rfl, rfl⟩ | ⟨rfl, rfl⟩ | ⟨rfl, rfl⟩ := hcmd <;> exact exec_of_act rfl ha hact

/-- The state that the command takes a call from (R166, R167, R169). -/
def Connecting.takesFrom : Instr → CallState
  | .answer _ _ => .offered
  | .pick _ _ _ => .queued
  | _ => .parked

theorem Connecting.zero (hcmd : Connecting h 0 n cmd f) (u : State) : requestAct cmd u = u.refuse .badField := by
  obtain ⟨rfl, rfl⟩ | ⟨rfl, rfl⟩ | ⟨rfl, rfl⟩ := hcmd
  · change u.answerAct 0 = _
    unfold State.answerAct
    exact u.onCall_zero _ rfl
  · change u.pickAct 0 n = _
    unfold State.pickAct
    split
    · exact u.onCall_zero _ rfl
    · rfl
  · change u.retrieveAct 0 n = _
    unfold State.retrieveAct
    split
    · exact u.onCall_zero _ rfl
    · rfl

theorem optChanOf_of_not {n : Nat} (hn : ¬(n < 4 ∨ n = 0xFF)) : optChanOf n = none :=
  optChanOf_range (by omega) (fun h => hn (Or.inr h))

theorem Connecting.missing (hcmd : Connecting h r n cmd f) (hff : cmd = .answer h r → n = 0xFF) {u : State} (hr : r ≠ 0)
    (hc : u.findCall r = none) :
    requestAct cmd u = u.refuse (if n < 4 ∨ n = 0xFF then .noSuchCall else .badField) := by
  by_cases hn : n < 4 ∨ n = 0xFF
  · obtain ⟨named, hnamed⟩ := optChanOf_named hn
    rw [if_pos hn]
    obtain ⟨rfl, rfl⟩ | ⟨rfl, rfl⟩ | ⟨rfl, rfl⟩ := hcmd
    · exact u.onCall_missing _ hr hc
    · change u.pickAct r n = _
      unfold State.pickAct
      rw [hnamed]
      exact u.onCall_missing _ hr hc
    · change u.retrieveAct r n = _
      unfold State.retrieveAct
      rw [hnamed]
      exact u.onCall_missing _ hr hc
  · have hnone := optChanOf_of_not hn
    rw [if_neg hn]
    obtain ⟨rfl, rfl⟩ | ⟨rfl, rfl⟩ | ⟨rfl, rfl⟩ := hcmd
    · exact absurd (Or.inr (hff rfl)) hn
    · exact (State.pickAct_range hnone).trans (State.refuseNamed_missing _ hr hc)
    · exact (State.retrieveAct_range hnone).trans (State.refuseNamed_missing _ hr hc)

theorem Connecting.range (hcmd : Connecting h r n cmd f) (hff : cmd = .answer h r → n = 0xFF) {u : State} {c : Call} (hr : r ≠ 0)
    (hc : u.findCall r = some c) (hn : ¬(n < 4 ∨ n = 0xFF)) : requestAct cmd u = u.refuseCall .badField c := by
  have hnone := optChanOf_of_not hn
  obtain ⟨rfl, rfl⟩ | ⟨rfl, rfl⟩ | ⟨rfl, rfl⟩ := hcmd
  · exact absurd (Or.inr (hff rfl)) hn
  · exact (State.pickAct_range hnone).trans (State.refuseNamed_found _ hr hc)
  · exact (State.retrieveAct_range hnone).trans (State.refuseNamed_found _ hr hc)

theorem Connecting.wrong (hcmd : Connecting h r n cmd f) {u : State} {c : Call} (hr : r ≠ 0) (hc : u.findCall r = some c)
    (hn : n < 4 ∨ n = 0xFF) (hst : c.state ≠ Connecting.takesFrom cmd) : requestAct cmd u = u.refuseCall .wrongCallState c := by
  obtain ⟨named, hnamed⟩ := optChanOf_named hn
  obtain ⟨rfl, rfl⟩ | ⟨rfl, rfl⟩ | ⟨rfl, rfl⟩ := hcmd
  · exact State.answerAct_wrong hr hc hst
  · exact (State.pickAct_found hr hc hnamed).trans (if_neg hst)
  · exact (State.retrieveAct_found hr hc hnamed).trans (if_neg hst)

/-- PICK of an eligible call, and RETRIEVE of a PARKED one, once the channel is chosen. -/
theorem Connecting.chosen (hcmd : Connecting h r n cmd f) {u : State} {c : Call} {named : Option ChanId} (hr : r ≠ 0)
    (hc : u.findCall r = some c) (hn : optChanOf n = some named)
    (hst : (cmd = .pick h r n ∧ c.state = .queued ∧ (u.holder c.sec = none ∨ u.holder c.sec = some c.ref) ∧
      (u.sec c.sec).power = .active) ∨ (cmd = .retrieve h r n ∧ c.state = .parked)) :
    requestAct cmd u = match u.chooseChannel named with
      | .ok ch => ((u.connect c ch).finish, .ok, .callLeft .connected (some ch))
      | .error e => u.refuseCall e c := by
  obtain ⟨rfl, hq, hpath⟩ | ⟨rfl, hp⟩ := hst
  · exact (State.pickAct_found hr hc hn).trans ((if_pos hq).trans (if_pos ((u.eligible_iff c).2 ⟨hq, hpath⟩)))
  · exact (State.retrieveAct_found hr hc hn).trans (if_pos hp)

end connecting

end Sys2Proof.Machine

open Sys2Proof Sys2Proof.Machine

/-- Settles O37: the three commands refuse in one order, and the call that one of them connects is the same operation; no occasion for the
dispatcher comes up on an ACTIVE section. -/
theorem answerPickAndRetrieveConnect : Obligations.AnswerPickAndRetrieveConnect := by
  unfold Obligations.AnswerPickAndRetrieveConnect
  refine ⟨fun h r n s cmd f ha hcmd => ?_, fun h r n s c ch cmd f ha hr hc hcmd hn => ⟨fun hst => ?_, fun hst hp hrefs hdue => ?_⟩⟩
  · have hff : cmd = .answer h r → n = 0xFF := by
      obtain ⟨_, _, hn⟩ | ⟨rfl, _⟩ | ⟨rfl, _⟩ := hcmd
      · exact fun _ => hn
      all_goals exact nofun
    replace hcmd : Connecting h r n cmd f := hcmd.imp_left (fun ⟨h1, h2, _⟩ => ⟨h1, h2⟩)
    refine ⟨?_, fun hr hc => ?_, fun hr c hc => ⟨fun h4 hff' => ?_, fun hpick hst hn hpath => ?_, fun hst =>
      ⟨fun hn hd => ?_, fun d hn hd => ?_⟩⟩⟩
    · rintro rfl
      exact Connecting.exec hcmd ha (Connecting.zero hcmd _)
    · exact Connecting.exec hcmd ha (Connecting.missing hcmd hff hr hc)
    · exact Connecting.exec hcmd ha (Connecting.range hcmd hff (u := s.taking f) hr hc (by omega))
    · subst hpick
      obtain ⟨named, hnamed⟩ := optChanOf_named hn
      have hno : (s.taking f).eligible c ≠ true := fun he => hpath ((s.taking f).eligible_iff c |>.1 he).2
      rw [← hst]
      exact Connecting.exec hcmd ha ((State.pickAct_found (s := s.taking f) hr hc hnamed).trans ((if_pos hst).trans (if_neg hno)))
    · subst hn
      refine Connecting.exec hcmd ha ((Connecting.chosen hcmd (u := s.taking f) hr hc (named := none) rfl hst).trans ?_)
      rw [State.chooseChannel_none (s := s.taking f) hd]
      rfl
    · subst hn
      refine Connecting.exec hcmd ha ((Connecting.chosen hcmd (u := s.taking f) hr hc (optChanOf_val d) hst).trans ?_)
      rw [State.chooseChannel_busy (s := s.taking f) hd]
      rfl
  · replace hcmd : Connecting h r n cmd f := hcmd
    refine Connecting.exec hcmd ha (Connecting.wrong hcmd (u := s.taking f) hr hc hn ?_)
    obtain ⟨rfl, hst⟩ | ⟨rfl, hst⟩ | ⟨rfl, hst⟩ := hst <;> exact hst
  · replace hcmd : Connecting h r n cmd f := hcmd
    obtain rfl : c.ref = r := (State.mem_of_findCall hc).2
    have hact : requestAct cmd (s.taking f) =
        (((s.taking f).connect c ch).finish, .ok, .callLeft .connected (some ch)) := by
      obtain ⟨rfl, hoff, hch⟩ | hst := hst
      · exact State.answerAct_connects (s := s.taking f) hr hc hoff hch
      · have hfor : s.ChannelFor n ch := by
          obtain ⟨_, _, _, hfor⟩ | ⟨_, _, hfor⟩ := hst <;> exact hfor
        obtain ⟨named, hnamed, hok⟩ := hfor.chosen
        refine (Connecting.chosen hcmd (u := s.taking f) hr hc hnamed ?_).trans ?_
        · obtain ⟨rfl, hq, hpath, _⟩ | ⟨rfl, hpk, _⟩ := hst
          · exact Or.inl ⟨rfl, hq, hpath, hp⟩
          · exact Or.inr ⟨rfl, hpk⟩
        · have hok' : (s.taking f).chooseChannel named = .ok ch := hok
          rw [hok']
    generalize hu : s.taking f = u at hact
    have hsec : u.sec c.sec = s.sec c.sec := by rw [← hu]; rfl
    have hup : (u.sec c.sec).power = .active := by rw [hsec]; exact hp
    have hfin : (u.connect c ch).finish = u.connect c ch := State.connect_finish hup (by rw [← hu]; exact hdue) ch
    rw [hfin] at hact
    obtain ⟨hfound, hothers, _, hhist, hnext, hfull, htold⟩ := u.connect_alters c ch (by rw [← hu]; exact hc)
    obtain ⟨hchan, hholder, hjoin⟩ := u.connect_takes c ch
    obtain ⟨hlink, hset, hdir, hoth⟩ := (u.connect_byCalls c ch).ofRequest hu
    have htold' : s.Told (u.connect c ch) [.callConnected c.ref ch] := State.Told.afterQuiet (t := u) (by rw [← hu]; exact .quiet) htold
    subst hu
    refine ⟨(s.taking f).connect c ch, Connecting.exec hcmd ha hact, hfound, hothers, hchan, hholder, hjoin, hhist, hnext, hfull,
      htold'.tellsFirst, fun hl => ⟨htold'.tells, ?_⟩, fun hl hpf hslot hq hs => ?_, hlink, hset, hdir, hoth⟩
    · have hoffer := State.offerNotice_active (s := (s.taking f).joined c ch) (i := c.sec) (by rwa [State.joined_sec])
        (Or.inl (by rwa [State.joined_sec])) c.addr .connect c.ref
      rw [State.connect_eq, hoffer, State.modQueue_eq, State.modQueue_eq, State.joined_sec, State.setSec, State.setSec]
      dsimp only
      rw [State.joined_secs]
      rfl
    · have hgiven := ((s.taking f).joined c ch).offerNotice_given c.sec c.addr .connect c.ref
      rw [State.joined_sec] at hgiven
      obtain ⟨_, _, _, _, hsend⟩ := hgiven
      obtain ⟨_, hline, hin, _⟩ := hsend (Or.inl ⟨hp, hl⟩) hpf hslot hq (by
        have hsil : ((s.taking f).joined c ch).silent = (s.taking f).silent := State.silent_post _ _
        rw [hsil]
        exact hs)
      exact ⟨hline, hin⟩
end

section
/-! SUPPORT. PARK, and the requeue of the offer timer, with the dispatcher's act after them. -/

-- One theorem after another: elaborated side by side, they ask for more thread stacks than the check has memory for.
set_option Elab.async false

namespace Sys2Proof.Machine

/-- No call of a section is eligible while its path is held by a call that is not QUEUED (R162). -/
theorem State.not_eligible_of_held {s : State} (h : s.RefLaw) {i : SectionId} {r : Nat} {c : Call} (hh : s.holder i = some r)
    (hc : s.findCall r = some c) (hst : c.state ≠ .queued) : ∀ d ∈ s.calls, d.sec = i → s.eligible d = false := by
  rintro d hd rfl
  by_contra he
  obtain ⟨hq, hpath, _⟩ := (s.eligible_iff d).1 (Bool.eq_true_of_not_eq_false he)
  rw [hh] at hpath
  have href : r = d.ref := by simpa using hpath
  have hfound := h.findCall hd
  rw [← href, hc] at hfound
  obtain rfl := Option.some.inj hfound
  exact hst hq

section parkAct
variable {s : State} {r : Nat} {c : Call}

theorem State.parkAct_parks {ch : ChanId} (hr : r ≠ 0) (hc : s.findCall r = some c) (hst : c.state = .connected)
    (hch : c.channel = some ch) : s.parkAct r = ((s.parkCall c ch).finish, .ok, .callLeft .parked none) := by
  refine (s.onCall_found _ hr hc).trans ?_
  rw [hst, hch]

theorem State.parkAct_wrong (hr : r ≠ 0) (hc : s.findCall r = some c) (hst : c.state ≠ .connected) :
    s.parkAct r = s.refuseCall .wrongCallState c := by
  refine (s.onCall_found _ hr hc).trans ?_
  split
  · next h _ => exact absurd h hst
  · rfl

end parkAct

end Sys2Proof.Machine

open Sys2Proof Sys2Proof.Machine

/-- Settles O38: the parked call still holds its path, so that the dispatcher's act offers no call of that section, and it offers no
PARKED one. -/
theorem parkKeepsThePathAndFreesTheChannel : Obligations.ParkKeepsThePathAndFreesTheChannel := by
  unfold Obligations.ParkKeepsThePathAndFreesTheChannel
  rintro h r s c f rfl ha hr hc
  refine ⟨fun hst => exec_of_act rfl ha (State.parkAct_wrong (s := s.taking _) hr hc hst), fun ch hst hch hp hrefs hheld => ?_⟩
  obtain rfl : c.ref = r := (State.mem_of_findCall hc).2
  generalize hf : (⟨.park, h, byte2 c.ref, 2⟩ : RequestForm) = f at ha
  have hact : requestAct (.park h c.ref) (s.taking f) = (((s.taking f).parkCall c ch).finish, .ok, .callLeft .parked none) :=
    State.parkAct_parks (s := s.taking f) hr hc hst hch
  have hexec := exec_of_act (f := f) (by rw [← hf]; rfl) ha hact
  have hfind : (s.taking f).findCall c.ref = some c := hc
  obtain ⟨hfound, hothers, hrefs', hhist, hnext, hfull, htold⟩ :=
    (s.taking f).letGo_alters (.callParked c.ref ch) (fun _ => rfl) hfind
      (f := fun x => { x.closeConnected (s.taking f).seconds with state := .parked, channel := none })
  obtain ⟨hchan, hholder, hjoin⟩ := (s.taking f).letGo_letsGo c
    (fun x => { x.closeConnected (s.taking f).seconds with state := .parked, channel := none }) (.callParked c.ref ch)
  have hsecs := (s.taking f).letGo_secs c
    (fun x => { x.closeConnected (s.taking f).seconds with state := .parked, channel := none }) (.callParked c.ref ch) hp
  have hby := ((s.taking f).parkCall_byCalls c ch).trans (State.finish_byCalls _ c.sec)
  rw [← State.parkCall_eq _ hch] at hfound hothers hrefs' hhist hnext hfull htold hchan hholder hjoin hsecs
  obtain ⟨hlink, hset, hdir, hoth⟩ := hby.ofRequest rfl
  have htold' : s.Told ((s.taking f).parkCall c ch) [.callParked c.ref ch] := State.Told.afterQuiet (t := s.taking f) .quiet htold
  have hlaw := hrefs' hrefs
  have hd := State.finish_dispatched hlaw
  have hheld' : ((s.taking f).parkCall c ch).holder c.sec = some c.ref := (hholder c.sec).trans hheld
  obtain ⟨hpath, hjoin', _⟩ := hd.path c.sec (State.not_eligible_of_held hlaw hheld' hfound (by simp))
  have hstays : s.globals.autoOffer = false →
      ((s.taking f).parkCall c ch).SameCalls ((s.taking f).parkCall c ch).finish := fun hoff =>
    State.finish_calls (by rw [((s.taking f).parkCall_byCalls c ch).globals]; exact hoff)
  refine ⟨_, hexec, hd.keeps hfound (by simp), hpath.trans hheld', ?_, htold'.first (State.finish_inner _), fun hoff => ⟨fun q hq => ?_,
    fun d => ?_, fun j hj => ⟨?_, ?_⟩⟩, fun hl => ?_, ?_, ?_, ?_, hlink, hset, hdir, hoth⟩
  · rw [hjoin', hjoin, if_pos rfl]
  · rw [(hstays hoff).findCall, hothers q hq]
    rfl
  · rw [(hstays hoff).chan, hchan, hch]
    by_cases hd : d = ch
    · subst hd
      rw [if_pos rfl, if_pos rfl]
      rfl
    · rw [if_neg (fun he => hd (Option.some.inj he).symm), if_neg hd]
      rfl
  · rw [(hstays hoff).holder, hholder]
    rfl
  · rw [(hstays hoff).join, hjoin, if_neg hj]
    rfl
  · rw [State.finish_secs, hsecs hl]
    rfl
  · rw [State.finish_history, hhist]
    rfl
  · rw [State.finish_nextRef, hnext]
    rfl
  · rw [State.finish_fullEpisode, hfull]
    rfl
end

section
/-! SUPPORT. The requeue of a call, and the timers of an offer and of a ring. -/

-- One theorem after another: elaborated side by side, they ask for more thread stacks than the check has memory for.
set_option Elab.async false

namespace Sys2Proof.Machine

/-- A call as a requeue leaves it (R164). -/
def Call.requeued (c : Call) (now : Nat) : Call :=
  { c with state := .queued, boost := min 6 (c.boost + 2), channel := none, offerTimer := none, connectedSince := none,
           connectedTotal := c.connectedSeconds now }

section requeue
variable (s : State) {c : Call} (e : RequeueCause)

theorem State.requeue_alters (hc : s.findCall c.ref = some c) :
    s.Alters (s.requeue c e) (c.requeued s.seconds) [.callRequeued c.ref e (min 6 (c.boost + 2)) c.channel] :=
  (s.letGo_alters _ (f := fun x => { x.closeConnected s.seconds with state := .queued, boost := boostAfter x.boost, channel := none,
                                                                     offerTimer := none }) (fun _ => rfl) hc).after
    ⟨rfl, rfl, rfl, rfl, rfl, rfl, rfl⟩ .quiet

theorem State.requeue_letsGo (c : Call) : s.LetsGo (s.requeue c e) c :=
  (s.letGo_letsGo c _ _).same ⟨rfl, rfl, rfl, rfl, rfl, rfl, rfl⟩

variable {s e} {u : State} (hu : (s.requeue c e).SameCalls u)

include hu

/-- The dispatcher's act after a requeue offers the call again or leaves it (R161). -/
theorem State.requeue_finish (hc : s.findCall c.ref = some c) (h : s.RefLaw) :
    ∃ d, u.finish.findCall c.ref = some d ∧ d.boost = min 6 (c.boost + 2) ∧ (d.state = .queued ∨ d.state = .offered) ∧
      d.arrival = c.arrival := by
  have halt := s.requeue_alters e hc
  have hfound : u.findCall c.ref = some (c.requeued s.seconds) := (hu.findCall _).trans halt.found
  obtain hsame | ⟨d, ch, tm, hd, _, hoff⟩ := (State.finish_dispatched ((halt.refs h).same hu)).call c.ref
  · exact ⟨_, hsame.trans hfound, rfl, Or.inl rfl, rfl⟩
  · rw [hfound] at hd
    obtain rfl := Option.some.inj hd
    exact ⟨_, hoff, rfl, Or.inr rfl, rfl⟩

theorem State.requeue_holder {r : Nat} {i : SectionId} (h : s.RefLaw) (hc : s.findCall c.ref = some c)
    (hh : s.holder i = some r) : u.finish.holder i = some r :=
  (State.finish_dispatched (((s.requeue_alters e hc).refs h).same hu)).holder i r
    ((hu.holder i).trans (((s.requeue_letsGo e c).holder i).trans hh))

/-- With auto-offer off the requeued call waits (R161, R164). -/
theorem State.requeue_waits (hc : s.findCall c.ref = some c) (hoff : u.globals.autoOffer = false) :
    u.finish.findCall c.ref = some (c.requeued s.seconds) ∧ u.finish.join c.sec = .tone ∧
      (∀ d, u.finish.chan d = if c.channel = some d then (s.chan d).released else s.chan d) ∧
      ∀ q, q ≠ c.ref → u.finish.findCall q = s.findCall q := by
  have hgo := (s.requeue_letsGo e c).same hu
  have hstay := State.finish_calls hoff
  refine ⟨(hstay.findCall _).trans ((hu.findCall _).trans (s.requeue_alters e hc).found), ?_, fun d => (hstay.chan d).trans (hgo.chan d),
    fun q hq => (hstay.findCall q).trans ((hu.findCall q).trans ((s.requeue_alters e hc).others q hq))⟩
  rw [hstay.join, hgo.join, if_pos rfl]

end requeue

/-! ## The frame of a time event -/

/-- What a time event does for a call of section `i`, once its moment has been reached, as the statements write it. -/
theorem State.ByCalls.ofReach {s t : State} {n : Nat} {i : SectionId} (h : (s.reach n).ByCalls i t) :
    t.nowMs = max s.nowMs n ∧ t.mode = s.mode ∧ t.globals = s.globals ∧ t.seconds = s.seconds ∧ s.SameLink t ∧ s.SameReply t ∧
      s.SameDirectory t ∧ s.SameOtherSections i t :=
  ⟨h.nowMs, h.mode, h.globals, h.seconds, ⟨h.rx, h.buffer, h.resetHeld, h.poweringUp⟩, ⟨h.reply, h.headTaken⟩,
    ⟨h.dir, h.rosters, h.unresolved⟩, h.others⟩

section timers
variable {s : State} {r : Nat} {c : Call}

theorem State.offerExpires_passed (hc : s.findCall r = some c) (hst : c.state ≠ .offered) : s.offerExpires r = s := by
  unfold State.offerExpires
  rw [hc]
  dsimp only
  split
  · next h _ => exact absurd h hst
  · rfl

theorem State.offerExpires_requeues {tm : Timer} (hc : s.findCall r = some c) (hst : c.state = .offered)
    (htm : c.offerTimer = some tm) : s.offerExpires r = ((s.reach tm.due).requeue c .offerTimeout).finish := by
  unfold State.offerExpires
  rw [hc]
  dsimp only
  rw [hst, htm]

theorem State.ringExpires_passed (hc : s.findCall r = some c) (hst : c.state ≠ .ringing) : s.ringExpires r = s := by
  unfold State.ringExpires
  rw [hc]
  dsimp only
  split
  · next h _ => exact absurd h hst
  · rfl

theorem State.ringExpires_ends {tm : Timer} (hc : s.findCall r = some c) (hst : c.state = .ringing) (htm : c.ringTimer = some tm) :
    s.ringExpires r = ((s.reach tm.due).endCall c .noAnswer).finish := by
  unfold State.ringExpires
  rw [hc]
  dsimp only
  rw [hst, htm]

end timers

theorem Call.closing_ringing {c : Call} (h : c.state = .ringing) : c.closing = .ringStop := if_pos h

end Sys2Proof.Machine

open Sys2Proof Sys2Proof.Machine

/-- Settles O40: the offer timer is a requeue and the ring timer the end of the call, each with the dispatcher's act after it. -/
theorem callTimersRequeueOrEndTheCall : Obligations.CallTimersRequeueOrEndTheCall := by
  unfold Obligations.CallTimersRequeueOrEndTheCall
  refine ⟨fun r s c hc => ⟨fun hst => congrArg Host.Outcome.next (State.offerExpires_passed hc hst),
    fun ch tm hst hch htm hrefs hheld => ?_⟩, fun r s c hc => ⟨fun hst => congrArg Host.Outcome.next (State.ringExpires_passed hc hst),
    fun tm hst htm => ?_⟩⟩
  · obtain rfl : c.ref = r := (State.mem_of_findCall hc).2
    have hfind : (s.reach tm.due).findCall c.ref = some c := hc
    have hlaw : (s.reach tm.due).RefLaw := hrefs
    obtain ⟨d, hd, hboost, hstate, harr⟩ := State.requeue_finish (s := s.reach tm.due) (e := .offerTimeout) (.refl _) hfind hlaw
    have halt := (s.reach tm.due).requeue_alters .offerTimeout hfind
    have hholder := State.requeue_holder (s := s.reach tm.due) (e := .offerTimeout) (.refl _) hlaw hfind hheld
    obtain ⟨hnow, hmode, hglob, hsecs, hlink, hreply, hdir, hoth⟩ :=
      (((s.reach tm.due).requeue_byCalls c .offerTimeout).trans (State.finish_byCalls _ c.sec)).ofReach
    have htold : s.Told ((s.reach tm.due).requeue c .offerTimeout) [.callRequeued c.ref .offerTimeout (min 6 (c.boost + 2)) (some ch)] :=
      hch ▸ State.Told.afterQuiet (t := s.reach tm.due) .quiet halt.told
    refine ⟨_, d, congrArg Host.Outcome.next (State.offerExpires_requeues hc hst htm), hnow, hd, hboost, hstate, harr, hholder,
      htold.first (State.finish_inner _), fun hoff => ?_, (State.finish_history _).trans halt.history,
      (State.finish_nextRef _).trans halt.next, hmode, hglob, hsecs, hlink, hreply, hdir, hoth⟩
    obtain ⟨hwait, hjoin, hchan, hothers⟩ := State.requeue_waits (s := s.reach tm.due) (e := .offerTimeout) (.refl _) hfind
      (by rw [(State.requeue_byCalls _ c _).globals]; exact hoff)
    rw [hd] at hwait
    exact ⟨Option.some.inj hwait, hjoin, (hchan ch).trans (if_pos hch), hothers⟩
  · obtain rfl : c.ref = r := (State.mem_of_findCall hc).2
    have hends := (s.reach tm.due).endCall_ends c .noAnswer
    obtain ⟨bs, htold⟩ := (s.reach tm.due).endCall_toldFirst c .noAnswer
    obtain ⟨cs, hcs⟩ := ((s.reach tm.due).endCall c .noAnswer).finish_inner.told'
    obtain ⟨hnow, hmode, hglob, hsecs, hlink, hreply, hdir, hoth⟩ :=
      (((s.reach tm.due).endCall_byCalls c .noAnswer).trans (State.finish_byCalls _ c.sec)).ofReach
    refine ⟨_, congrArg Host.Outcome.next (State.ringExpires_ends hc hst htm), hnow,
      State.finish_none (by rw [hends.findCall, if_pos rfl]), (State.finish_history _).trans hends.history,
      ⟨bs ++ cs, (State.Told.afterQuiet (t := s.reach tm.due) .quiet (htold.trans hcs)).tells⟩, fun hp hl hb => ?_, fun q hq => ?_,
      (State.finish_nextRef _).trans hends.next, (State.finish_fullEpisode _).trans hends.full, hmode, hglob, hsecs, hlink, hreply,
      hdir, hoth⟩
    · have hq := State.endCall_secs (s := s.reach tm.due) .noAnswer hp hl hb
      rw [Call.closing_ringing hst] at hq
      exact (State.finish_secs _).trans hq
    · rw [State.finish_isSome, hends.findCall, if_neg hq]
      rfl
end

section
/-! SUPPORT. The dispatcher's choice and its act after an ageing step; the ready levels of the channels. -/

-- One theorem after another: elaborated side by side, they ask for more thread stacks than the check has memory for.
set_option Elab.async false

namespace Sys2Proof.Machine

/-! ## The first of a sorted list -/

theorem mem_sortBy {α : Type} {le : α → α → Bool} {x : α} {l : List α} : x ∈ sortBy le l ↔ x ∈ l := (sortBy_perm le l).mem_iff

/-- The head of a sorted list is the element that no other stands before. -/
theorem sortBy_head {α : Type} {le : α → α → Bool} {R : α → α → Prop} {l : List α} {b : α} (hsorted : (sortBy le l).Pairwise R)
    (hb : b ∈ l) (hfirst : ∀ d ∈ l, d ≠ b → ¬R d b) : (sortBy le l).head? = some b := by
  cases hl : sortBy le l with
  | nil =>
    rw [← mem_sortBy (le := le), hl] at hb
    cases hb
  | cons d ds =>
    have hd : d ∈ l := mem_sortBy.1 (hl ▸ List.mem_cons_self)
    rw [← mem_sortBy (le := le), hl] at hb
    rw [hl] at hsorted
    obtain rfl | hb := List.mem_cons.1 hb
    · rfl
    · by_cases he : d = b
      · rw [he]
        rfl
      · exact absurd ((List.pairwise_cons.1 hsorted).1 b hb) (hfirst d hd he)

/-- One call stands before another in the order of the dispatcher, or is it (R162). -/
def State.Outranks (s : State) (a b : Call) : Prop :=
  s.score b < s.score a ∨ (s.score a = s.score b ∧ (a.arrival < b.arrival ∨ (a.arrival = b.arrival ∧ a.ref ≤ b.ref)))

theorem State.sortBy_ranks (s : State) (l : List Call) : (sortBy s.ranksBefore l).Pairwise s.Outranks :=
  sortBy_pairwise (fun a b h => by simpa [State.ranksBefore, State.Outranks, Call.before] using h)
    (fun a b h => by
      simp [State.ranksBefore, Call.before] at h
      unfold State.Outranks
      omega)
    (fun a b c h1 h2 => by
      unfold State.Outranks at *
      omega) l

theorem State.bestCall_eq {s : State} (h : s.RefLaw) {b : Call} (hb : b ∈ s.calls) (he : s.eligible b = true)
    (hbest : ∀ d ∈ s.calls, s.eligible d = true → d.ref ≠ b.ref →
      s.score d < s.score b ∨ (s.score d = s.score b ∧ (b.arrival < d.arrival ∨ (b.arrival = d.arrival ∧ b.ref < d.ref)))) :
    s.bestCall = some b := by
  refine sortBy_head (s.sortBy_ranks _) (List.mem_filter.2 ⟨hb, he⟩) (fun d hd hne hrank => ?_)
  obtain ⟨hd, hed⟩ := List.mem_filter.1 hd
  have := hbest d hd hed (fun href => hne (h.unique hd hb href))
  unfold State.Outranks at hrank
  omega

theorem State.bestCall_none {s : State} (h : ∀ d ∈ s.calls, s.eligible d = false) : s.bestCall = none := by
  have hnil : s.calls.filter s.eligible = [] := List.filter_eq_nil_iff.2 (fun d hd => by simp [h d hd])
  rw [State.bestCall, hnil]
  rfl

/-! ## The dispatcher's act -/

theorem State.dispatch_stops {s : State} (h : s.freeChannel = none ∨ s.bestCall = none) (n : Nat) : State.dispatch n s = s := by
  cases n with
  | zero => rfl
  | succ n =>
    unfold State.dispatch
    split
    · next hch hc => simp [hch, hc] at h
    · rfl

theorem State.dispatch_offers_one {s : State} {ch : ChanId} {c : Call} (hch : s.freeChannel = some ch) (hc : s.bestCall = some c)
    (n : Nat) : State.dispatch (n + 1) s = State.dispatch n (s.offer c ch) := by
  rw [State.dispatch, hch, hc]

/-- The dispatcher changes the table's calls, channels, paths, joins and events only (R163). -/
def State.OnlyOffers (s t : State) : Prop :=
  t = { s with calls := t.calls, channels := t.channels, holders := t.holders, joins := t.joins, events := t.events }

theorem State.OnlyOffers.trans {s t u : State} (h1 : s.OnlyOffers t) (h2 : t.OnlyOffers u) : s.OnlyOffers u := by
  refine Eq.trans h2 ?_
  rw [h1]

theorem State.dispatch_frame (n : Nat) (s : State) : s.OnlyOffers (State.dispatch n s) := by
  induction n generalizing s with
  | zero => rfl
  | succ n ih =>
    unfold State.dispatch
    split
    · next ch c _ _ =>
      have hoffer : s.OnlyOffers (s.offer c ch) := by
        unfold State.OnlyOffers State.offer
        rw [State.post_eq]
        rfl
      exact hoffer.trans (ih _)
    · rfl

/-- An occasion at the end of an operation that none was owed before (R161). -/
theorem State.occasion_eq {s : State} (hd : s.dispatchDue = false) :
    s.markDispatch.finish = if s.globals.autoOffer then State.dispatch 4 s else s := by
  have hs : { s.markDispatch with dispatchDue := false } = s := by
    cases s
    cases hd
    rfl
  unfold State.finish
  rw [if_pos (show s.markDispatch.dispatchDue = true from rfl), hs]
  rfl

theorem State.offer_told (s : State) (c : Call) (ch : ChanId) :
    s.Told (s.offer c ch) [.callOffered c.ref ch (s.score c) c.post c.sec c.location] :=
  State.Told.afterQuiet .quiet (State.post_told _ _)

/-! ## The ageing step -/

theorem State.atAgeingStep_iff {s : State} {c : Call} (ha : s.globals.ageing ≠ 0) (harr : c.arrival ≤ s.seconds) :
    s.atAgeingStep c = true ↔ c.state = .queued ∧ ∃ k, 1 ≤ k ∧ k ≤ 7 ∧ s.seconds = c.arrival + k * s.globals.ageing := by
  have hpos : 0 < s.globals.ageing := Nat.pos_of_ne_zero ha
  simp only [State.atAgeingStep, Bool.and_eq_true, beq_iff_eq, decide_eq_true_eq, and_assoc]
  refine and_congr_right (fun _ => ⟨fun ⟨hmod, h1, h7⟩ => ⟨_, h1, h7, ?_⟩, fun ⟨k, h1, h7, hk⟩ => ?_⟩)
  · rw [Nat.div_mul_cancel (Nat.dvd_of_mod_eq_zero hmod)]
    omega
  · have hw : s.seconds - c.arrival = k * s.globals.ageing := by omega
    rw [hw, Nat.mul_mod_left, Nat.mul_div_cancel _ hpos]
    exact ⟨rfl, h1, h7⟩

theorem State.ageingStep_eq {s : State} {r : Nat} {c : Call} (hc : s.findCall r = some c) :
    s.ageingStep r = if s.atAgeingStep c then s.markDispatch.finish else s := by
  rw [State.ageingStep, hc]

end Sys2Proof.Machine

open Sys2Proof Sys2Proof.Machine

/-- Settles O43: an ageing step is the dispatcher's act alone, which offers the call that outranks the others on the first FREE
channel. -/
theorem ageingStepLetsTheDispatcherOffer : Obligations.AgeingStepLetsTheDispatcherOffer := by
  unfold Obligations.AgeingStepLetsTheDispatcherOffer
  intro r s c hc hd
  refine ⟨fun hnot ha harr => ?_, fun k hq h1 h7 ha hk => ?_⟩
  · have hno : s.atAgeingStep c ≠ true := fun h => hnot ((State.atAgeingStep_iff ha harr).1 h)
    exact congrArg Host.Outcome.next ((State.ageingStep_eq hc).trans (if_neg hno))
  · have hstep : s.atAgeingStep c = true :=
      (State.atAgeingStep_iff ha (hk ▸ Nat.le_add_right _ _)).2 ⟨hq, k, h1, h7, hk⟩
    have hexec : exec (.ageingStep r) s = .next (if s.globals.autoOffer then State.dispatch 4 s else s) :=
      congrArg Host.Outcome.next ((State.ageingStep_eq hc).trans ((if_pos hstep).trans (State.occasion_eq hd)))
    refine ⟨fun hoff => ?_, fun hbusy => ?_, fun hnone => ?_, fun ch b hauto hch hfirst hb he hlaw hbest => ?_⟩
    · rw [hexec, hoff]
      rfl
    · rw [hexec, State.dispatch_stops (Or.inl (State.freeChannel_none hbusy)), ite_self]
    · rw [hexec, State.dispatch_stops (Or.inr (State.bestCall_none hnone)), ite_self]
    · have hone : State.dispatch 4 s = State.dispatch 3 (s.offer b ch) :=
        State.dispatch_offers_one (State.freeChannel_first hch hfirst) (State.bestCall_eq hlaw hb he hbest) 3
      rw [hexec, hauto, if_pos rfl]
      have hoffered := State.offer_dispatched hlaw hb he hch
      have hmore := State.dispatch_dispatched 3 hoffered.refs
      have hfound : (s.offer b ch).findCall b.ref = some { b with state := .offered, channel := some ch,
                                                                  offerTimer := some ⟨s.nowMs, 1000 * s.globals.offerTimeout⟩ } := by
        rw [State.findCall_offer, if_pos rfl, hlaw.findCall hb]
        rfl
      obtain ⟨hholder, hjoin⟩ := s.offer_path b ch b.sec
      rw [if_pos rfl] at hholder hjoin
      obtain ⟨hholder', hjoin', _⟩ := hmore.path b.sec (State.not_eligible_of_held hoffered.refs hholder hfound (by simp))
      have hchan : (s.offer b ch).chan ch = ⟨.offering, (s.chan ch).ready, some b.ref⟩ := by rw [State.offer_chan, if_pos rfl]
      refine ⟨_, rfl, ?_, ?_, ?_, ?_, ?_, State.dispatch_frame 4 s⟩ <;> rw [hone]
      · exact hmore.keeps hfound (by simp)
      · exact (hmore.chan ch (by simp [hchan])).trans hchan
      · exact hholder'.trans hholder
      · exact hjoin'.trans hjoin
      · exact (s.offer_told b ch).first (State.dispatch_byCalls 3 _ 0).toInner
end

section
/-! SUPPORT. The ready levels of the channels. -/

-- One theorem after another: elaborated side by side, they ask for more thread stacks than the check has memory for.
set_option Elab.async false

namespace Sys2Proof.Machine

/-- The channel's ready level noted (R156). -/
def State.noted (s : State) (ch : ChanId) (b : Bool) : State := s.setChan ch { s.chan ch with ready := b }

theorem State.setChan_setChan (s : State) (ch : ChanId) (x y : Channel) : (s.setChan ch x).setChan ch y = s.setChan ch y := by
  unfold State.setChan
  simp [Vector.set_set]

theorem State.noted_chan (s : State) (ch : ChanId) (b : Bool) (d : ChanId) :
    (s.noted ch b).chan d = if d = ch then { s.chan ch with ready := b } else s.chan d := by
  rw [State.noted, State.chan_setChan]
  by_cases h : d = ch
  · rw [if_pos h, if_pos h.symm]
  · rw [if_neg h, if_neg (Ne.symm h)]

section falls
variable {s : State} {ch : ChanId} (hr : (s.chan ch).ready = true)

theorem State.readyFalls_stands (h : (s.chan ch).ready = false) : s.readyFalls ch = s := if_neg (by simp [h])

include hr

theorem State.readyFalls_free (hst : (s.chan ch).state = .free) : s.readyFalls ch =
    (s.setChan ch ⟨.down, false, (s.chan ch).call⟩).post (.channelState ch .down false .readyLost) := by
  unfold State.readyFalls
  rw [if_pos hr]
  dsimp only
  rw [hst]
  dsimp only
  rw [State.setChan_setChan, State.chan_setChan, if_pos rfl]

theorem State.readyFalls_out (hst : (s.chan ch).state = .out) : s.readyFalls ch = s.setChan ch ⟨.out, false, (s.chan ch).call⟩ := by
  unfold State.readyFalls
  rw [if_pos hr]
  dsimp only
  rw [hst]

theorem State.readyFalls_busy (hst : (s.chan ch).state.busy = true) {r : Nat} {c : Call} (hcall : (s.chan ch).call = some r)
    (hc : s.findCall r = some c) :
    s.readyFalls ch = (((s.noted ch false).loseCall c).post (.channelState ch .down false .readyLost)).finish := by
  unfold State.readyFalls
  rw [if_pos hr]
  dsimp only
  have hbind : (s.chan ch).call.bind s.findCall = some c := by rw [hcall]; exact hc
  rw [hbind]
  split
  · next h =>
    rw [h] at hst
    cases hst
  · rfl
  · rfl
  · rfl
  all_goals
    next h =>
      rw [h] at hst
      cases hst

end falls

section rises
variable {s : State} {ch : ChanId}

theorem State.readyRises_stands (h : (s.chan ch).ready = true) : s.readyRises ch = s := if_pos h

theorem State.readyRises_down (h : (s.chan ch).ready = false) (hst : (s.chan ch).state = .down) : s.readyRises ch =
    ((s.setChan ch ⟨.free, true, (s.chan ch).call⟩).post (.channelState ch .free true .readyRegained)).markDispatch.finish := by
  unfold State.readyRises
  rw [if_neg (by simp [h])]
  dsimp only
  rw [hst]
  dsimp only
  rw [State.setChan_setChan, State.chan_setChan, if_pos rfl]

theorem State.readyRises_noted (h : (s.chan ch).ready = false) (hst : (s.chan ch).state ≠ .down) :
    s.readyRises ch = s.noted ch true := by
  unfold State.readyRises
  rw [if_neg (by simp [h])]
  dsimp only
  split
  · next hd => exact absurd hd hst
  all_goals rfl

end rises

/-! ## The call that a falling level takes from its channel -/

theorem State.loseCall_ringing {s : State} {c : Call} (h : c.state = .ringing) : s.loseCall c = s.endCall c .channelLost := if_pos h

theorem State.loseCall_requeues {s : State} {c : Call} (h : c.state ≠ .ringing) : s.loseCall c = s.requeue c .channelLost := if_neg h

theorem State.loseCall_byCalls (s : State) (c : Call) : s.ByCalls c.sec (s.loseCall c) := by
  unfold State.loseCall
  split
  · exact s.endCall_byCalls c _
  · exact s.requeue_byCalls c _

theorem State.noted_byCalls (s : State) (i : SectionId) (ch : ChanId) (b : Bool) : s.ByCalls i (s.noted ch b) := s.setChan_byCalls i _ _

/-- Either way the call's channel is released. -/
theorem State.loseCall_chan (s : State) (c : Call) (d : ChanId) :
    (s.loseCall c).chan d = if c.channel = some d then (s.chan d).released else s.chan d := by
  by_cases h : c.state = .ringing
  · rw [State.loseCall_ringing h, (s.endCall_ends c .channelLost).chan]
  · rw [State.loseCall_requeues h, (s.requeue_letsGo .channelLost c).chan]

theorem State.requeue_sec (s : State) (c : Call) (e : RequeueCause) :
    (s.sec c.sec).GivenNotice ((s.requeue c e).sec c.sec) ⟨.parked, c.addr, .call c.ref, 0, 0, 0, false⟩ s.silent s.nowMs := by
  have h := (s.freed c (fun x => { x.closeConnected s.seconds with state := .queued, boost := boostAfter x.boost, channel := none,
                                                                   offerTimer := none })
    (.callRequeued c.ref e (boostAfter c.boost) c.channel)).offerNotice_given c.sec c.addr .parked c.ref
  rw [State.freed_sec, (s.freed_told c _ _).silent] at h
  have hnow : (s.freed c (fun x => { x.closeConnected s.seconds with state := .queued, boost := boostAfter x.boost, channel := none,
                                                                     offerTimer := none })
    (.callRequeued c.ref e (boostAfter c.boost) c.channel)).nowMs = s.nowMs := by
    unfold State.freed
    rw [State.post_nowMs]
    exact (State.releaseChannel_byCalls (s.modCall c.ref _) c.sec c.channel).nowMs
  rw [hnow] at h
  exact h

end Sys2Proof.Machine

open Sys2Proof Sys2Proof.Machine

/-- Settles O41: a busy channel carries the call that its reference finds, whose loss is the end of a ring or a requeue, told before
CHANNEL_STATE; the dispatcher's act offers nothing on a channel that is DOWN. -/
theorem readyLevelsMoveChannels : Obligations.ReadyLevelsMoveChannels := by
  unfold Obligations.ReadyLevelsMoveChannels
  rintro s ch _ rfl
  refine ⟨fun hr hst => congrArg Host.Outcome.next (State.readyFalls_free hr hst),
    fun hr hst => congrArg Host.Outcome.next (State.readyFalls_out hr hst), fun hr hlaw hdue r c hcall hc => ?_,
    fun hr hst => congrArg Host.Outcome.next (State.readyRises_down hr hst),
    fun hr hst => congrArg Host.Outcome.next (State.readyRises_noted hr hst),
    fun hr => congrArg Host.Outcome.next (State.readyRises_stands hr),
    fun hr => congrArg Host.Outcome.next (State.readyFalls_stands hr)⟩
  obtain rfl : c.ref = r := (State.mem_of_findCall hc).2
  obtain ⟨hpower, hsw⟩ := s.callLaw_iff.1 hlaw
  obtain ⟨hmem, hch, hmatch⟩ := hsw.carried (ch := ch) (c := c) (by rw [hcall]; exact hc)
  have hlow : (s.noted ch false).Switched := hsw.setReady ch false
  have hlost : ((s.noted ch false).loseCall c).Switched := hlow.loseCall hmem hmatch
  have hd := State.finish_dispatched (hlost.post (.channelState ch .down false .readyLost)).refs
  have hdown : (((s.noted ch false).loseCall c).post (.channelState ch .down false .readyLost)).chan ch = ⟨.down, false, none⟩ := by
    rw [State.chan_post, State.loseCall_chan, if_pos hch, State.noted_chan, if_pos rfl]
    rfl
  have hby := (((s.noted_byCalls c.sec ch false).trans (State.loseCall_byCalls _ c)).trans
    (State.post_byCalls _ c.sec (.channelState ch .down false .readyLost))).trans (State.finish_byCalls _ c.sec)
  have hpost := fun u : State => (u.post_byLine c.sec (.channelState ch .down false .readyLost)).calls
  refine ⟨_, congrArg Host.Outcome.next (State.readyFalls_busy hr (CallState.channelState_busy hmatch) hcall hc), ?_, fun hst => ?_,
    fun hst => ?_, ⟨hby.rx, hby.buffer, hby.resetHeld, hby.poweringUp⟩, ⟨hby.reply, hby.headTaken⟩,
    ⟨hby.mode, hby.globals, hby.seconds, hby.nowMs⟩, ⟨hby.dir, hby.rosters, hby.unresolved⟩, hby.others⟩
  · exact (hd.chan ch (by rw [hdown]; simp)).trans hdown
  · rw [State.loseCall_ringing hst]
    have hends := (s.noted ch false).endCall_ends c .channelLost
    have hquiet : s.Told (s.noted ch false) [] := .quiet
    have hoff : ((s.noted ch false).sec c.sec).power = .off → ((s.noted ch false).sec c.sec).line ≠ .idle := fun ho => by
      have hup := ((hpower c.sec).1 (by rw [show (s.sec c.sec).power = .off from ho]; simp)).1
      rw [show ((s.noted ch false).sec c.sec).line = .down from hup]
      simp
    have htold := (hquiet.afterQuiet ((s.noted ch false).endCall_told c .channelLost hoff)).trans
      (State.post_told _ (.channelState ch .down false .readyLost))
    refine ⟨State.finish_none ?_, ?_, fun hp hl hb => ?_, htold.first (State.finish_inner _)⟩
    · rw [(hpost _).findCall, hends.findCall, if_pos rfl]
    · rw [State.finish_history, (hpost _).2.1, hends.history]
      rfl
    · have hq := State.endCall_secs (s := s.noted ch false) (c := c) .channelLost hp hl hb
      rw [Call.closing_ringing hst] at hq
      rw [State.finish_secs, State.post_secs, hq]
      rfl
  · have hnot : c.state ≠ .ringing := by
      obtain h | h := hst <;> simp [h]
    rw [State.loseCall_requeues hnot] at hd ⊢
    have hfind : (s.noted ch false).findCall c.ref = some c := hc
    have hholds : s.holder c.sec = some c.ref := hsw.holds c hmem (by obtain h | h := hst <;> rw [h] <;> rfl)
    obtain ⟨d, hdf, hboost, _, _⟩ := State.requeue_finish (hpost ((s.noted ch false).requeue c .channelLost)) hfind hlow.refs
    have hquiet : s.Told (s.noted ch false) [] := .quiet
    have htold := (hquiet.afterQuiet ((s.noted ch false).requeue_alters .channelLost hfind).told).trans
      (State.post_told _ (.channelState ch .down false .readyLost))
    rw [hch] at htold
    refine ⟨⟨d, hdf, hboost⟩, State.requeue_holder (hpost _) hlow.refs hfind hholds, ?_, htold.first (State.finish_inner _),
      fun hoff => ?_⟩
    · rw [State.finish_sec, State.sec_post]
      exact (s.noted ch false).requeue_sec c .channelLost
    · have hoff' : (((s.noted ch false).requeue c .channelLost).post (.channelState ch .down false .readyLost)).globals.autoOffer =
          false := by
        rw [State.post_globals, (State.requeue_byCalls _ c _).globals]
        exact hoff
      obtain ⟨hwait, hjoin, _, hothers⟩ := State.requeue_waits (hpost _) hfind hoff'
      refine ⟨hwait, hjoin, hothers, ?_⟩
      rw [State.finish_off hoff']
      exact htold.tells
end

section
/-! SUPPORT. A new call and the call that a full table gives up for it. -/

-- One theorem after another: elaborated side by side, they ask for more thread stacks than the check has memory for.
set_option Elab.async false

namespace Sys2Proof.Machine

/-! ## The place of a new call -/

theorem State.arrive_defn (s : State) (i : SectionId) (w : WakeReason) : ((s.arrive i w).sec i).defn = (s.sec i).defn := by
  unfold State.arrive
  split
  · rw [State.startWake, State.sec_modLine_self]
    rfl
  · rw [State.sec_modSec_self]
  · rw [State.sec_toActive_self]
    rfl
  · rfl
  · rfl

theorem SectionCtl.Worked.defn {x y : SectionCtl} (h : x.Worked y) : y.defn = x.defn := by
  rw [show y = _ from h]

theorem State.offerNotice_defn (s : State) (i : SectionId) (a : Addr) (k : TxnKind) (r : Nat) :
    ((s.offerNotice i a k r).sec i).defn = (s.sec i).defn := by
  by_cases hoff : (s.sec i).power = .off
  · rw [State.offerNotice_off hoff]
  · rw [State.offerNotice_eq hoff, State.enqueue, (State.workArrived_worked _ i).defn, State.modQueue_eq, State.sec_setSec_self]
    exact s.arrive_defn i .call

theorem State.endCall_defn (s : State) (c : Call) (e : EndCause) (i : SectionId) : ((s.endCall c e).sec i).defn = (s.sec i).defn := by
  by_cases hi : i = c.sec
  · subst hi
    have hoffer := (s.retireCall c e).offerNotice_defn c.sec c.addr c.closing c.ref
    rw [State.retireCall_sec] at hoffer
    unfold State.endCall State.freeHeld
    split
    · rw [(State.arbiter_worked _ c.sec).defn, State.releaseHeld_sec, hoffer]
    · rw [State.releaseHeld_sec, hoffer]
  · rw [((s.endCall_byCalls c e).others i hi).1]

theorem State.resolve_congr {s t : State} (hd : t.dir = s.dir) (hr : t.rosters = s.rosters) (i : SectionId) (a : Addr) :
    t.resolve i a = s.resolve i a := by
  unfold State.resolve
  rw [State.entryAt_congr hd hr]

/-- A new call is placed as its slot says (R5, R25, R26, R131). -/
theorem State.newCall_placedBy {s u : State} {i : SectionId} {a : Addr} (hres : u.resolve i a = s.resolve i a)
    (hdefn : (u.sec i).defn = (s.sec i).defn) (dir : CallDirection) (o : CallOrigin) (st : CallState) :
    (u.newCall dir o i a st).PlacedBy s i a := by
  intro d hd
  have hdD : (u.sec i).defnD = d := by rw [SectionCtl.defnD, hdefn, hd]; rfl
  unfold State.newCall
  dsimp only
  rw [hres, hdD]
  refine ⟨fun e he => ?_, fun hnone => ?_⟩
  · have hr : s.resolve i a = ⟨e.post, e.cls, e.cway, some e.offset, some e.service⟩ := by rw [State.resolve, he]
    rw [hr]
    simp [SectionDef.location]
  · have hr : s.resolve i a = ⟨0, .service, .both, none, none⟩ := by rw [State.resolve, hnone]
    rw [hr]
    simp [SectionDef.location]

/-! ## A new record joins the table -/

/-- The record `c` has joined the table (R149, R135). -/
structure State.Adds (s t : State) (c : Call) : Prop where
  found : t.findCall c.ref = some c
  others : ∀ q, q ≠ c.ref → t.findCall q = s.findCall q
  refs : t.RefLaw
  size : t.calls.length = s.calls.length + 1
  history : t.history = s.history
  next : t.nextRef = refAfter c.ref
  chan : ∀ d, t.chan d = s.chan d
  path : ∀ i, t.holder i = s.holder i ∧ t.join i = s.join i
  secs : t.secs = s.secs
  told : s.Told t [c.newTold]

theorem State.addCall_adds {s : State} (h : s.RefLaw) {c : Call} (hfresh : ∀ d ∈ s.calls, d.ref ≠ c.ref)
    (hrange : 1 ≤ c.ref ∧ c.ref ≤ Config.refMax) : s.Adds (s.addCall c) c := by
  have hcalls : (s.addCall c).calls = s.calls ++ [c] := by simp [State.addCall]
  have hnext : (s.addCall c).nextRef = refAfter c.ref := by simp [State.addCall]
  have hnone : s.findCall c.ref = none := by
    rw [State.findCall, List.find?_eq_none]
    exact fun d hd => by simpa using hfresh d hd
  have hfind : ∀ q, (s.addCall c).findCall q = (s.findCall q).or (if c.ref = q then some c else none) := fun q => by
    rw [State.findCall, hcalls, List.find?_append, State.findCall, List.find?_singleton]
    simp
  obtain ⟨hpair, h1, h2, hr⟩ := h
  refine ⟨?_, fun q hq => ?_, ⟨?_, ?_, ?_, fun d hd => ?_⟩, ?_, by simp [State.addCall], hnext, s.chan_addCall c,
    fun i => ⟨s.holder_addCall c i, by simp [State.addCall, State.join]⟩, State.addCall_secs s c, ?_⟩
  · rw [hfind, hnone, if_pos rfl]
    rfl
  · rw [hfind, if_neg (Ne.symm hq), Option.or_none]
  · rw [hcalls, List.pairwise_append]
    exact ⟨hpair, List.pairwise_singleton _ _, fun d hd e he => by
      rw [List.mem_singleton.1 he]
      exact hfresh d hd⟩
  · exact hnext ▸ (refAfter_range c.ref).1
  · exact hnext ▸ (refAfter_range c.ref).2
  · rw [hcalls, List.mem_append] at hd
    obtain hd | hd := hd
    · exact hr d hd
    · exact List.mem_singleton.1 hd ▸ hrange
  · rw [hcalls, List.length_append]
    rfl
  · exact ⟨(s.addCall_byCalls 0 c).silent, (s.addCall_byCalls 0 c).seconds, State.post_events_congr _ rfl rfl rfl⟩

/-! ## The call that a full table gives up -/

theorem State.oldestAbandoned_eq {s : State} (h : s.RefLaw) {v : Call} (hv : s.OldestAbandoned v) : s.oldestAbandoned = some v := by
  obtain ⟨hmem, hst, hfirst⟩ := hv
  refine sortBy_head (sortBy_before_pairwise _) (List.mem_filter.2 ⟨hmem, by simp [hst]⟩) (fun d hd hne hbefore => ?_)
  obtain ⟨hd, hdst⟩ := List.mem_filter.1 hd
  have := hfirst d hd (by simpa using hdst) (fun href => hne (h.unique hd hmem href))
  omega

theorem State.oldestAbandoned_none {s : State} (h : ∀ d ∈ s.calls, d.state ≠ .abandoned) : s.oldestAbandoned = none := by
  have hnil : s.calls.filter (fun c => c.state == .abandoned) = [] :=
    List.filter_eq_nil_iff.2 (fun d hd => by simpa using h d hd)
  rw [State.oldestAbandoned, hnil]
  rfl

/-- One call of the table has its reference, so that the table without it is one shorter. -/
theorem State.RefLaw.filter_length {s : State} (h : s.RefLaw) {c : Call} (hc : c ∈ s.calls) :
    (s.calls.filter (fun x => x.ref != c.ref)).length + 1 = s.calls.length := by
  have hnodup : (s.calls.map Call.ref).Nodup := List.pairwise_map.2 h.1
  have hone : (s.calls.map Call.ref).count c.ref = 1 := List.count_eq_one_of_mem hnodup (List.mem_map_of_mem hc)
  have hcount : s.calls.countP (fun x => x.ref == c.ref) = 1 := by
    rw [← hone, List.count, List.countP_map]
    rfl
  have hsplit := List.length_eq_countP_add_countP (fun x => x.ref == c.ref) (l := s.calls)
  have hfilter : (s.calls.filter (fun x => x.ref != c.ref)).length = s.calls.countP (fun x => !(x.ref == c.ref)) :=
    List.countP_eq_length_filter.symm
  rw [hfilter]
  simp only [Bool.not_eq_true, Bool.decide_eq_false] at hsplit
  omega

/-- What the eviction of the ABANDONED call `v` leaves (R139): it held neither a channel nor a path, so that its closing notice is all
that its section gets. -/
structure State.Evicted (s t : State) (v : Call) : Prop extends State.Ends s t v .dismissedAuto where
  switched : t.Switched
  size : t.calls.length + 1 = s.calls.length
  told : s.Told t [s.evictTold v]
  given : (s.sec v.sec).GivenNotice (t.sec v.sec) ⟨.clear, v.addr, .call v.ref, 0, 0, 0, false⟩ s.silent s.nowMs
  chans : ∀ d, t.chan d = s.chan d
  holders : ∀ i, t.holder i = s.holder i
  defn : ∀ i, (t.sec i).defn = (s.sec i).defn
  byCalls : s.ByCalls v.sec t

theorem State.endCall_evicts {s : State} (h : s.CallLaw) {v : Call} (hv : v ∈ s.calls) (hst : v.state = .abandoned) :
    s.Evicted (s.endCall v .dismissedAuto) v := by
  obtain ⟨hpower, hsw⟩ := s.callLaw_iff.1 h
  have hends := s.endCall_ends v .dismissedAuto
  have hchannel : v.channel = none := hsw.channel_none hv (by rw [hst]; rfl)
  have hheld : s.holder v.sec ≠ some v.ref := hsw.not_held hv hst
  have hclosing : v.closing = .clear := if_neg (by rw [hst]; simp)
  refine ⟨hends, hsw.endCall hv _, ?_, ?_, ?_, fun d => ?_, fun i => ?_, s.endCall_defn v _, s.endCall_byCalls v _⟩
  · rw [hends.calls]
    exact hsw.refs.filter_length hv
  · refine s.endCall_told v .dismissedAuto (fun ho => ?_)
    rw [((hpower v.sec).1 (by rw [ho]; simp)).1]
    simp
  · have hgiven := (s.retireCall v .dismissedAuto).offerNotice_given v.sec v.addr v.closing v.ref
    have hheld' : ((s.retireCall v .dismissedAuto).offerNotice v.sec v.addr v.closing v.ref).holder v.sec ≠ some v.ref := by
      rw [(State.offerNotice_calls _ _ _ _ _).holder, ((s.calls_retireCall v .dismissedAuto).2.2.2.2 v.sec).1]
      exact hheld
    rw [State.retireCall_sec, (s.retireCall_told v .dismissedAuto).silent, (s.retireCall_byCalls 0 v .dismissedAuto).nowMs] at hgiven
    unfold State.endCall State.freeHeld
    rw [if_neg hheld', State.releaseHeld_sec]
    rwa [hclosing] at hgiven ⊢
  · rw [hends.chan, hchannel, if_neg (by simp)]
  · rw [hends.holder, if_neg (fun hh => hheld hh.2)]

/-! ## A notice is not lost -/

theorem mem_joinNotice (t : Txn) (q : List Txn) : t ∈ joinNotice t q := by
  unfold joinNotice
  split
  · next h =>
    obtain ⟨u, hu, hp⟩ := List.any_eq_true.1 h
    exact List.mem_map.2 ⟨u, hu, if_pos hp⟩
  · simp

theorem State.startMeasure_queue (s : State) (i : SectionId) : ((s.startMeasure i).sec i).queue = (s.sec i).queue := by
  cases hg : (s.sec i).slot with
  | some g => exact (State.startMeasure_spec hg).2.2.2.1
  | none => rw [State.startMeasure, hg]

/-- What waits in a queue waits there after the arbiter's act, or has been sent. -/
theorem State.arbiter_keeps {s : State} {i : SectionId} {t : Txn} (h : t ∈ (s.sec i).queue) :
    t ∈ ((s.arbiter i).sec i).queue ∨ ((s.arbiter i).sec i).inFlight = some t := by
  unfold State.arbiter
  split
  · split
    · exact Or.inl h
    · split
      · exact Or.inl (s.startMeasure_queue i ▸ h)
      · split
        · exact Or.inl h
        · split
          · next u q hq =>
            rw [hq] at h
            have hsec : ((s.modSec i (fun x => { x with queue := q })).sendAttempt i u).sec i =
                (({ s.sec i with queue := q } : SectionCtl).withAttempt s.silent s.nowMs u).retime s.nowMs := by
              rw [State.sec_sendAttempt, State.sec_modSec_self]
              rfl
            rw [hsec]
            exact (List.mem_cons.1 h).elim (fun he => Or.inr (he ▸ rfl)) Or.inl
          · next hq =>
            rw [hq] at h
            cases h
  · split
    · exact Or.inl (s.startMeasure_queue i ▸ h)
    · exact Or.inl h
  all_goals exact Or.inl h

/-- A call notice that is given to a section in service waits in its queue or is in flight (R75). -/
theorem State.offerNotice_lands {s : State} {i : SectionId} (h : (s.sec i).power ≠ .off) (a : Addr) (k : TxnKind) (r : Nat) :
    ⟨k, a, .call r, 0, 0, 0, false⟩ ∈ ((s.offerNotice i a k r).sec i).queue ∨
      ((s.offerNotice i a k r).sec i).inFlight = some ⟨k, a, .call r, 0, 0, 0, false⟩ := by
  have hq : ⟨k, a, .call r, 0, 0, 0, false⟩ ∈ (((s.arrive i .call).modQueue i (joinNotice (.fresh k a (.call r)))).sec i).queue := by
    rw [State.modQueue_eq, State.sec_setSec_self]
    exact mem_joinNotice _ _
  rw [State.offerNotice_eq h, State.enqueue, State.workArrived]
  split
  · exact State.arbiter_keeps hq
  · exact Or.inl hq

end Sys2Proof.Machine
end

section
/-! SUPPORT. CALL POST: a call that rings. -/

-- One theorem after another: elaborated side by side, they ask for more thread stacks than the check has memory for.
set_option Elab.async false

namespace Sys2Proof.Machine

/-! ## A call rings -/

/-- A call as RINGING on a channel (R172). -/
def Call.rung (c : Call) (ch : ChanId) (s : State) : Call :=
  { c with direction := .outbound, state := .ringing, channel := some ch,
           ringTimer := some ⟨s.nowMs, 1000 * s.globals.ringTimeout⟩ }

/-- What a ring leaves, the dispatcher's act at the end of the operation with it (R172). -/
structure State.Rings (s t : State) (c : Call) (ch : ChanId) : Prop where
  found : t.findCall c.ref = some (c.rung ch s)
  none : ∀ q, q ≠ c.ref → s.findCall q = none → t.findCall q = none
  size : t.calls.length = s.calls.length
  chan : t.chan ch = ⟨.ringing, (s.chan ch).ready, some c.ref⟩
  holder : t.holder c.sec = some c.ref
  join : t.join c.sec = .nothing
  history : t.history = s.history
  next : t.nextRef = s.nextRef
  full : t.fullEpisode = s.fullEpisode
  lands : (⟨.ring, c.addr, .call c.ref, 0, 0, 0, false⟩ ∈ (t.sec c.sec).queue ∨
    (t.sec c.sec).inFlight = some ⟨.ring, c.addr, .call c.ref, 0, 0, 0, false⟩)
  given : (s.sec c.sec).GivenNotice (t.sec c.sec) ⟨.ring, c.addr, .call c.ref, 0, 0, 0, false⟩ s.silent s.nowMs
  byCalls : s.ByCalls c.sec t

section ring
variable (s : State) (c : Call) (ch : ChanId)

theorem State.ring_eq : s.ring c ch =
    (s.putOn c (fun x => x.rung ch s) ch .ringing .nothing).offerNotice c.sec c.addr .ring c.ref := rfl

theorem State.ring_alters (hc : s.findCall c.ref = some c) : s.Alters (s.ring c ch) (c.rung ch s) [] :=
  (s.putOn_alters ch .ringing .nothing (f := fun x => x.rung ch s) (fun _ => rfl) hc).offered c.sec c.addr .ring c.ref

theorem State.ring_takes : s.Takes (s.ring c ch) c ch .ringing .nothing :=
  (s.putOn_takes ch .ringing .nothing).same (State.offerNotice_calls _ _ _ _ _)

theorem State.ring_size : (s.ring c ch).calls.length = s.calls.length := by
  rw [State.ring_eq, (State.offerNotice_calls _ _ _ _ _).1]
  exact List.length_map _

theorem State.ring_rings (h : s.RefLaw) (hc : s.findCall c.ref = some c) (hon : (s.sec c.sec).power ≠ .off) :
    s.Rings (s.ring c ch).finish c ch := by
  obtain ⟨hfound, hothers, hrefs, hhist, hnext, hfull, _⟩ := s.ring_alters c ch hc
  obtain ⟨hchan, hholder, hjoin⟩ := s.ring_takes c ch
  have hd := State.finish_dispatched (hrefs h)
  have hch : (s.ring c ch).chan ch = ⟨.ringing, (s.chan ch).ready, some c.ref⟩ := (hchan ch).trans (if_pos rfl)
  have hho : (s.ring c ch).holder c.sec = some c.ref := (hholder c.sec).trans (if_pos rfl)
  obtain ⟨hho', hjo', _⟩ := hd.path c.sec (State.not_eligible_of_held (hrefs h) hho hfound (by simp [Call.rung]))
  refine ⟨hd.keeps hfound (by simp [Call.rung]), fun q hq hn => State.finish_none ((hothers q hq).trans hn),
    (s.ring c ch).finish_offers.size.trans (s.ring_size c ch), (hd.chan ch (by simp [hch])).trans hch, hho'.trans hho,
    hjo'.trans ((hjoin c.sec).trans (if_pos rfl)), (State.finish_history _).trans hhist, (State.finish_nextRef _).trans hnext,
    (State.finish_fullEpisode _).trans hfull, ?_, ?_, (s.ring_byCalls c ch).trans (State.finish_byCalls _ c.sec)⟩
  · rw [State.finish_sec, State.ring_eq]
    exact State.offerNotice_lands (s := s.putOn c (fun x => x.rung ch s) ch .ringing .nothing) hon c.addr .ring c.ref
  · rw [State.finish_sec, State.ring_eq]
    exact State.offerNotice_given (s.putOn c (fun x => x.rung ch s) ch .ringing .nothing) c.sec c.addr .ring c.ref

/-- A ring of a call on a section that is not in SETTLING brings no occasion for the dispatcher. -/
theorem State.ring_idle (hd : s.dispatchDue = false) (hp : ∀ part, (s.sec c.sec).power ≠ .settling part) :
    (s.ring c ch).finish = s.ring c ch :=
  State.finish_idle ((State.offerNotice_due (s := s.putOn c (fun x => x.rung ch s) ch .ringing .nothing) hp _ _ _).trans hd)

end ring

/-! ## A new call rings -/

/-- What a new OUTBOUND call leaves (R172): `c` is its record. -/
structure State.RingsNew (s t : State) (i : SectionId) (a : Addr) (c : Call) (ch : ChanId) : Prop where
  record : c = (s.newCall .outbound .host i a .ringing).rung ch s
  fresh : ∀ d ∈ s.calls, d.ref ≠ c.ref
  range : c.ref ≤ Config.refMax
  rings : (s.addCall (s.newCall .outbound .host i a .ringing)).Rings t (s.newCall .outbound .host i a .ringing) ch
  told : ∃ bs, s.Told t (c.newTold :: bs)
  adds : s.Adds (s.addCall (s.newCall .outbound .host i a .ringing)) (s.newCall .outbound .host i a .ringing)

theorem State.ringNew_eq (s : State) (i : SectionId) (a : Addr) (ch : ChanId) : s.ringNew i a ch =
    (((s.addCall (s.newCall .outbound .host i a .ringing)).ring (s.newCall .outbound .host i a .ringing) ch).finish, .ok,
      .ringing s.newRef true) := rfl

theorem State.ringNew_rings {s : State} (h : s.RefLaw) (hroom : s.calls.length < Config.callDepth) {i : SectionId}
    (hon : (s.sec i).power ≠ .off) (a : Addr) (ch : ChanId) :
    s.RingsNew (s.ringNew i a ch).1 i a ((s.newCall .outbound .host i a .ringing).rung ch s) ch := by
  obtain ⟨hfresh, hlow, hhigh⟩ := h.newRef_spec hroom.le
  have hadds := State.addCall_adds h (c := s.newCall .outbound .host i a .ringing) hfresh ⟨hlow, hhigh⟩
  have hon' : ((s.addCall (s.newCall .outbound .host i a .ringing)).sec i).power ≠ .off := by
    rw [State.sec, hadds.secs]
    exact hon
  have hrings := State.ring_rings _ (s.newCall .outbound .host i a .ringing) ch hadds.refs hadds.found hon'
  refine ⟨rfl, hfresh, hhigh, hrings, ?_, hadds⟩
  obtain ⟨bs, hbs⟩ := hrings.byCalls.toInner.told'
  exact ⟨bs, hadds.told.trans hbs⟩

theorem State.rung_addCall (s : State) (c d : Call) (ch : ChanId) : c.rung ch (s.addCall d) = c.rung ch s := by
  unfold Call.rung State.addCall
  simp

theorem refAfter_eq {r : Nat} (h : r ≤ Config.refMax) : refAfter r = if r = 65535 then 1 else r + 1 := by
  have hmax : Config.refMax = 65535 := rfl
  rw [hmax] at h
  unfold refAfter
  rw [hmax]
  split <;> split <;> omega

/-- The new call, as the statement says it of the state `s` that the request found; `u` is that state, or the one that has given up a
call for it. -/
theorem State.RingsNew.call {s u t : State} {i : SectionId} {a : Addr} {c : Call} {ch : ChanId} (h : u.RingsNew t i a c ch)
    (hsec : u.seconds = s.seconds) (hnow : u.nowMs = s.nowMs) (hglob : u.globals = s.globals) (hchan : u.chan ch = s.chan ch)
    (hres : u.resolve i a = s.resolve i a) (hdefn : (u.sec i).defn = (s.sec i).defn) :
    t.findCall c.ref = some c ∧ c.direction = .outbound ∧ c.origin = .host ∧ c.sec = i ∧ c.addr = a ∧ c.state = .ringing ∧
      c.arrival = s.seconds ∧ c.boost = 0 ∧ c.channel = some ch ∧ c.connectedTotal = 0 ∧
      c.ringTimer = some ⟨s.nowMs, 1000 * s.globals.ringTimeout⟩ ∧ c.PlacedBy s i a ∧
      t.nextRef = (if c.ref = 65535 then 1 else c.ref + 1) ∧ t.chan ch = ⟨.ringing, (s.chan ch).ready, some c.ref⟩ ∧
      t.holder i = some c.ref ∧ t.join i = .nothing ∧
      (⟨.ring, a, .call c.ref, 0, 0, 0, false⟩ ∈ (t.sec i).queue ∨
        (t.sec i).inFlight = some ⟨.ring, a, .call c.ref, 0, 0, 0, false⟩) := by
  obtain ⟨rfl, _, hrange, hrings, _, hadds⟩ := h
  have hfound := hrings.found
  rw [State.rung_addCall] at hfound
  have hplace : (u.newCall .outbound .host i a .ringing).PlacedBy s i a := State.newCall_placedBy hres hdefn .outbound .host .ringing
  refine ⟨hfound, rfl, rfl, rfl, rfl, rfl, hsec, rfl, rfl, rfl, ?_, hplace,
    (hrings.next.trans hadds.next).trans (refAfter_eq hrange), ?_, hrings.holder, hrings.join, hrings.lands⟩
  · rw [← hnow, ← hglob]
    rfl
  · rw [← hchan, ← hadds.chan]
    exact hrings.chan

/-! ## The owner -/

section callPost
variable {s : State} {p n : Nat} {k : Fin 2} {e : PostEntry} {named : Option ChanId}

theorem State.callPostAct_found (h1 : 1 ≤ p) (h2 : p ≤ 59999) (hl : s.lookup p = some (k, e)) (hn : optChanOf n = some named) :
    s.callPostAct p n = if (s.sec e.sec).power = .off then s.refuse .sectionOff else s.callEntry e named := by
  unfold State.callPostAct
  rw [hn]
  exact s.onPost_found _ h1 h2 hl

theorem State.callEntry_has {c : Call} (hc : s.callAt e.sec e.addr = some c) (hst : c.state ≠ .abandoned) :
    s.callEntry e named = (s, .postHasCall, .callRef c.ref) := by
  rw [State.callEntry, hc]
  exact if_neg hst

theorem State.callEntry_held (h : ∀ c, s.callAt e.sec e.addr = some c → c.state = .abandoned) (hh : s.holder e.sec ≠ none) :
    s.callEntry e named = s.refuse .pathBusy := by
  have hsome : (s.holder e.sec).isSome = true := Option.isSome_iff_ne_none.2 hh
  unfold State.callEntry
  split
  · next c hc => rw [if_pos (h c hc), if_pos hsome]
  · rw [if_pos hsome]

theorem State.callEntry_refused (h : ∀ c, s.callAt e.sec e.addr = some c → c.state = .abandoned) (hh : s.holder e.sec = none)
    {er : Status} (hch : s.chooseChannel named = .error er) : s.callEntry e named = s.refuse er := by
  unfold State.callEntry
  rw [hh, hch]
  split
  · next c hc => exact if_pos (h c hc)
  · rfl

theorem State.callEntry_rings {c : Call} {ch : ChanId} (hc : s.callAt e.sec e.addr = some c) (hst : c.state = .abandoned)
    (hh : s.holder e.sec = none) (hch : s.chooseChannel named = .ok ch) :
    s.callEntry e named = ((s.ring c ch).finish, .ok, .ringing c.ref false) := by
  rw [State.callEntry, hc]
  dsimp only
  rw [if_pos hst, hh, hch]
  rfl

theorem State.callEntry_new {ch : ChanId} (hc : s.callAt e.sec e.addr = none) (hh : s.holder e.sec = none)
    (hch : s.chooseChannel named = .ok ch) : s.callEntry e named =
      if s.calls.length < Config.callDepth then s.ringNew e.sec e.addr ch
      else match s.oldestAbandoned with
        | some v => (s.endCall v .dismissedAuto).ringNew e.sec e.addr ch
        | none => s.refuse .tableFull := by
  rw [State.callEntry, hc, hh, hch]
  rfl

end callPost

end Sys2Proof.Machine

open Sys2Proof Sys2Proof.Machine

/-- Settles O42: one ring, of a new record or of the post's ABANDONED call; the record joins the table as it is, or the table without
the call that it gives up. -/
theorem callPostRingsThePost : Obligations.CallPostRingsThePost := by
  unfold Obligations.CallPostRingsThePost
  rintro h p n s k e f rfl ha hn h1 h2 hl
  obtain ⟨named, hnamed⟩ := optChanOf_named hn
  generalize hf : (⟨.callPost, h, byte2 p ++ byte1 n, 3⟩ : RequestForm) = f at ha
  have hown := State.callPostAct_found (s := s.taking f) (named := named) h1 h2 hl hnamed
  have hexec : ∀ (t : State) (st : Status) (b : ReplyBody), (s.taking f).callPostAct p n = (t, st, b) →
      exec (.callPost h p n) s = .next (t.replied f st b) := fun t st b hact => exec_of_act (by rw [← hf]; rfl) ha hact
  refine ⟨fun hoff => hexec _ _ _ (hown.trans (if_pos hoff)), fun hon => ?_⟩
  have hentry : ∀ (t : State) (st : Status) (b : ReplyBody), (s.taking f).callEntry e named = (t, st, b) →
      exec (.callPost h p n) s = .next (t.replied f st b) := fun t st b hact => hexec _ _ _ ((hown.trans (if_neg hon)).trans hact)
  refine ⟨fun c hc hst => hentry _ _ _ (State.callEntry_has (s := s.taking f) hc hst),
    fun hall hh => hentry _ _ _ (State.callEntry_held (s := s.taking f) hall hh),
    fun hall hh => ⟨fun hff hbusy => ?_, fun d hd hbusy => ?_⟩, fun ch hh hfor => ?_⟩
  · subst hff
    obtain rfl : none = named := Option.some.inj hnamed
    exact hentry _ _ _ (State.callEntry_refused (s := s.taking f) hall hh (State.chooseChannel_none (s := s.taking f) hbusy))
  · subst hd
    obtain rfl : some d = named := Option.some.inj ((optChanOf_val d).symm.trans hnamed)
    exact hentry _ _ _ (State.callEntry_refused (s := s.taking f) hall hh (State.chooseChannel_busy (s := s.taking f) hbusy))
  · obtain ⟨named', hnamed', hok⟩ := hfor.chosen
    obtain rfl : named' = named := Option.some.inj (hnamed'.symm.trans hnamed)
    have hok' : (s.taking f).chooseChannel named' = .ok ch := hok
    refine ⟨fun hc hfull hnone => ?_, fun hc hrefs hlaw hroom => ?_, fun c hc hst hrefs => ?_⟩
    · refine hentry (s.taking f) .tableFull .nothing ((State.callEntry_new (s := s.taking f) hc hh hok').trans ((if_neg ?_).trans ?_))
      · exact Nat.not_lt.2 hfull
      · rw [State.oldestAbandoned_none (s := s.taking f) hnone]
        rfl
    · by_cases hlt : s.calls.length < 32
      · have hact : (s.taking f).callEntry e named' = (s.taking f).ringNew e.sec e.addr ch :=
          (State.callEntry_new (s := s.taking f) hc hh hok').trans (if_pos hlt)
        have hnew := State.ringNew_rings (s := s.taking f) (hrefs hlt) hlt (i := e.sec) hon e.addr ch
        have hby : (s.taking f).ByCalls e.sec ((s.taking f).ringNew e.sec e.addr ch).1 :=
          ((s.taking f).addCall_byCalls e.sec _).trans hnew.rings.byCalls
        obtain ⟨hlink, hset, hdir, hoth⟩ := hby.ofRequest rfl
        have hgiven := hnew.rings.given
        rw [State.sec, hnew.adds.secs, hnew.adds.told.silent, ((s.taking f).addCall_byCalls e.sec _).nowMs] at hgiven
        obtain ⟨hfound, hdirn, horg, hsec, haddr, hst, harr, hboost, hchn, htot, htm, hplace, hnext, hchan, hhold, hjoin, hland⟩ :=
          hnew.call (s := s) rfl rfl rfl rfl rfl rfl
        obtain ⟨bs, hbs⟩ := hnew.told
        have htold : s.Told _ _ := State.Told.afterQuiet (t := s.taking f) .quiet hbs
        exact ⟨((s.taking f).ringNew e.sec e.addr ch).1, ((s.taking f).newCall .outbound .host e.sec e.addr .ringing).rung ch (s.taking f),
          hentry _ _ _ hact, hfound, hdirn, horg, hsec, haddr, hst, harr, hboost, hchn, htot, htm, hplace, hnext, hchan, hhold,
          hjoin, hland, fun _ => ⟨hnew.fresh, ⟨bs, htold.tells⟩, hnew.rings.history.trans hnew.adds.history, hgiven, hoth⟩,
          fun v hfull => absurd hlt (Nat.not_lt.2 hfull), hlink, hset, hdir⟩
      · have hfull : 32 ≤ s.calls.length := Nat.not_lt.1 hlt
        obtain ⟨v, hv⟩ := hroom.resolve_left hlt
        have hsw := (s.callLaw_iff.1 (hlaw hfull)).2
        have hold : (s.taking f).oldestAbandoned = some v := State.oldestAbandoned_eq hsw.refs hv
        have hev := State.endCall_evicts (s := s.taking f) (hlaw hfull) hv.1 hv.2.1
        have hlt' : ((s.taking f).endCall v .dismissedAuto).calls.length < Config.callDepth := by
          have hsize : ((s.taking f).endCall v .dismissedAuto).calls.length + 1 = s.calls.length := hev.size
          have hmax : s.calls.length ≤ Config.callDepth := hsw.size.1
          omega
        have hon' : (((s.taking f).endCall v .dismissedAuto).sec e.sec).power ≠ .off :=
          ((s.taking f).endCall_stays v .dismissedAuto |>.power e.sec).ne_off hon
        have hact : (s.taking f).callEntry e named' = ((s.taking f).endCall v .dismissedAuto).ringNew e.sec e.addr ch := by
          refine (State.callEntry_new (s := s.taking f) hc hh hok').trans ((if_neg hlt).trans ?_)
          rw [hold]
        generalize hu : (s.taking f).endCall v .dismissedAuto = u at hact hev hlt' hon'
        have hnew := State.ringNew_rings hev.switched.refs hlt' (i := e.sec) hon' e.addr ch
        have hin : (s.taking f).Inner (u.ringNew e.sec e.addr ch).1 :=
          (hev.byCalls.toInner.trans (u.addCall_byCalls e.sec _).toInner).trans hnew.rings.byCalls.toInner
        have hdir : (u.ringNew e.sec e.addr ch).1.dir = s.dir :=
          hnew.rings.byCalls.dir.trans ((u.addCall_byCalls e.sec _).dir.trans hev.byCalls.dir)
        have hres : u.resolve e.sec e.addr = s.resolve e.sec e.addr := State.resolve_congr hev.byCalls.dir hev.byCalls.rosters _ _
        obtain ⟨hfound, hdirn, horg, hsec, haddr, hst, harr, hboost, hchn, htot, htm, hplace, hnext, hchan, hhold, hjoin, hland⟩ :=
          hnew.call (s := s) hev.byCalls.seconds hev.byCalls.nowMs hev.byCalls.globals (hev.chans ch) hres (hev.defn e.sec)
        refine ⟨(u.ringNew e.sec e.addr ch).1, (u.newCall .outbound .host e.sec e.addr .ringing).rung ch u, hentry _ _ _ hact, hfound, hdirn, horg, hsec, haddr, hst, harr, hboost, hchn, htot, htm, hplace, hnext, hchan, hhold,
          hjoin, hland, fun hlt2 => absurd hlt2 hlt, fun w _ hw => ?_, ⟨hin.rx, hin.buffer, hin.resetHeld, hin.poweringUp⟩,
          ⟨hin.mode, hin.globals, hin.seconds, hin.nowMs⟩, ⟨hdir, hin.rosters, hin.unresolved⟩⟩
        obtain rfl : w = v := Option.some.inj ((State.oldestAbandoned_eq hsw.refs hw).symm.trans hold)
        have hplace' := State.callAt_none hc w hv.1
        refine ⟨fun d hd hne => hnew.fresh d ?_, ?_, ⟨fun d hd => ?_, ?_, ?_, ?_, fun hne => ?_⟩, fun hne => ?_⟩
        · rw [hev.calls, List.mem_filter]
          exact ⟨hd, by simpa using hne⟩
        · obtain ⟨bs, hbs⟩ := hnew.told
          have htold : s.Told _ _ := State.Told.afterQuiet (t := s.taking f) .quiet (hev.told.trans hbs)
          exact ⟨bs, htold.tells⟩
        · by_cases href : w.ref = u.newRef
          · have hd' : d = _ := Option.some.inj (hd.symm.trans ((congrArg _ href).trans hfound))
            rw [hd', hsec, haddr]
            exact fun hp => hplace' ⟨hp.1.symm, hp.2.symm⟩
          · rw [hnew.rings.none w.ref href ((hnew.adds.others w.ref href).trans (by rw [hev.findCall, if_pos rfl]))] at hd
            cases hd
        · exact (hnew.rings.size.trans hnew.adds.size).trans hev.size
        · exact (hnew.rings.history.trans hnew.adds.history).trans hev.history
        · rw [hnew.rings.full]
          have haddfull : (u.addCall (u.newCall .outbound .host e.sec e.addr .ringing)).fullEpisode = u.fullEpisode := by
            simp [State.addCall]
          exact haddfull.trans hev.full
        · have hsame : ((u.ringNew e.sec e.addr ch).1.sec w.sec) = u.sec w.sec := by
            rw [(hnew.rings.byCalls.others w.sec hne).1, State.sec, hnew.adds.secs]
            rfl
          rw [hsame]
          exact hev.given
        · have hgiven := hnew.rings.given
          rw [State.sec, hnew.adds.secs, hnew.adds.told.silent, (u.addCall_byCalls e.sec _).nowMs] at hgiven
          have hsame : u.sec e.sec = s.sec e.sec := (hev.byCalls.others e.sec (Ne.symm hne)).1
          have hgiven' : (u.sec e.sec).GivenNotice _ _ u.silent u.nowMs := hgiven
          rw [hsame, hev.told.silent, hev.byCalls.nowMs] at hgiven'
          exact hgiven'
    · have hact := State.callEntry_rings (s := s.taking f) (e := e) hc hst hh hok'
      obtain ⟨hcs, hca⟩ := s.callAt_sec hc
      have hfind : (s.taking f).findCall c.ref = some c := State.RefLaw.findCall hrefs (State.mem_of_callAt hc)
      have hrings := State.ring_rings (s.taking f) c ch hrefs hfind (by rw [hcs]; exact hon)
      obtain ⟨hlink, hset, hdir, hoth⟩ := hrings.byCalls.ofRequest (f := f) rfl
      have hevents : s.dispatchDue = false → (∀ part, (s.sec e.sec).power ≠ .settling part) →
          ((s.taking f).ring c ch).finish.events = s.events := fun hd hp => by
        rw [State.ring_idle (s.taking f) c ch hd (by rw [hcs]; exact hp)]
        exact ((s.taking f).ring_alters c ch hfind).told.events
      obtain ⟨hfound, _, _, hchan, hhold, hjoin, hhist, hnext, _, hland, hgiven, _⟩ := hrings
      rw [hcs] at hhold hjoin hland hgiven hoth
      rw [hca] at hland hgiven
      exact ⟨_, hentry _ _ _ hact, hfound, hchan, hhold, hjoin, hnext, hhist, hland, hgiven, hevents, hlink, hset, hdir, hoth⟩
end

section
/-! SUPPORT. A transaction leaves the line and what follows: rest, the queue's head, or its return to its queue. -/

-- One theorem after another: elaborated side by side, they ask for more thread stacks than the check has memory for.
set_option Elab.async false

namespace Sys2Proof.Machine

/-! ## The line returns to IDLE -/

/-- The line of section `i` rests in IDLE, with nothing told (R68). -/
structure State.Rests (s t : State) (i : SectionId) : Prop where
  line : (t.sec i).line = .idle
  exch : (t.sec i).exch = .quiet
  inFlight : (t.sec i).inFlight = none
  idleSince : (t.sec i).idleSince = some s.nowMs
  events : t.events = s.events
  ltu : t.ltu = s.ltu
  byLine : s.ByLine i t

/-- The line of section `i` has left IDLE at once with an attempt of `q`, and `qs` waits (R68, R73). -/
structure State.GoesOn (s t : State) (i : SectionId) (q : Txn) (qs : List Txn) : Prop where
  sends : (s.sec i).Sends (t.sec i) q s.nowMs
  queue : (t.sec i).queue = qs
  idleSince : (t.sec i).idleSince = some s.nowMs
  events : t.events = s.events
  ltu : t.ltu = s.ltu
  byLine : s.ByLine i t

section enters
variable {s : State} {i : SectionId} (hpend : (s.sec i).pendingTiming = none)
include hpend

theorem State.enterIdle_byLine : s.ByLine i (s.enterIdle i) :=
  (s.settleIdle_byLine i hpend).1.trans (State.arbiter_byLine _ i)

theorem State.enterIdle_rests (hin : (s.sec i).inFlight = none) (hslot : (s.sec i).slot = none) (hq : (s.sec i).queue = [])
    (hr : (s.sec i).round = none) : s.Rests (s.enterIdle i) i := by
  obtain ⟨hby, he, hltu⟩ := s.settleIdle_byLine i hpend
  obtain ⟨hl, _, hin', _, _, hex⟩ := (s.sec_settleIdle i).held
  have hsince := (s.enterIdle_settled i).1
  rw [State.enterIdle_nothing (State.measureRunnable_none hslot) hq hr] at hsince ⊢
  exact ⟨hl, hex, hin'.trans hin, hsince, he, hltu, hby⟩

theorem State.enterIdle_goesOn (hslot : (s.sec i).slot = none) (hp : (s.sec i).pairFree = true) (hs : s.silent = false) {t : Txn}
    {q : List Txn} (hq : (s.sec i).queue = t :: q) : s.GoesOn (s.enterIdle i) i t q := by
  obtain ⟨_, he, hltu⟩ := s.settleIdle_byLine i hpend
  obtain ⟨hsend, hq', he', hltu', _⟩ := State.enterIdle_sends hp (State.measureRunnable_none hslot) hs hq
  exact ⟨hsend, hq', (s.enterIdle_settled i).1, he'.trans he, hltu'.trans hltu, State.enterIdle_byLine hpend⟩

end enters

/-! ## A transaction leaves the line -/

/-- The section with nothing in flight. -/
def SectionCtl.landed (x : SectionCtl) : SectionCtl := { x with inFlight := none, exch := .quiet }

theorem State.sec_clearFlight_self (s : State) (i : SectionId) : (s.clearFlight i).sec i = (s.sec i).landed.retime s.nowMs := by
  rw [State.sec_clearFlight, if_pos rfl]
  rfl

section succeeds
variable {s : State} {i : SectionId} (hpend : (s.sec i).pendingTiming = none)
include hpend

theorem State.succeed_rests (hslot : (s.sec i).slot = none) (hq : (s.sec i).queue = []) (hr : (s.sec i).round = none) :
    s.Rests (s.succeed i) i := by
  have hsec := s.sec_clearFlight_self i
  obtain ⟨h1, h2, h3, h4, h5, h6, h7⟩ := State.enterIdle_rests (s := s.clearFlight i) (i := i) (by rw [hsec]; exact hpend)
    (by rw [hsec]; rfl) (by rw [hsec]; exact hslot) (by rw [hsec]; exact hq) (by rw [hsec]; exact hr)
  exact ⟨h1, h2, h3, h4, h5, h6, (s.clearFlight_byLine i).trans h7⟩

theorem State.succeed_goesOn (hslot : (s.sec i).slot = none) (hp : (s.sec i).pairFree = true) (hs : s.silent = false) {t : Txn}
    {q : List Txn} (hq : (s.sec i).queue = t :: q) : s.GoesOn (s.succeed i) i t q := by
  have hsec := s.sec_clearFlight_self i
  obtain ⟨hsend, h2, h3, h4, h5, h6⟩ := State.enterIdle_goesOn (s := s.clearFlight i) (i := i) (by rw [hsec]; exact hpend)
    (by rw [hsec]; exact hslot) (by rw [hsec]; exact hp) hs (by rw [hsec]; exact hq)
  refine ⟨⟨hsend.line, hsend.inFlight, hsend.exch.trans ?_⟩, h2, h3, h4, h5, (s.clearFlight_byLine i).trans h6⟩
  rw [hsec]
  rfl

end succeeds

/-! ## The transaction held after a yield -/

section yielded
variable {s : State} {i : SectionId} {q : Txn}

theorem State.endForeign_none (h : (s.sec i).inFlight = none) : s.endForeign i = s.succeed i := by
  rw [State.endForeign, State.returnYielded, h]
  rfl

/-- With no newer entry for its address the transaction returns to the head of its queue (R78). -/
theorem State.returnTxn_head {t : Txn} (hk : t.kind ≠ .poll) (hq : ∀ u ∈ (s.sec i).queue, u.addr ≠ t.addr) :
    s.returnTxn i t = s.modQueue i (t :: ·) := by
  have hnone : ∀ p : Txn → Bool, (s.sec i).queue.any (fun u => p u && u.addr == t.addr) = false := fun p => by
    rw [List.any_eq_false]
    intro u hu
    simp [hq u hu]
  rw [State.returnTxn, if_neg hk, State.modQueue_eq, State.modQueue_eq, hnone, hnone]
  simp

theorem State.endForeign_returns (hin : (s.sec i).inFlight = some q) (hl : q.losses < 2) (hk : q.kind ≠ .poll)
    (hq : ∀ u ∈ (s.sec i).queue, u.addr ≠ q.addr) : s.endForeign i = ((s.clearFlight i).modQueue i (q.oneLoss :: ·)).enterIdle i := by
  have hlt : ¬Config.lossMax ≤ q.oneLoss.losses := by
    have hmax : Config.lossMax = 3 := rfl
    simp only [Txn.oneLoss, hmax]
    omega
  rw [State.endForeign, State.returnYielded, hin]
  dsimp only
  rw [if_neg hlt, State.returnTxn_head (t := q.oneLoss) hk (by rw [State.sec_clearFlight_self]; exact hq)]

/-- The third loss is the failure of the transaction (R50). -/
theorem State.endForeign_third (hin : (s.sec i).inFlight = some q) (hl : 2 ≤ q.losses) :
    s.endForeign i = s.failFlight i q.oneLoss .arbLost := by
  have hge : Config.lossMax ≤ q.oneLoss.losses := Nat.succ_le_succ hl
  rw [State.endForeign, State.returnYielded, hin]
  dsimp only
  rw [if_pos hge]
  rfl

theorem State.endForeign_fails (hb : (s.sec i).Busy) (hin : (s.sec i).inFlight = some q) (hl : 2 ≤ q.losses) :
    s.FlightFails (s.endForeign i) i q .arbLost none ∧ s.Inner (s.endForeign i) := by
  rw [State.endForeign_third hin hl]
  exact ⟨State.failFlight_fails hb rfl rfl rfl rfl, s.failFlight_inner i _ .arbLost⟩

/-- A section with the transaction back in its queue. -/
theorem State.sec_givenBack (s : State) (i : SectionId) (f : List Txn → List Txn) :
    ((s.clearFlight i).modQueue i f).sec i = { (s.sec i).landed.retime s.nowMs with queue := f (s.sec i).queue } := by
  rw [State.modQueue_eq, State.sec_setSec_self, State.sec_clearFlight_self]
  rfl

theorem State.givenBack_byLine (s : State) (i : SectionId) (f : List Txn → List Txn) :
    s.ByLine i ((s.clearFlight i).modQueue i f) := (s.clearFlight_byLine i).trans (State.modQueue_byLine _ i f)

/-- The transaction that has lost an arbitration is sent again at once, where no MEASURE waits (R50, R73, R78). -/
theorem State.endForeign_goesOn (hpend : (s.sec i).pendingTiming = none) (hin : (s.sec i).inFlight = some q) (hl : q.losses < 2)
    (hk : q.kind ≠ .poll) (hq : ∀ u ∈ (s.sec i).queue, u.addr ≠ q.addr) (hslot : (s.sec i).slot = none)
    (hp : (s.sec i).pairFree = true) (hs : s.silent = false) : s.GoesOn (s.endForeign i) i q.oneLoss (s.sec i).queue := by
  have hsec := s.sec_givenBack i (q.oneLoss :: ·)
  rw [State.endForeign_returns hin hl hk hq]
  obtain ⟨hsend, h2, h3, h4, h5, h6⟩ := State.enterIdle_goesOn (s := (s.clearFlight i).modQueue i (q.oneLoss :: ·)) (i := i)
    (by rw [hsec]; exact hpend) (by rw [hsec]; exact hslot) (by rw [hsec]; exact hp) hs (by rw [hsec])
  refine ⟨⟨hsend.line, hsend.inFlight, hsend.exch.trans ?_⟩, h2, h3, h4, h5, (s.givenBack_byLine i _).trans h6⟩
  rw [hsec]
  rfl

end yielded

theorem State.answerSent_ends {s : State} {i : SectionId} {b : Burst} {l : List CheckFlag} (h : (s.sec i).exch = .answering b l) :
    s.answerSent i = s.endForeign i := by
  rw [State.answerSent, h]

end Sys2Proof.Machine

open Sys2Proof Sys2Proof.Machine

/-- Settles O54: the end of the answer burst is the return to IDLE, with the yielded transaction back at the head of its queue, or
failed at its third loss. -/
theorem answerBurstSentReturnsTheYieldedTransaction : Obligations.AnswerBurstSentReturnsTheYieldedTransaction := by
  unfold Obligations.AnswerBurstSentReturnsTheYieldedTransaction
  rintro s i _ b l rfl hex hpend hact hline
  have hexec : exec (.answerBurstSent i) s = .next (s.endForeign i) := congrArg Host.Outcome.next (State.answerSent_ends hex)
  refine ⟨fun hin hq hslot hr => ?_, fun q hin hl hq hk => ⟨fun hslot hp hs => ?_, fun hslot hp => ?_⟩, fun q hin hl => ?_⟩
  · have h := State.succeed_rests hpend hslot hq hr
    exact ⟨_, hexec.trans (by rw [State.endForeign_none hin]), h.line, h.exch, h.idleSince, h.events, h.ltu, h.byLine.onlyLine⟩
  · have h := State.endForeign_goesOn hpend hin hl hk hq hslot hp hs
    exact ⟨_, hexec, h.sends.line, h.sends.inFlight, h.queue, h.events, h.ltu, h.byLine.onlyLine⟩
  · have hsec := s.sec_givenBack i (q.oneLoss :: ·)
    generalize hu : (s.clearFlight i).modQueue i (q.oneLoss :: ·) = u at hsec
    have hby : s.ByLine i u := hu ▸ s.givenBack_byLine i _
    have hupend : (u.sec i).pendingTiming = none := by rw [hsec]; exact hpend
    obtain ⟨huby, hue, hultu⟩ := u.settleIdle_byLine i hupend
    obtain ⟨_, hqu, hinu, hslotu, _, _⟩ := (u.sec_settleIdle i).held
    have hrun : u.measureRunnable i = true := State.measureRunnable_auto (by rw [hsec]; exact hslot)
    have hmeasure : s.endForeign i = (u.settleIdle i).startMeasure i := by
      rw [State.endForeign_returns hin hl hk hq, hu, State.enterIdle_measure (by rw [hsec]; exact hp) hrun]
    obtain ⟨hl', _, _, hq', hin', hltu, he⟩ := State.startMeasure_spec (s := u.settleIdle i) (i := i) (g := .auto)
      (by rw [hslotu, hsec]; exact hslot)
    have hue' : u.events = s.events := by rw [← hu]; rfl
    refine ⟨_, hexec.trans (by rw [hmeasure]), hl', ?_, ?_, ?_, he.trans (hue.trans hue'),
      ((hby.trans huby).trans (State.startMeasure_byLine _ i)).onlyLine⟩
    · rw [hin', hinu, hsec]
      rfl
    · rw [hq', hqu, hsec]
      rfl
    · rw [State.testSource, hltu]
      rfl
  · obtain ⟨hfails, hin'⟩ := State.endForeign_fails (SectionCtl.Busy.of_line hact (Or.inr hline)) hin (Nat.le_of_eq hl.symm)
    have hidle := hfails.2.1
    rw [hin'.nowMs] at hidle
    exact ⟨_, hexec, hfails, hidle, ⟨hin'.rx, hin'.buffer, hin'.resetHeld, hin'.poweringUp⟩, ⟨hin'.reply, hin'.headTaken⟩,
      ⟨hin'.mode, hin'.globals, hin'.seconds, hin'.nowMs⟩⟩
end

section
/-! SUPPORT. A post's burst starts. -/

-- One theorem after another: elaborated side by side, they ask for more thread stacks than the check has memory for.
set_option Elab.async false

namespace Sys2Proof.Machine

/-! ## The failure of a host's transaction -/

section host
variable {s : State} {i : SectionId} {q : Txn} {r : FailReason}

/-- The failure of a host's transaction is told, and ends no call (R79). -/
theorem State.failFlight_host (ho : q.origin = .host) (hd : s.dispatchDue = false) :
    s.failFlight i q r = ((s.clearFlight i).post (s.failTold i q r)).enterIdle i := by
  have hidle : ((s.clearFlight i).post (s.failTold i q r)).dispatchDue = false := by
    rw [State.post_dispatchDue]
    exact hd
  rw [State.failFlight, State.reportFailed_host ho, State.clearFlight_failTold, State.finish_idle hidle]

theorem State.failFlight_hostFrame (ho : q.origin = .host) (hd : s.dispatchDue = false) (hpend : (s.sec i).pendingTiming = none) :
    s.ByLine i (s.failFlight i q r) := by
  rw [State.failFlight_host ho hd]
  refine ((s.clearFlight_byLine i).trans (State.post_byLine _ i _)).trans (State.enterIdle_byLine ?_)
  rw [State.sec_post, State.sec_clearFlight_self]
  exact hpend

/-- Under a carrier nothing follows the failure (R68). -/
theorem State.failFlight_hostHeld (ho : q.origin = .host) (hd : s.dispatchDue = false) (hpend : (s.sec i).pendingTiming = none)
    (hp : (s.sec i).pairFree = false) :
    s.Told (s.failFlight i q r) [s.failTold i q r] ∧ (s.failFlight i q r).ltu = s.ltu ∧
      ((s.failFlight i q r).sec i).queue = (s.sec i).queue := by
  have hsec : ((s.clearFlight i).post (s.failTold i q r)).sec i = (s.sec i).landed.retime s.nowMs := by
    rw [State.sec_post, State.sec_clearFlight_self]
  have hpend' : (((s.clearFlight i).post (s.failTold i q r)).sec i).pendingTiming = none := by rw [hsec]; exact hpend
  obtain ⟨hby, he, hltu⟩ := State.settleIdle_byLine _ i hpend'
  have htold : s.Told ((s.clearFlight i).post (s.failTold i q r)) [s.failTold i q r] :=
    State.Told.afterQuiet (t := s.clearFlight i) .quiet (State.post_told _ _)
  rw [State.failFlight_host ho hd, State.enterIdle_held (by rw [hsec]; exact hp)]
  refine ⟨htold.thenQuiet (.ofByLine hby he), hltu.trans (State.post_ltu _ _), ?_⟩
  rw [(State.sec_settleIdle _ i).held.2.1, hsec]
  rfl

end host

/-! ## The burst received -/

section receive
variable {s : State} {i : SectionId}

theorem State.sec_receivePost (s : State) (i : SectionId) :
    (s.receivePost i).sec i = { s.sec i with line := .foreign, exch := .post }.retime s.nowMs := by
  rw [State.receivePost, State.sec_modLine_self]

theorem State.receivePost_byLine (s : State) (i : SectionId) : s.ByLine i (s.receivePost i) := s.modLine_byLine i _

variable {d : SectionDef} {w : SyncWord}

theorem State.postBurstStarts_crosstalk (hd : (s.sec i).defn = some d) (hw : w ≠ d.sync) : s.postBurstStarts i w = s := by
  rw [State.postBurstStarts, hd]
  exact if_neg hw

theorem State.postBurstStarts_asleep (hd : (s.sec i).defn = some d)
    (hp : (s.sec i).power = .off ∨ (∃ ph, (s.sec i).power = .waking ph) ∨ (s.sec i).power = .hibernate) :
    s.postBurstStarts i w = s := by
  rw [State.postBurstStarts, hd]
  dsimp only
  split
  · obtain hp | ⟨ph, hp⟩ | hp := hp <;> rw [hp]
  · rfl

theorem State.postBurstStarts_active (hd : (s.sec i).defn = some d) (hw : w = d.sync) (hp : (s.sec i).power = .active) :
    s.postBurstStarts i w = match (s.sec i).line with
      | .idle => s.receivePost i
      | .owned => s.burstOnOwned i
      | .down | .unknown | .foreign | .brk | .testing => s := by
  rw [State.postBurstStarts, hd]
  dsimp only
  rw [if_pos hw, hp] <;> rfl

theorem State.postBurstStarts_settling (hd : (s.sec i).defn = some d) (hw : w = d.sync) {part : SettlePart}
    (hp : (s.sec i).power = .settling part) : s.postBurstStarts i w = ((s.toActive i).receivePost i).finish := by
  rw [State.postBurstStarts, hd]
  dsimp only
  rw [if_pos hw, hp]

theorem State.burstOnOwned_lead {b : Burst} {tm : Timer} (h : (s.sec i).exch = .lead b tm ∨ (s.sec i).exch = .sending b tm) :
    s.burstOnOwned i = if s.nowMs ≤ tm.due then s.receivePost i else s.collide i b := by
  obtain h | h := h <;> rw [State.burstOnOwned, h]

theorem State.burstOnOwned_window {tm : Timer} (h : (s.sec i).exch = .window tm) : s.burstOnOwned i = s.setExch i .reply := by
  rw [State.burstOnOwned, h]

theorem State.burstOnOwned_wait {q : Txn} (h : (s.sec i).exch = .retryWait) (hin : (s.sec i).inFlight = some q) :
    s.burstOnOwned i = if (s.sec i).spent q then
      (if ((s.failFlight i q .noReply).sec i).line = .idle then (s.failFlight i q .noReply).receivePost i
        else s.failFlight i q .noReply)
      else s.receivePost i := by
  rw [State.burstOnOwned, h]
  dsimp only
  rw [State.burstInWait, hin]

end receive

end Sys2Proof.Machine

open Sys2Proof Sys2Proof.Machine

/-- Settles O51: the burst is received, collides or is the reply, by the state of the line and of the attempt; a transaction whose budget
is spent fails first, and the carrier holds its line in IDLE until the burst takes it. -/
theorem postBurstStartIsTakenByTheLineState : Obligations.PostBurstStartIsTakenByTheLineState := by
  unfold Obligations.PostBurstStartIsTakenByTheLineState
  rintro s i _ d w rfl hd
  refine ⟨fun hw => congrArg Host.Outcome.next (State.postBurstStarts_crosstalk hd hw),
    fun hp => congrArg Host.Outcome.next (State.postBurstStarts_asleep hd hp), fun hp hl => ?_, fun hw => ⟨fun part hp => ?_,
    fun hp hl => ?_, fun b tm q hp hl hin => ?_, fun q hp hl hin hex => ?_⟩⟩
  · by_cases hw : w = d.sync
    · refine congrArg Host.Outcome.next ((State.postBurstStarts_active hd hw hp).trans ?_)
      obtain hl | hl | hl := hl <;> rw [hl]
    · exact congrArg Host.Outcome.next (State.postBurstStarts_crosstalk hd hw)
  · have hby := ((s.toActive_byCalls i).trans (State.receivePost_byLine _ i).byCalls).trans (State.finish_byCalls _ i)
    have hsec : (((s.toActive i).receivePost i).finish).sec i =
        { (s.toActive i).sec i with line := .foreign, exch := .post }.retime (s.toActive i).nowMs := by
      rw [State.finish_sec, State.sec_receivePost]
    rw [State.sec_toActive_self] at hsec
    refine ⟨_, congrArg Host.Outcome.next (State.postBurstStarts_settling hd hw hp), ?_, ?_, ?_, ?_,
      ⟨hby.rx, hby.buffer, hby.resetHeld, hby.poweringUp⟩, ⟨hby.reply, hby.headTaken⟩,
      ⟨hby.mode, hby.globals, hby.seconds, hby.nowMs⟩, ⟨hby.dir, hby.rosters, hby.unresolved⟩, hby.others⟩ <;> rw [hsec] <;> rfl
  · have hrec : s.postBurstStarts i w = s.receivePost i := (State.postBurstStarts_active hd hw hp).trans (by rw [hl])
    refine ⟨_, congrArg Host.Outcome.next hrec, ?_, ?_, ?_, rfl, rfl, (s.receivePost_byLine i).onlyLine⟩ <;>
      rw [State.sec_receivePost] <;> rfl
  · have hown : s.postBurstStarts i w = s.burstOnOwned i := (State.postBurstStarts_active hd hw hp).trans (by rw [hl])
    refine ⟨fun hex hin20 => ?_, fun hex hpast => ?_, fun hex => ?_⟩
    · have hrec := hown.trans ((State.burstOnOwned_lead hex).trans (if_pos hin20))
      refine ⟨_, congrArg Host.Outcome.next hrec, ?_, ?_, ?_, rfl, rfl, (s.receivePost_byLine i).onlyLine⟩ <;>
        rw [State.sec_receivePost]
      · rfl
      · rfl
      · exact hin
    · have hcol := hown.trans ((State.burstOnOwned_lead hex).trans (if_neg (Nat.not_le.2 hpast)))
      refine ⟨_, congrArg Host.Outcome.next hcol, ?_, ?_, ?_, rfl, rfl, (s.modLine_byLine i _).onlyLine⟩ <;>
        rw [State.collide, State.sec_modLine_self]
      · exact hl
      · rfl
      · change (s.sec i).inFlight.map Txn.collidedOnce = _
        rw [hin]
        rfl
    · have hrep := hown.trans (State.burstOnOwned_window hex)
      refine ⟨_, congrArg Host.Outcome.next hrep, ?_, ?_, ?_, rfl, rfl, (s.modLine_byLine i _).onlyLine⟩ <;> rw [State.sec_setExch]
      · exact hl
      · rfl
      · exact hin
  · have hown : s.postBurstStarts i w = s.burstOnOwned i := (State.postBurstStarts_active hd hw hp).trans (by rw [hl])
    refine ⟨fun hleft => ?_, fun hspent hpf => ?_⟩
    · have hnot : (s.sec i).spent q ≠ true := fun h => absurd ((SectionCtl.spent_iff _ _).1 h) (Nat.not_lt.2 hleft)
      have hrec := hown.trans ((State.burstOnOwned_wait hex hin).trans (if_neg hnot))
      refine ⟨_, congrArg Host.Outcome.next hrec, ?_, ?_, ?_, rfl, rfl, (s.receivePost_byLine i).onlyLine⟩ <;>
        rw [State.sec_receivePost]
      · rfl
      · rfl
      · exact hin
    · have hb := SectionCtl.Busy.of_line hp (Or.inl hl)
      obtain ⟨htells, hidle, hheld, _⟩ := State.failFlight_fails (s := s) (i := i) (t := q) (q := q) (r := .noReply) (n := none) hb rfl
        rfl rfl rfl
      obtain ⟨hline, _, hnone⟩ := hheld hpf
      have hinner := s.failFlight_inner i q .noReply
      have hrec : s.postBurstStarts i w = (s.failFlight i q .noReply).receivePost i :=
        hown.trans ((State.burstOnOwned_wait hex hin).trans ((if_pos ((SectionCtl.spent_iff _ _).2 hspent)).trans (if_pos hline)))
      have hin' := hinner.trans (State.receivePost_byLine _ i).toInner
      rw [hinner.nowMs] at hidle
      refine ⟨_, congrArg Host.Outcome.next hrec, ?_, ?_, ?_, ?_, htells, fun ho hpend hdue => ?_,
        ⟨hin'.rx, hin'.buffer, hin'.resetHeld, hin'.poweringUp⟩, ⟨hin'.reply, hin'.headTaken⟩,
        ⟨hin'.mode, hin'.globals, hin'.seconds, hin'.nowMs⟩, hin'.rosters, hin'.unresolved⟩
      · rw [State.sec_receivePost]
        rfl
      · rw [State.sec_receivePost]
        rfl
      · rw [State.sec_receivePost]
        exact hnone
      · rw [State.sec_receivePost]
        exact hidle
      · obtain ⟨htold, hltu, hqueue⟩ := State.failFlight_hostHeld (r := .noReply) ho hdue hpend hpf
        have hby := (State.failFlight_hostFrame (r := .noReply) ho hdue hpend).trans (State.receivePost_byLine _ i)
        have htold' := htold.tells
        rw [State.failTold, ho] at htold'
        refine ⟨?_, htold', hltu, hby.onlyLine⟩
        rw [State.sec_receivePost]
        exact hqueue
end

section
/-! SUPPORT. What the supervision of a post rewrites in its entry, and what it leaves. -/

-- One theorem after another: elaborated side by side, they ask for more thread stacks than the check has memory for.
set_option Elab.async false

namespace Sys2Proof.Machine

/-! ## Entries under supervision -/

/-- An entry rewritten in its supervision fields alone (R8). -/
def PostEntry.Supervised (e f : PostEntry) : Prop :=
  f = { e with lastStatus := f.lastStatus, lastReply := f.lastReply, missed := f.missed, reachable := f.reachable,
               lowBattery := f.lowBattery }

theorem PostEntry.Supervised.refl (e : PostEntry) : e.Supervised e := rfl

theorem PostEntry.Supervised.trans {e f g : PostEntry} (h1 : e.Supervised f) (h2 : f.Supervised g) : e.Supervised g := by
  unfold PostEntry.Supervised at *
  rw [h2, h1]

theorem PostEntry.Supervised.post {e f : PostEntry} (h : e.Supervised f) : f.post = e.post := by
  rw [show f = _ from h]

/-- Only supervision fields of entries have changed, and no slot. -/
structure State.Supervised (s t : State) : Prop where
  entries : ∀ r c, Option.Rel PostEntry.Supervised (s.entry r c) (t.entry r c)
  rosters : t.rosters = s.rosters

section supervised
variable {s t u : State}

theorem rel_refl {α : Type} {R : α → α → Prop} (h : ∀ a, R a a) (o : Option α) : Option.Rel R o o := by
  cases o with
  | none => exact .none
  | some a => exact .some (h a)

theorem rel_trans {α : Type} {R : α → α → Prop} (h : ∀ a b c, R a b → R b c → R a c) {o p q : Option α} (h1 : Option.Rel R o p)
    (h2 : Option.Rel R p q) : Option.Rel R o q := by
  cases h1 with
  | none => exact h2
  | some hab =>
    cases h2 with
    | some hbc => exact .some (h _ _ _ hab hbc)

theorem State.Supervised.refl (s : State) : s.Supervised s := ⟨fun _ _ => rel_refl .refl _, rfl⟩

theorem State.Supervised.trans (h1 : s.Supervised t) (h2 : t.Supervised u) : s.Supervised u :=
  ⟨fun r c => rel_trans (fun _ _ _ => .trans) (h1.entries r c) (h2.entries r c), h2.rosters.trans h1.rosters⟩

theorem State.Supervised.ofDir (hd : t.dir = s.dir) (hr : t.rosters = s.rosters) : s.Supervised t :=
  ⟨fun r c => by rw [State.entry_congr hd]; exact rel_refl .refl _, hr⟩

theorem State.Supervised.lookup (h : s.Supervised t) (p : Nat) :
    Option.Rel (fun x y => y.1 = x.1 ∧ x.2.Supervised y.2) (s.lookup p) (t.lookup p) := by
  have h0 := h.entries (rowOf p) 0
  have h1 := h.entries (rowOf p) 1
  unfold State.lookup
  revert h0 h1
  generalize s.entry (rowOf p) 0 = o0
  generalize t.entry (rowOf p) 0 = q0
  generalize s.entry (rowOf p) 1 = o1
  generalize t.entry (rowOf p) 1 = q1
  rintro (he0 | _) (he1 | _) <;> dsimp only <;> (try rw [he0.post]) <;> (try rw [he1.post])
  · split
    · exact .some ⟨rfl, he0⟩
    · split
      · exact .some ⟨rfl, he1⟩
      · exact .none
  · split
    · exact .some ⟨rfl, he0⟩
    · exact .none
  · split
    · exact .some ⟨rfl, he1⟩
    · exact .none
  · exact .none

theorem State.Supervised.entryAt (h : s.Supervised t) (i : SectionId) (a : Addr) :
    Option.Rel PostEntry.Supervised (s.entryAt i a) (t.entryAt i a) := by
  unfold State.entryAt
  rw [State.slotAt_congr h.rosters]
  cases s.slotAt i a with
  | none => exact .none
  | some p =>
    have hrel := h.lookup p
    dsimp only
    revert hrel
    generalize s.lookup p = o
    generalize t.lookup p = q
    rintro (hp | _)
    · exact .some hp.2
    · exact .none

theorem State.Supervised.eligible (h : s.Supervised t) (i : SectionId) (a : Addr) : t.eligibleAddr i a = s.eligibleAddr i a := by
  have hrel := h.entryAt i a
  unfold State.eligibleAddr
  revert hrel
  generalize s.entryAt i a = o
  generalize t.entryAt i a = q
  rintro (he | _)
  · rw [show _ = _ from he]
  · rfl

theorem State.Supervised.resolve (h : s.Supervised t) (i : SectionId) (a : Addr) : t.resolve i a = s.resolve i a := by
  have hrel := h.entryAt i a
  unfold State.resolve
  revert hrel
  generalize s.entryAt i a = o
  generalize t.entryAt i a = q
  rintro (he | _)
  · rw [show _ = _ from he]
  · rfl

theorem State.Supervised.next (h : s.Supervised t) (i : SectionId) (n : Nat) : t.nextEligible i n = s.nextEligible i n := by
  unfold State.nextEligible
  simp only [h.eligible]

end supervised

/-! ## One entry rewritten -/

section modEntry
variable {s : State} {p : Nat} {k : Fin 2} {e : PostEntry} {f : PostEntry → PostEntry}

theorem State.modEntry_eq (h : s.lookup p = some (k, e)) : s.modEntry p f = s.setEntry (rowOf p) k (some (f e)) := by
  rw [State.modEntry, h]

theorem State.modEntry_supervised (hf : ∀ e : PostEntry, e.Supervised (f e)) : s.Supervised (s.modEntry p f) := by
  cases h : s.lookup p with
  | none =>
    rw [State.modEntry, h]
    exact .refl s
  | some x =>
    obtain ⟨k, e⟩ := x
    rw [State.modEntry_eq h]
    refine ⟨fun r c => ?_, rfl⟩
    rw [State.entry_setEntry]
    split
    · next hrc =>
      obtain ⟨rfl, rfl⟩ := hrc
      rw [(State.entry_of_lookup h).1]
      exact .some (hf e)
    · exact rel_refl .refl _

theorem State.lookup_modEntry (hf : ∀ e : PostEntry, e.Supervised (f e)) (h : s.lookup p = some (k, e)) :
    (s.modEntry p f).lookup p = some (k, f e) := by
  have hrel := (s.modEntry_supervised (p := p) hf).lookup p
  rw [h] at hrel
  cases hl : (s.modEntry p f).lookup p with
  | none =>
    rw [hl] at hrel
    cases hrel
  | some x =>
    rw [hl] at hrel
    cases hrel with
    | some hx =>
      have hentry := (State.entry_of_lookup hl).1
      rw [State.modEntry_eq h, State.entry_setEntry, if_pos ⟨rfl, hx.1.symm⟩] at hentry
      have hx1 : x.1 = k := hx.1
      rw [Option.some.inj hentry, ← hx1]

end modEntry

/-! ## The two reports of supervision -/

theorem State.postAll_lookup (bs : List EventBody) (s : State) (p : Nat) : (State.postAll bs s).lookup p = s.lookup p := by
  unfold State.lookup
  rw [State.entry_congr (State.postAll_byLine s 0 bs).dir, State.entry_congr (State.postAll_byLine s 0 bs).dir]

theorem reported_supervised (st : StatusFields) (n m : Nat) (e : PostEntry) : e.Supervised (e.reported st n m) := rfl

theorem missedPoll_supervised (n : Nat) (e : PostEntry) : e.Supervised (e.missedPoll n) := rfl

theorem State.Supervised.postAll {s t : State} (h : s.Supervised t) (bs : List EventBody) : s.Supervised (t.postAll bs) :=
  h.trans (.ofDir (State.postAll_byLine t 0 bs).dir (State.postAll_byLine t 0 bs).rosters)

theorem State.statusReport_supervised (s : State) (i : SectionId) (a : Addr) (st : StatusFields) :
    s.Supervised (s.statusReport i a st) := by
  unfold State.statusReport
  split
  · exact (State.modEntry_supervised (f := fun e => e.reported st _ _) (reported_supervised st _ _)).postAll _
  · exact .refl s

theorem State.missedReport_supervised (s : State) (i : SectionId) (a : Addr) : s.Supervised (s.missedReport i a) := by
  unfold State.missedReport
  split
  · have hmod (p n : Nat) : s.Supervised (s.modEntry p (fun e => e.missedPoll n)) :=
      State.modEntry_supervised (missedPoll_supervised n)
    dsimp only
    split
    · exact (hmod _ _).postAll [_]
    · exact hmod _ _
  · exact .refl s

theorem ChangeSet.any_iff (c : ChangeSet) : c.any = true ↔ c ≠ ⟨false, false, false, false⟩ := by
  obtain ⟨b1, b2, b3, b4⟩ := c
  revert b1 b2 b3 b4
  decide

theorem crossingOf_decide (b : Bool) (p : Prop) [Decidable p] :
    crossingOf b (decide p) = if b = decide p then none else if p then some .downward else some .upward := by
  unfold crossingOf
  by_cases hp : p <;> simp [hp]

theorem crossingOf_isSome (b c : Bool) : (crossingOf b c).isSome = true ↔ b ≠ c := by
  revert b c
  decide

/-- The events of a status report are those R108 names. -/
theorem statusEvents_eq_told (e : PostEntry) (st : StatusFields) (n : Nat) : statusEvents e st n = e.told st n := by
  have hcond (c : ChangeSet) : (c.any || (crossingOf e.lowBattery (decide (st.battery < n))).isSome) = true ↔
      c ≠ ⟨false, false, false, false⟩ ∨ e.lowBattery ≠ decide (st.battery < n) := by
    rw [Bool.or_eq_true, ChangeSet.any_iff, crossingOf_isSome]
  unfold statusEvents PostEntry.told
  dsimp only
  rw [if_congr (hcond _) rfl rfl, crossingOf_decide]
  rfl

section reports
variable {s : State} {i : SectionId} {a : Addr} {k : Fin 2} {e : PostEntry}

/-- A status report (R14, R108). -/
theorem State.statusReport_spec (st : StatusFields) (he : s.entryAt i a = some e) (hl : s.lookup e.post = some (k, e)) :
    (s.statusReport i a st).lookup e.post = some (k, { e with
      lastStatus := some st, lastReply := some s.seconds, missed := 0, reachable := true,
      lowBattery := decide (st.battery < s.globals.lowBattery) }) ∧
    s.Told (s.statusReport i a st) (e.told st s.globals.lowBattery) := by
  have heq : s.statusReport i a st =
      (s.modEntry e.post (fun x => x.reported st s.seconds s.globals.lowBattery)).postAll (statusEvents e st s.globals.lowBattery) := by
    rw [State.statusReport, he]
  rw [heq, State.postAll_lookup, State.lookup_modEntry (fun e => reported_supervised st _ _ e) hl]
  have hquiet : s.Told (s.modEntry e.post (fun x => x.reported st s.seconds s.globals.lowBattery)) [] := by
    rw [State.modEntry_eq hl]
    exact .quiet
  have hby := State.postAll_byLine (s.modEntry e.post (fun x => x.reported st s.seconds s.globals.lowBattery)) i
    (statusEvents e st s.globals.lowBattery)
  exact ⟨rfl, statusEvents_eq_told e st _ ▸ hquiet.afterQuiet ⟨hby.silent, hby.seconds, rfl⟩⟩

/-- A missed-poll report (R15, R110). -/
theorem State.missedReport_spec (he : s.entryAt i a = some e) (hl : s.lookup e.post = some (k, e)) :
    (s.missedReport i a).lookup e.post = some (k, { e with
      missed := min 15 (e.missed + 1), reachable := decide (min 15 (e.missed + 1) < (s.sec i).timingD.unreachable) }) ∧
    s.Told (s.missedReport i a)
      (if e.reachable = true ∧ (s.sec i).timingD.unreachable ≤ min 15 (e.missed + 1) then
        [.postUnreachable e.post e.sec e.addr (min 15 (e.missed + 1))] else []) := by
  have hmod := State.lookup_modEntry (fun e => missedPoll_supervised (s.sec i).timingD.unreachable e) hl
  have hquiet : s.Told (s.modEntry e.post (fun x => x.missedPoll (s.sec i).timingD.unreachable)) [] := by
    rw [State.modEntry_eq hl]
    exact .quiet
  have hcond : (e.reachable && !(e.missedPoll (s.sec i).timingD.unreachable).reachable) = true ↔
      e.reachable = true ∧ (s.sec i).timingD.unreachable ≤ min 15 (e.missed + 1) := by
      simp [PostEntry.missedPoll]
  have heq : s.missedReport i a =
      if e.reachable && !(e.missedPoll (s.sec i).timingD.unreachable).reachable then
        (s.modEntry e.post (fun x => x.missedPoll (s.sec i).timingD.unreachable)).post
          (.postUnreachable e.post e.sec e.addr (e.missedPoll (s.sec i).timingD.unreachable).missed)
      else s.modEntry e.post (fun x => x.missedPoll (s.sec i).timingD.unreachable) := by
    rw [State.missedReport, he]
  rw [heq]
  by_cases hc : e.reachable = true ∧ (s.sec i).timingD.unreachable ≤ min 15 (e.missed + 1)
  · rw [if_pos (hcond.2 hc), if_pos hc]
    exact ⟨(State.postAll_lookup [_] _ _).trans hmod, hquiet.afterQuiet (State.post_told _ _)⟩
  · rw [if_neg (fun h => hc (hcond.1 h)), if_neg hc]
    exact ⟨hmod, hquiet⟩

end reports

end Sys2Proof.Machine
end

section
/-! SUPPORT. The close of a round, read from the state in which its operation began to the state in which it ended. -/

-- One theorem after another: elaborated side by side, they ask for more thread stacks than the check has memory for.
set_option Elab.async false

namespace Sys2Proof.Machine

theorem State.lookup_congr {s t : State} (h : t.dir = s.dir) (p : Nat) : t.lookup p = s.lookup p := by
  unfold State.lookup
  rw [State.entry_congr h, State.entry_congr h]

/-- The bracket and overrun flag are as they were, and no round is open. -/
structure SectionCtl.Closed (x y : SectionCtl) : Prop where
  round : y.round = none
  overrun : y.overrun = x.overrun
  bracket : y.bracket = x.bracket

theorem SectionCtl.Closed.trans {x y z : SectionCtl} (h1 : x.Closed y) (h2 : y.Closed z) : x.Closed z :=
  ⟨h2.round, h2.overrun.trans h1.overrun, h2.bracket.trans h1.bracket⟩

section noRound
variable {s : State} {i : SectionId}

theorem State.startMeasure_closed (hr : (s.sec i).round = none) : (s.sec i).Closed ((s.startMeasure i).sec i) := by
  unfold State.startMeasure
  split
  · rw [State.sec_modLine_self]
    exact ⟨hr, rfl, rfl⟩
  · exact ⟨hr, rfl, rfl⟩

/-- With no round open the arbiter tells nothing (R73). -/
theorem State.arbiter_closed (hr : (s.sec i).round = none) :
    (s.sec i).Closed ((s.arbiter i).sec i) ∧ s.Told (s.arbiter i) [] := by
  have hstay : (s.sec i).Closed (s.sec i) ∧ s.Told s [] := ⟨⟨hr, rfl, rfl⟩, .refl s⟩
  unfold State.arbiter
  split
  · split
    · exact hstay
    · split
      · exact ⟨State.startMeasure_closed hr, s.startMeasure_quietly i⟩
      · split
        · exact hstay
        · split
          · rw [State.sec_sendAttempt, State.sec_modSec_self]
            exact ⟨⟨hr, rfl, rfl⟩, .quiet⟩
          · rw [State.arbitrateRound_none hr]
            exact hstay
  · split
    · exact ⟨State.startMeasure_closed hr, s.startMeasure_quietly i⟩
    · exact hstay
  all_goals exact hstay

/-- Nor does the entry into IDLE, where no timing record is pending. -/
theorem State.enterIdle_closed (hpend : (s.sec i).pendingTiming = none) (hr : (s.sec i).round = none) :
    (s.sec i).Closed ((s.enterIdle i).sec i) ∧ s.Told (s.enterIdle i) [] := by
  have hidled := s.sec_settleIdle i
  have hsettled : (s.sec i).Closed ((s.settleIdle i).sec i) := by
    rw [show (s.settleIdle i).sec i = _ from hidled]
    exact ⟨hr, rfl, rfl⟩
  obtain ⟨hclosed, htold⟩ := State.arbiter_closed hsettled.round
  exact ⟨hsettled.trans hclosed, (s.settleIdle_quiet i hpend).trans htold⟩

end noRound

/-- The close of a round, told after `before` and with nothing told after it. -/
theorem State.RoundCloses.within {s u z t : State} {i : SectionId} {d : SectionDef} {before : List EventBody} {a m k : Nat}
    (h : u.RoundCloses z i d [] a m k) (hbefore : s.Told u before) (hover : (u.sec i).overrun = (s.sec i).overrun)
    (hbracket : (u.sec i).bracket = (s.sec i).bracket) (hafter : z.Told t []) (hdir : t.dir = z.dir)
    (hclosed : (z.sec i).Closed (t.sec i)) : s.RoundCloses t i d before a m k := by
  obtain ⟨-, hflag, l, c, ⟨hmem, hsorted⟩, hcand, hstored, htells⟩ := h
  rw [hover, hbracket] at htells
  refine ⟨hclosed.round, hclosed.overrun.trans hflag, l, c, ⟨fun e => ?_, hsorted⟩, hcand, hclosed.bracket.trans hstored, ?_⟩
  · rw [hmem e]
    simp only [State.entry_congr hdir]
  · exact hbefore.tells.trans hbefore.silent hbefore.seconds (hafter.events.trans htells)

section pollEnded
variable {s : State} {i : SectionId} {a : Addr} {f : Round → Round} {r : Round}

theorem State.pollEnded_eq (hr : (s.sec i).round = some r) : s.pollEnded i a f =
    (s.modSec i (fun x => { x with round := some { f r with cursor := a.val + 1, kept := none } })).closeIfDone i := by
  rw [State.pollEnded, hr]

theorem State.sec_pollCounted (i : SectionId) (a : Addr) (f : Round → Round) (r : Round) :
    (s.modSec i (fun x => { x with round := some { f r with cursor := a.val + 1, kept := none } })).sec i =
      { s.sec i with round := some { f r with cursor := a.val + 1, kept := none } } := State.sec_modSec_self _ _ _

/-- The last poll of a round closes it (R104, R105). -/
theorem State.pollEnded_closes {d : SectionDef} (hd : (s.sec i).defn = some d) (hr : (s.sec i).round = some r)
    (hlast : ∀ b, a < b → s.eligibleAddr i b = false) :
    s.RoundCloses (s.pollEnded i a f) i d [] (f r).answered (f r).missed (f r).skipped := by
  have hsec := s.sec_pollCounted i a f r
  rw [State.pollEnded_eq hr]
  generalize hu : s.modSec i (fun x => { x with round := some { f r with cursor := a.val + 1, kept := none } }) = u at hsec
  have hround : (u.sec i).round = some { f r with cursor := a.val + 1, kept := none } := by rw [hsec]
  have hnext : u.nextEligible i (a.val + 1) = none :=
    State.nextEligible_eq_none (fun b hb _ => by subst hu; exact hlast b (Fin.lt_def.2 hb))
  rw [State.closeIfDone_done hround hnext]
  have hcloses := State.closeRound_closes (d := d) (by rw [hsec]; exact hd) hround
  refine hcloses.within (.quiet (by subst hu; rfl) (by subst hu; rfl) (by subst hu; rfl)) (by rw [hsec]) (by rw [hsec]) (.refl _) rfl
    ⟨hcloses.1, rfl, rfl⟩

/-- Any other poll leaves its round open, with the counts of its outcome (R104). -/
theorem State.pollEnded_open (hr : (s.sec i).round = some r) (hmore : ∃ b, a < b ∧ s.eligibleAddr i b = true) :
    s.pollEnded i a f = s.modSec i (fun x => { x with round := some { f r with cursor := a.val + 1, kept := none } }) := by
  obtain ⟨b, hb, he⟩ := hmore
  rw [State.pollEnded_eq hr]
  have hround : ((s.modSec i (fun x => { x with round := some { f r with cursor := a.val + 1, kept := none } })).sec i).round =
      some { f r with cursor := a.val + 1, kept := none } := by rw [s.sec_pollCounted i a f r]
  exact State.closeIfDone_open hround (State.nextEligible_isSome (a := b) (Fin.lt_def.1 hb) (by have := Fin.lt_def.1 hb; omega) he)

end pollEnded

end Sys2Proof.Machine
end

section
/-! SUPPORT. The reply window runs out: the retry, and the failure of a ring notice and of a poll. -/

-- One theorem after another: elaborated side by side, they ask for more thread stacks than the check has memory for.
set_option Elab.async false

namespace Sys2Proof.Machine

section fails
variable {s : State} {i : SectionId} {t : Txn}

theorem State.windowEnds_eq {tm : Timer} (h : (s.sec i).exch = .window tm) :
    s.windowEnds i = (s.reach (tm.start + tm.dur)).attemptFailed i := by
  rw [State.windowEnds, h]
  rfl

/-! ## The failure of a ring notice -/

variable {n : Nat} {c : Call} {r : FailReason}

/-- The state in which the failure of the transaction in flight has been told (R79). -/
def State.failureTold (i : SectionId) (t : Txn) (r : FailReason) (s : State) : State := (s.clearFlight i).post (s.failTold i t r)

theorem State.failureTold_told (s : State) (i : SectionId) (t : Txn) (r : FailReason) :
    s.Told (s.failureTold i t r) [s.failTold i t r] :=
  State.Told.afterQuiet (t := s.clearFlight i) .quiet (State.post_told _ _)

theorem State.failureTold_byLine (s : State) (i : SectionId) (t : Txn) (r : FailReason) : s.ByLine i (s.failureTold i t r) :=
  (s.clearFlight_byLine i).trans (State.post_byLine _ i _)

theorem State.sec_failureTold (s : State) (i : SectionId) (t : Txn) (r : FailReason) :
    (s.failureTold i t r).sec i = (s.sec i).landed.retime s.nowMs := by
  rw [State.failureTold, State.sec_post, State.sec_clearFlight_self]

theorem State.flightFailed_ring (ho : t.origin = .call n) (hk : t.kind = .ring) (hc : s.findCall n = some c)
    (hst : c.state = .ringing) : s.flightFailed i t r = ((s.failureTold i t r).endCall c .postUnreached).finish := by
  have hfound : (s.failureTold i t r).findCall n = some c := ((s.failureTold_byLine i t r).calls.findCall n).trans hc
  rw [State.flightFailed, State.reportFailed_call ho, State.noticeFailed]
  change State.finish (match (s.failureTold i t r).findCall n with
    | some c => if t.kind = .ring ∧ c.state = .ringing then (s.failureTold i t r).endCall c .postUnreached else s.failureTold i t r
    | none => s.failureTold i t r) = _
  rw [hfound]
  exact congrArg State.finish (if_pos ⟨hk, hst⟩)

/-- The failed ring notice ends its RINGING call, told after the failure (R147). -/
theorem State.failFlight_ring (ho : t.origin = .call n) (hk : t.kind = .ring) (hc : s.findCall n = some c)
    (hst : c.state = .ringing) : (s.failFlight i t r).findCall n = none ∧
    s.TellsFirst (s.failFlight i t r) [s.failTold i t r, c.endTold .postUnreached s.seconds] := by
  have hfail := s.failureTold_told i t r
  have hends := (s.failureTold i t r).endCall_ends c .postUnreached
  obtain ⟨bs, hbs⟩ := (s.failureTold i t r).endCall_toldFirst c .postUnreached
  have hlate := (s.flightFailed i t r).enterIdle_noCall i
  rw [State.failFlight_eq]
  rw [hfail.seconds] at hbs
  rw [State.flightFailed_ring ho hk hc hst] at hlate ⊢
  constructor
  · rw [hlate.calls.findCall]
    exact State.finish_none (by rw [hends.findCall, if_pos (State.mem_of_findCall hc).2.symm])
  · obtain ⟨cs, hcs⟩ := ((State.finish_inner _).trans hlate.toInner).told'
    exact ⟨bs ++ cs, ((hfail.trans hbs).trans hcs).tells⟩

/-- RING STOP follows the failed ring notice (R146). -/
theorem State.failFlight_ringStops (hb : (s.sec i).Busy) (ho : t.origin = .call n) (hk : t.kind = .ring)
    (hc : s.findCall n = some c) (hst : c.state = .ringing) (hsec : c.sec = i) (hq : (s.sec i).queue = [])
    (hslot : (s.sec i).slot = none) (hp : (s.sec i).pairFree = true) (hs : s.silent = false) :
    ((s.failFlight i t r).sec i).line = .owned ∧
    ((s.failFlight i t r).sec i).inFlight = some ⟨.ringStop, c.addr, .call n, 0, 0, 0, false⟩ := by
  obtain rfl : c.ref = n := (State.mem_of_findCall hc).2
  subst hsec
  have hx := s.sec_failureTold c.sec t r
  have hsecs := State.endCall_secs (s := s.failureTold c.sec t r) (c := c) .postUnreached (by rw [hx]; exact hb.active)
    (by rw [hx]; exact hb.idle) (by rw [hx]; exact hb.brk)
  have hctl : (s.flightFailed c.sec t r).sec c.sec =
      { (s.sec c.sec).landed.retime s.nowMs with queue := [⟨.ringStop, c.addr, .call c.ref, 0, 0, 0, false⟩] } := by
    rw [State.flightFailed_ring ho hk hc hst, State.finish_sec, State.sec, hsecs]
    refine (State.sec_modSec_self _ _ _).trans ?_
    rw [hx, Call.closing_ringing hst, show ((s.sec c.sec).landed.retime s.nowMs).queue = [] from hq]
    rfl
  have hsilent : (s.flightFailed c.sec t r).silent = false := (s.flightFailed_inner c.sec t r).silent.trans hs
  obtain ⟨hsend, -⟩ := State.enterIdle_sends (s := s.flightFailed c.sec t r) (i := c.sec) (by rw [hctl]; exact hp)
    (State.measureRunnable_none (by rw [hctl]; exact hslot)) hsilent (by rw [hctl])
  rw [State.failFlight_eq]
  exact ⟨hsend.line, hsend.inFlight⟩

/-! ## The failure of a poll -/

variable {k : Fin 2} {e : PostEntry}

/-- A round with one more post that did not answer (R104). -/
def Round.missedOne (r : Round) : Round := { r with missed := r.missed + 1 }

theorem State.flightFailed_poll (ho : t.origin = .round) : s.flightFailed i t .noReply =
    (((s.failureTold i t .noReply).missedReport i t.addr).pollEnded i t.addr Round.missedOne).finish := by
  rw [State.flightFailed, State.reportFailed_round ho]
  rfl

theorem State.flightFailed_pending (hb : (s.sec i).Busy) (hpend : (s.sec i).pendingTiming = none) :
    ((s.flightFailed i t r).sec i).pendingTiming = none := by
  rw [show (s.flightFailed i t r).sec i = _ from State.flightFailed_sec hb t r]
  exact hpend

/-- The failed poll counts as missed against its post (R15, R110). -/
theorem State.failFlight_missed (hb : (s.sec i).Busy) (ho : t.origin = .round) (he : s.entryAt i t.addr = some e)
    (hl : s.lookup e.post = some (k, e)) (hpend : (s.sec i).pendingTiming = none) :
    (s.failFlight i t .noReply).lookup e.post = some (k, { e with
      missed := min 15 (e.missed + 1), reachable := decide (min 15 (e.missed + 1) < (s.sec i).timingD.unreachable) }) := by
  have hby := s.failureTold_byLine i t .noReply
  have hspec := (State.missedReport_spec ((State.entryAt_congr hby.dir hby.rosters i t.addr).trans he)
    ((State.lookup_congr hby.dir e.post).trans hl)).1
  rw [State.sec_failureTold] at hspec
  have hrest : (s.failFlight i t .noReply).dir = ((s.failureTold i t .noReply).missedReport i t.addr).dir := by
    rw [State.failFlight_eq, (State.enterIdle_byLine (State.flightFailed_pending hb hpend)).dir, State.flightFailed_poll ho,
      State.finish_dir, (State.pollEnded_byLine _ i _ _).dir]
  exact (State.lookup_congr hrest e.post).trans hspec

/-- The last poll of a round failed: the round closes with one more post missed (R105, R113, R114). -/
theorem State.failFlight_closes {d : SectionDef} {rd : Round} (ho : t.origin = .round)
    (he : s.entryAt i t.addr = some e) (hl : s.lookup e.post = some (k, e)) (hpend : (s.sec i).pendingTiming = none)
    (hround : (s.sec i).round = some rd) (hd : (s.sec i).defn = some d) (hlast : ∀ b, t.addr < b → s.eligibleAddr i b = false)
    (hdue : s.dispatchDue = false) :
    s.RoundCloses (s.failFlight i t .noReply) i d (s.failTold i t .noReply ::
      (if e.reachable = true ∧ (s.sec i).timingD.unreachable ≤ min 15 (e.missed + 1) then
        [.postUnreachable e.post e.sec e.addr (min 15 (e.missed + 1))] else [])) rd.answered (rd.missed + 1) rd.skipped := by
  have hby := s.failureTold_byLine i t .noReply
  have htold := (s.failureTold_told i t .noReply).trans
    (State.missedReport_spec ((State.entryAt_congr hby.dir hby.rosters i t.addr).trans he)
      ((State.lookup_congr hby.dir e.post).trans hl)).2
  have hsame := (s.failureTold i t .noReply).missedReport_supervised i t.addr
  have hquiet := hby.due.trans hdue
  have hcalls := State.missedReport_noCall (s.failureTold i t .noReply) i i t.addr
  have hx : ((s.failureTold i t .noReply).missedReport i t.addr).sec i = (s.sec i).landed.retime s.nowMs := by
    rw [State.sec, State.missedReport_secs]
    exact s.sec_failureTold i t .noReply
  have hflight := State.flightFailed_poll (s := s) (i := i) ho
  rw [State.sec_failureTold] at htold
  generalize (s.failureTold i t .noReply).missedReport i t.addr = w at *
  have hcloses : w.RoundCloses (w.pollEnded i t.addr Round.missedOne) i d [] rd.answered (rd.missed + 1) rd.skipped :=
    State.pollEnded_closes (f := Round.missedOne) (by rw [hx]; exact hd) (by rw [hx]; exact hround)
      (fun b hlt => (hsame.eligible i b).trans ((State.eligibleAddr_congr hby.dir hby.rosters i b).trans (hlast b hlt)))
  rw [State.finish_idle ((State.pollEnded_byLine w i _ _).due.trans (hcalls.due.trans hquiet))] at hflight
  have hp : ((w.pollEnded i t.addr Round.missedOne).sec i).pendingTiming = none := by
    rw [show (w.pollEnded i t.addr Round.missedOne).sec i = _ from w.pollEnded_counted i t.addr Round.missedOne, hx]
    exact hpend
  obtain ⟨hclosed, hafter⟩ := State.enterIdle_closed hp hcloses.1
  rw [State.failFlight_eq, hflight]
  exact hcloses.within htold (by rw [hx]; rfl) (by rw [hx]; rfl) hafter (State.enterIdle_byLine hp).dir hclosed

end fails

end Sys2Proof.Machine

open Sys2Proof Sys2Proof.Machine

/-- Settles O50: the attempt has failed at the window's end; the retry is the next attempt, and the failure has its report. -/
theorem replyWindowExpiryRetriesOrFails : Obligations.ReplyWindowExpiryRetriesOrFails := by
  intro s i x tm q hx hexch hin hactive hline
  subst hx
  have hrun : exec (.replyWindowExpiry i) s = .next ((s.reach (tm.start + tm.dur)).attemptFailed i) :=
    congrArg Host.Outcome.next (State.windowEnds_eq hexch)
  have hb : ((s.reach (tm.start + tm.dur)).sec i).Busy := .of_line hactive (.inl hline)
  have hin' : ((s.reach (tm.start + tm.dur)).sec i).inFlight = some q := hin
  refine ⟨fun hbudget hpair hsilent => ?_, fun hbudget => ?_⟩
  · rw [State.attemptFailed_sends hin' hbudget hpair] at hrun
    obtain ⟨hsend, hqueue, -⟩ := (s.reach (tm.start + tm.dur)).sendAttempt_spec i { q with attempts := q.attempts + 1 } hsilent
    have hby := (s.reach (tm.start + tm.dur)).sendAttempt_byLine i { q with attempts := q.attempts + 1 }
    obtain ⟨hnow, -, -, -, hlink, hreply, hdir, hoth⟩ := hby.byCalls.ofReach
    exact ⟨_, hrun, hsend.inFlight, hsend.line, hsend.exch, hqueue, hnow, rfl, hoth, hby.calls, hdir, hlink, hreply⟩
  · obtain ⟨hfails, hinner⟩ := State.attemptFailed_fails hb hin' hbudget
    rw [State.attemptFailed_spent hin' hbudget] at hrun hfails hinner
    refine ⟨_, hrun, hfails.start rfl rfl rfl rfl rfl rfl rfl rfl rfl, hinner.nowMs, fun r c ho hk hc hst => ?_,
      fun k e ho hk he hl hpend => ⟨?_, fun rd d hround hd hlast hdue => ?_⟩,
      ⟨hinner.rx, hinner.buffer, hinner.resetHeld, hinner.poweringUp⟩, ⟨hinner.reply, hinner.headTaken⟩, hinner.rosters,
      hinner.unresolved⟩
    · have hring := State.failFlight_ring (s := s.reach (tm.start + tm.dur)) (i := i) (r := .noReply)
        (t := { q with attempts := q.attempts + 1 }) ho hk hc hst
      obtain ⟨hgone, more, htells⟩ := hring
      have hmsg : (s.reach (tm.start + tm.dur)).failTold i { q with attempts := q.attempts + 1 } .noReply =
          .transactionFailed i q.addr ((s.slotAt i q.addr).getD 0) .ring .noReply (some r) none := by
        simp only [State.failTold, hk, ho]
        rfl
      obtain rfl : c.ref = r := (State.mem_of_findCall hc).2
      rw [hmsg] at htells
      exact ⟨hgone, ⟨more, htells.start rfl rfl rfl⟩, fun hsec hq hslot hp hsilent =>
        State.failFlight_ringStops (s := s.reach (tm.start + tm.dur)) (t := { q with attempts := q.attempts + 1 }) hb ho hk hc hst hsec
          hq hslot hp hsilent⟩
    · exact State.failFlight_missed hb ho he hl hpend
    · have hcloses := State.failFlight_closes (s := s.reach (tm.start + tm.dur)) (t := { q with attempts := q.attempts + 1 }) ho he
        hl hpend hround hd hlast hdue
      have hmsg : (s.reach (tm.start + tm.dur)).failTold i { q with attempts := q.attempts + 1 } .noReply =
          .transactionFailed i q.addr ((s.slotAt i q.addr).getD 0) .poll .noReply none none := by
        simp only [State.failTold, hk, ho]
        rfl
      rw [hmsg] at hcloses
      obtain ⟨hround', hflag, l, c, hl', hc, hbracket, htells⟩ := hcloses
      exact ⟨hround', hflag, l, c, hl', hc, hbracket, htells.start rfl rfl rfl⟩
end

section
/-! SUPPORT. The carrier of a pair, and whether it is disowned, stand through whatever the section controller does on the line. -/

-- One theorem after another: elaborated side by side, they ask for more thread stacks than the check has memory for.
set_option Elab.async false

namespace Sys2Proof.Machine

/-- The pair shows what it showed, to section `i`: its carrier, and whether that is disowned (R70). -/
structure State.PairKept (i : SectionId) (s t : State) : Prop where
  carrier : (t.sec i).carrier = (s.sec i).carrier
  disowned : (t.sec i).disowned = (s.sec i).disowned

theorem State.PairKept.refl (i : SectionId) (s : State) : s.PairKept i s := ⟨rfl, rfl⟩

theorem State.PairKept.trans {i : SectionId} {s t u : State} (h1 : State.PairKept i s t) (h2 : State.PairKept i t u) :
    State.PairKept i s u := ⟨h2.carrier.trans h1.carrier, h2.disowned.trans h1.disowned⟩

section pair
variable {s t : State} {i : SectionId}

theorem State.PairKept.pairFree (h : State.PairKept i s t) : (t.sec i).pairFree = (s.sec i).pairFree := by
  rw [SectionCtl.pairFree, h.carrier, h.disowned]
  rfl

theorem State.PairKept.ofSec (h : t.sec i = s.sec i) : State.PairKept i s t := ⟨by rw [h], by rw [h]⟩

theorem State.PairKept.ofWorked (h : (s.sec i).Worked (t.sec i)) : State.PairKept i s t :=
  ⟨by rw [show t.sec i = _ from h], by rw [show t.sec i = _ from h]⟩

theorem State.PairKept.ofCounted (h : (s.sec i).Counted (t.sec i)) : State.PairKept i s t :=
  ⟨by rw [show t.sec i = _ from h], by rw [show t.sec i = _ from h]⟩

variable (s i)

theorem State.modLine_pairKept (f : SectionCtl → SectionCtl) (hc : (f (s.sec i)).carrier = (s.sec i).carrier := by rfl)
    (hd : (f (s.sec i)).disowned = (s.sec i).disowned := by rfl) : s.PairKept i (s.modLine i f) := by
  constructor <;> rw [State.sec_modLine_self]
  · exact hc
  · exact hd

theorem State.modSec_pairKept (f : SectionCtl → SectionCtl) (hc : (f (s.sec i)).carrier = (s.sec i).carrier := by rfl)
    (hd : (f (s.sec i)).disowned = (s.sec i).disowned := by rfl) : s.PairKept i (s.modSec i f) := by
  constructor <;> rw [State.sec_modSec_self]
  · exact hc
  · exact hd

theorem State.arbiter_pairKept : s.PairKept i (s.arbiter i) := .ofWorked (s.arbiter_worked i)

theorem State.workArrived_pairKept : s.PairKept i (s.workArrived i) := .ofWorked (s.workArrived_worked i)

theorem State.enterIdle_pairKept : s.PairKept i (s.enterIdle i) := by
  have hidled := s.sec_settleIdle i
  refine State.PairKept.trans (t := s.settleIdle i) ⟨?_, ?_⟩ (State.arbiter_pairKept _ i) <;>
    rw [show (s.settleIdle i).sec i = _ from hidled]

theorem State.arrive_pairKept (w : WakeReason) : s.PairKept i (s.arrive i w) := by
  unfold State.arrive
  split
  · exact s.modLine_pairKept i _
  · exact s.modSec_pairKept i _
  · constructor <;> rw [State.sec_toActive_self] <;> rfl
  all_goals exact .refl i s

theorem State.offerNotice_pairKept (a : Addr) (k : TxnKind) (r : Nat) : s.PairKept i (s.offerNotice i a k r) := by
  unfold State.offerNotice
  split
  · exact .refl i s
  all_goals
    exact ((s.arrive_pairKept i .call).trans (State.modSec_pairKept _ i _)).trans (State.workArrived_pairKept _ i)

theorem State.endCall_pairKept (c : Call) (e : EndCause) : s.PairKept i (s.endCall c e) := by
  by_cases hi : i = c.sec
  · subst hi
    have hnotice := (State.PairKept.ofSec (i := c.sec) (s.retireCall_sec c e c.sec)).trans
      ((s.retireCall c e).offerNotice_pairKept c.sec c.addr c.closing c.ref)
    unfold State.endCall State.freeHeld
    split
    · exact (hnotice.trans (.ofSec (State.releaseHeld_sec _ c c.sec))).trans (State.arbiter_pairKept _ c.sec)
    · exact hnotice.trans (.ofSec (State.releaseHeld_sec _ c c.sec))
  · exact .ofSec ((s.endCall_byCalls c e).others i hi).1

theorem State.noticeFailed_pairKept (k : TxnKind) (r : Nat) : s.PairKept i (s.noticeFailed k r) := by
  unfold State.noticeFailed
  split
  · split
    · exact s.endCall_pairKept i _ _
    · exact .refl i s
  · exact .refl i s

/-- The report of a failure (R79). -/
theorem State.reportFailed_pairKept (t : Txn) (r : FailReason) : s.PairKept i (s.reportFailed i t r) := by
  have hpost : s.PairKept i (s.post (s.failTold i t r)) := .ofSec (State.sec_post _ _ _)
  cases ho : t.origin with
  | round =>
    rw [State.reportFailed_round ho]
    exact hpost.trans (.ofCounted (State.pollFailed_counted _ i t.addr r).1)
  | host =>
    rw [State.reportFailed_host ho]
    exact hpost
  | call n =>
    rw [State.reportFailed_call ho]
    exact hpost.trans (State.noticeFailed_pairKept _ i t.kind n)

theorem State.flightFailed_pairKept (t : Txn) (r : FailReason) : s.PairKept i (s.flightFailed i t r) :=
  ((s.modLine_pairKept i _).trans ((s.clearFlight i).reportFailed_pairKept i t r)).trans (.ofSec (State.finish_sec _ i))

theorem State.failFlight_pairKept (t : Txn) (r : FailReason) : s.PairKept i (s.failFlight i t r) :=
  (s.flightFailed_pairKept i t r).trans (State.enterIdle_pairKept _ i)

/-! ## What the controller does, as one frame -/

/-- The frame of what a line does with its reports: the calls and the directory may follow, but nothing outside them, and the pair
stays. -/
structure State.Acted (i : SectionId) (s t : State) : Prop where
  inner : s.Inner t
  pair : s.PairKept i t

variable {s i}

theorem State.Acted.refl : s.Acted i s := ⟨.refl s, .refl i s⟩

theorem State.Acted.trans {u : State} (h1 : s.Acted i t) (h2 : t.Acted i u) : s.Acted i u :=
  ⟨h1.inner.trans h2.inner, h1.pair.trans h2.pair⟩

variable (s i)

theorem State.failFlight_acted (t : Txn) (r : FailReason) : s.Acted i (s.failFlight i t r) :=
  ⟨s.failFlight_inner i t r, s.failFlight_pairKept i t r⟩

theorem State.sendAttempt_acted (t : Txn) : s.Acted i (s.sendAttempt i t) :=
  ⟨(s.sendAttempt_byLine i t).toInner, s.modLine_pairKept i _⟩

theorem State.burstEnded_acted : s.Acted i (s.burstEnded i) := ⟨(s.burstEnded_byLine i).toInner, s.modSec_pairKept i _⟩

theorem State.clearFlight_acted : s.Acted i (s.clearFlight i) := ⟨(s.clearFlight_byLine i).toInner, s.modLine_pairKept i _⟩

theorem State.enterIdle_acted : s.Acted i (s.enterIdle i) := ⟨(s.enterIdle_noCall i).toInner, s.enterIdle_pairKept i⟩

theorem State.workArrived_acted : s.Acted i (s.workArrived i) := ⟨(s.workArrived_byLine i).toInner, s.workArrived_pairKept i⟩

theorem State.resumeFlight_acted : s.Acted i (s.resumeFlight i) := by
  unfold State.resumeFlight
  split
  · split
    · exact s.failFlight_acted i _ _
    · exact s.sendAttempt_acted i _
  · exact .refl

theorem State.attemptFailed_acted : s.Acted i (s.attemptFailed i) := by
  unfold State.attemptFailed
  split
  · split
    · exact s.failFlight_acted i _ _
    · split
      · exact s.sendAttempt_acted i _
      · exact ⟨(s.modLine_byLine i _).toInner, s.modLine_pairKept i _⟩
  · exact .refl

theorem State.returnTxn_acted (t : Txn) : s.Acted i (s.returnTxn i t) := by
  refine ⟨(s.returnTxn_byLine i t).toInner, ?_⟩
  unfold State.returnTxn
  split
  all_goals exact s.modSec_pairKept i _

theorem State.returnYielded_acted : s.Acted i (s.returnYielded i) := by
  unfold State.returnYielded
  split
  · split
    · exact ⟨s.flightFailed_inner i _ _, s.flightFailed_pairKept i _ _⟩
    · exact (s.clearFlight_acted i).trans (State.returnTxn_acted _ i _)
  · exact s.clearFlight_acted i

theorem State.endForeign_acted : s.Acted i (s.endForeign i) := (s.returnYielded_acted i).trans (State.enterIdle_acted _ i)

/-- What follows the stuck limit (R70). -/
theorem State.stuckOutcome_acted : s.Acted i (s.stuckOutcome i) := by
  unfold State.stuckOutcome
  split
  · exact s.workArrived_acted i
  · exact s.resumeFlight_acted i
  · exact s.attemptFailed_acted i
  · exact (s.burstEnded_acted i).trans (State.attemptFailed_acted _ i)
  · exact (s.burstEnded_acted i).trans (State.endForeign_acted _ i)
  · exact s.endForeign_acted i
  · exact s.endForeign_acted i
  all_goals exact .refl

end pair

end Sys2Proof.Machine
end

section
/-! SUPPORT. Carrier drops, and the stuck limit: what the exchange on the line makes of a pair that is free again. -/

-- One theorem after another: elaborated side by side, they ask for more thread stacks than the check has memory for.
set_option Elab.async false

namespace Sys2Proof.Machine

/-! ## An attempt sent again -/

/-- Section `i` has started an attempt of `q`, and nothing else has changed but its line. -/
structure State.Resends (s t : State) (i : SectionId) (q : Txn) : Prop where
  sends : (s.sec i).Sends (t.sec i) q s.nowMs
  queue : (t.sec i).queue = (s.sec i).queue
  idleSince : (t.sec i).idleSince = (s.sec i).idleSince
  events : t.events = s.events
  ltu : t.ltu = s.ltu
  byLine : s.ByLine i t

section freed
variable {s : State} {i : SectionId} {q : Txn}

theorem State.sendAttempt_resends (i : SectionId) (q : Txn) (hs : s.silent = false) : s.Resends (s.sendAttempt i q) i q := by
  obtain ⟨hsend, hqueue, hidle, -⟩ := s.sendAttempt_spec i q hs
  exact ⟨hsend, hqueue, hidle, rfl, rfl, s.sendAttempt_byLine i q⟩

theorem SectionCtl.retime_freed {x : SectionCtl} (now : Nat) (h : x.pairFree = true) : (x.retime now).stuckTimer = none :=
  if_neg (by simp [SectionCtl.stuckRuns, h])

/-- With nothing to do, the pair free, the line stays IDLE and no stuck timer runs (R70). -/
theorem State.succeed_stuckTimer (hslot : (s.sec i).slot = none) (hq : (s.sec i).queue = []) (hr : (s.sec i).round = none)
    (hp : (s.sec i).pairFree = true) : ((s.succeed i).sec i).stuckTimer = none := by
  have hx := s.sec_clearFlight_self i
  have hpair : ((State.applyPending i (s.clearFlight i)).sec i).pairFree = true := by
    have hidled := ((s.clearFlight i).sec_settleIdle i).pairFree
    rw [State.settleIdle, State.sec_modLine_self, hx] at hidled
    exact hidled.trans hp
  rw [State.succeed, State.enterIdle_nothing (State.measureRunnable_none (by rw [hx]; exact hslot)) (by rw [hx]; exact hq)
    (by rw [hx]; exact hr), State.settleIdle, State.sec_modLine_self]
  exact SectionCtl.retime_freed _ hpair

/-! ## The drop of a carrier -/

/-- The carrier has dropped (R70). -/
def State.dropped (i : SectionId) (s : State) : State := s.modLine i (fun x => { x with carrier := false, disowned := false })

theorem State.sec_dropped (s : State) (i : SectionId) :
    (s.dropped i).sec i = { s.sec i with carrier := false, disowned := false }.retime s.nowMs := State.sec_modLine_self _ _ _

theorem State.dropped_byLine (s : State) (i : SectionId) : s.ByLine i (s.dropped i) := s.modLine_byLine i _

theorem State.carrierDown_eq (h : (s.sec i).carrier = true) : s.carrierDown i = (s.dropped i).carrierGone i := if_pos h

theorem State.sec_burstEnded_self (s : State) (i : SectionId) :
    (s.burstEnded i).sec i = { s.sec i with idleSince := some s.nowMs } := State.sec_modSec_self _ _ _

/-- A failure after the drop, as the statements read it: from the state with the carrier gone. -/
theorem State.FlightFails.afterDrop {u t : State} {r : FailReason} {n : Option Nat} (h : u.FlightFails t i q r n)
    (hu : u = s.dropped i ∨ u = (s.dropped i).burstEnded i) :
    (s.setSec i { s.sec i with carrier := false, disowned := false }).FlightFails t i q r n := by
  have hx := s.sec_dropped i
  rcases hu with rfl | rfl
  · refine h.start rfl rfl rfl rfl ?_ ?_ ?_ ?_ ?_ <;> rw [State.sec_setSec_self, hx] <;> rfl
  · refine h.start rfl rfl rfl rfl ?_ ?_ ?_ ?_ ?_ <;> rw [State.sec_setSec_self, State.sec_burstEnded_self, hx] <;> rfl

theorem State.FlightFails.afterBurst {t : State} {r : FailReason} {n : Option Nat}
    (h : (s.burstEnded i).FlightFails t i q r n) : s.FlightFails t i q r n := by
  refine h.start rfl rfl rfl rfl ?_ ?_ ?_ ?_ ?_ <;> rw [s.sec_burstEnded_self i] <;> rfl

theorem SectionCtl.Sends.afterBurst {y : SectionCtl} {n : Nat} (h : ((s.burstEnded i).sec i).Sends y q n) :
    (s.sec i).Sends y q n := by
  have hexch := h.exch
  rw [s.sec_burstEnded_self i] at hexch
  exact ⟨h.line, h.inFlight, hexch⟩

/-- The frame of a failure after the drop. -/
theorem State.Acted.afterDrop {u t : State} (h : u.Acted i t) (hu : u = s.dropped i ∨ u = (s.dropped i).burstEnded i) :
    (t.sec i).carrier = false ∧ s.SameOutside t ∧ t.unresolved = s.unresolved := by
  have hdrop : s.ByLine i (s.dropped i) := s.dropped_byLine i
  obtain ⟨hby, hc⟩ : s.Inner u ∧ (u.sec i).carrier = false := by
    rcases hu with rfl | rfl
    · exact ⟨hdrop.toInner, by rw [s.sec_dropped i]; rfl⟩
    · exact ⟨(hdrop.trans (State.burstEnded_byLine _ i)).toInner, by rw [State.sec_burstEnded_self, s.sec_dropped i]; rfl⟩
  have hinner := hby.trans h.inner
  exact ⟨h.pair.carrier.trans hc, ⟨⟨hinner.rx, hinner.buffer, hinner.resetHeld, hinner.poweringUp⟩,
    ⟨hinner.reply, hinner.headTaken⟩, ⟨hinner.mode, hinner.globals, hinner.seconds, hinner.nowMs⟩, hinner.rosters⟩, hinner.unresolved⟩

/-! ## The stuck limit -/

/-- The stuck limit is reached: the carrier is disowned, and LINE_STUCK told (R70). -/
def State.limitReached (i : SectionId) (now : Nat) (s : State) : State :=
  ((s.reach now).modLine i (fun x => { x with disowned := true })).post (.lineStuck i)

theorem State.stuckLimit_eq {tm : Timer} (h : (s.sec i).stuckTimer = some tm) :
    s.stuckLimit i = (s.limitReached i (tm.start + tm.dur)).stuckOutcome i := by
  rw [State.stuckLimit, h]
  rfl

theorem State.sec_limitReached (s : State) (i : SectionId) (n : Nat) :
    (s.limitReached i n).sec i = { s.sec i with disowned := true }.retime (max s.nowMs n) := by
  rw [State.limitReached, State.sec_post, State.sec_modLine_self]
  rfl

theorem State.limitReached_byLine (s : State) (i : SectionId) (n : Nat) : (s.reach n).ByLine i (s.limitReached i n) :=
  (State.modLine_byLine _ i _).trans (State.post_byLine _ i _)

theorem State.limitReached_told (s : State) (i : SectionId) (n : Nat) : s.Told (s.limitReached i n) [.lineStuck i] :=
  State.Told.afterQuiet (t := (s.reach n).modLine i (fun x => { x with disowned := true })) .quiet (State.post_told _ _)

/-- The disowned pair is free for the section controller (R70). -/
theorem State.limitReached_free (s : State) (i : SectionId) (n : Nat) : ((s.limitReached i n).sec i).pairFree = true := by
  rw [State.sec_limitReached]
  simp [SectionCtl.pairFree, SectionCtl.retime]

/-- What the stuck limit makes of an attempt whose outcome the carrier hid (R46, R47, R70): `n` attempts used are compared with the
budget. -/
theorem State.stuckOutcome_owned (hb : (s.sec i).Busy) (hp : (s.sec i).pairFree = true) (hin : (s.sec i).inFlight = some q) {n : Nat}
    (hn : (((s.sec i).exch = .reply ∨ ∃ tw, (s.sec i).exch = .window tw) ∧ n = q.attempts + 1) ∨
      ((s.sec i).exch = .retryWait ∧ n = q.attempts)) :
    (n ≤ (s.sec i).timingD.retries → s.silent = false →
      (s.sec i).Sends ((s.stuckOutcome i).sec i) { q with attempts := n } s.nowMs ∧ (s.stuckOutcome i).events = s.events) ∧
    ((s.sec i).timingD.retries < n → s.FlightFails (s.stuckOutcome i) i q .noReply none) := by
  rcases hn with ⟨hex | ⟨tw, hex⟩, rfl⟩ | ⟨hex, rfl⟩
  all_goals rw [State.stuckOutcome, hex]; dsimp only
  · have hy := s.sec_burstEnded_self i
    have hin' : ((s.burstEnded i).sec i).inFlight = some q := by rw [hy]; exact hin
    have hb' : ((s.burstEnded i).sec i).Busy := by rw [hy]; exact ⟨hb.active, hb.idle, hb.brk⟩
    have htiming : ((s.burstEnded i).sec i).timingD = (s.sec i).timingD := by rw [hy]; rfl
    refine ⟨fun hle hs => ?_, fun hlt => (State.attemptFailed_fails hb' hin' (by rw [htiming]; omega)).1.afterBurst⟩
    have hsends := State.sendAttempt_resends (s := s.burstEnded i) i { q with attempts := q.attempts + 1 } hs
    rw [State.attemptFailed_sends hin' (by rw [htiming]; omega) (by rw [hy]; exact hp)]
    exact ⟨hsends.sends.afterBurst, hsends.events⟩
  · refine ⟨fun hle hs => ?_, fun hlt => (State.attemptFailed_fails hb hin (by omega)).1⟩
    rw [State.attemptFailed_sends hin (by omega) hp]
    have hsends := State.sendAttempt_resends i { q with attempts := q.attempts + 1 } hs
    exact ⟨hsends.sends, hsends.events⟩
  · refine ⟨fun hle hs => ?_, fun hlt => (State.resumeFlight_fails hb hin hlt).1⟩
    rw [State.resumeFlight_sends hin hle]
    have hsends := State.sendAttempt_resends i q hs
    exact ⟨hsends.sends, hsends.events⟩

end freed

end Sys2Proof.Machine
end

section
/-! SUPPORT. Carrier appears and drops, and the stuck limit is reached. -/

-- One theorem after another: elaborated side by side, they ask for more thread stacks than the check has memory for.
set_option Elab.async false

namespace Sys2Proof.Machine

section foreign
variable {s : State} {i : SectionId} {q : Txn}

theorem State.Rests.afterBurst {t : State} (h : (s.burstEnded i).Rests t i) : s.Rests t i :=
  ⟨h.line, h.exch, h.inFlight, h.idleSince, h.events, h.ltu, (s.burstEnded_byLine i).trans h.byLine⟩

theorem State.GoesOn.afterBurst {t : State} {qs : List Txn} (h : (s.burstEnded i).GoesOn t i q qs) : s.GoesOn t i q qs :=
  ⟨h.sends.afterBurst, h.queue, h.idleSince, h.events, h.ltu, (s.burstEnded_byLine i).trans h.byLine⟩

/-- A line with nothing to do rests once the post's burst is over. -/
theorem State.endForeign_rests (hpend : (s.sec i).pendingTiming = none) (hin : (s.sec i).inFlight = none)
    (hq : (s.sec i).queue = []) (hslot : (s.sec i).slot = none) (hr : (s.sec i).round = none) : s.Rests (s.endForeign i) i := by
  rw [State.endForeign_none hin]
  exact State.succeed_rests hpend hslot hq hr

/-- An incomplete post burst that is over: nothing was to be done. -/
theorem State.burstEnded_rests (hpend : (s.sec i).pendingTiming = none) (hin : (s.sec i).inFlight = none)
    (hq : (s.sec i).queue = []) (hslot : (s.sec i).slot = none) (hr : (s.sec i).round = none) :
    s.Rests ((s.burstEnded i).endForeign i) i := by
  refine (State.endForeign_rests ?_ ?_ ?_ ?_ ?_).afterBurst <;> rw [s.sec_burstEnded_self i] <;> assumption

/-- An incomplete post burst that is over: the yielded transaction is sent again. -/
theorem State.burstEnded_goesOn (hpend : (s.sec i).pendingTiming = none) (hin : (s.sec i).inFlight = some q) (hl : q.losses < 2)
    (hk : q.kind ≠ .poll) (hq : ∀ u ∈ (s.sec i).queue, u.addr ≠ q.addr) (hslot : (s.sec i).slot = none)
    (hp : (s.sec i).pairFree = true) (hs : s.silent = false) :
    s.GoesOn ((s.burstEnded i).endForeign i) i q.oneLoss (s.sec i).queue := by
  have hy := s.sec_burstEnded_self i
  have hgo := State.endForeign_goesOn (s := s.burstEnded i) (i := i) (q := q) (by rw [hy]; exact hpend) (by rw [hy]; exact hin) hl hk
    (by rw [hy]; exact hq) (by rw [hy]; exact hslot) (by rw [hy]; exact hp) hs
  rw [show ((s.burstEnded i).sec i).queue = (s.sec i).queue by rw [hy]] at hgo
  exact hgo.afterBurst

/-- What the stuck limit makes of a post's burst (R53, R54, R70). -/
theorem State.stuckOutcome_foreign
    (hex : (s.sec i).exch = .post ∨ (s.sec i).exch = .discarded ∨ ∃ outs l, (s.sec i).exch = .answerDue outs l)
    (hpend : (s.sec i).pendingTiming = none) (hslot : (s.sec i).slot = none) (hp : (s.sec i).pairFree = true) :
    ((s.sec i).inFlight = none → (s.sec i).queue = [] → (s.sec i).round = none → s.Rests (s.stuckOutcome i) i) ∧
    (∀ q, (s.sec i).inFlight = some q → q.losses < 2 → q.kind ≠ .poll → (∀ u ∈ (s.sec i).queue, u.addr ≠ q.addr) →
      s.silent = false → s.GoesOn (s.stuckOutcome i) i q.oneLoss (s.sec i).queue) := by
  have hrest : (s.sec i).inFlight = none → (s.sec i).queue = [] → (s.sec i).round = none → s.Rests (s.endForeign i) i :=
    fun hin hq hr => State.endForeign_rests hpend hin hq hslot hr
  have hgo : ∀ q, (s.sec i).inFlight = some q → q.losses < 2 → q.kind ≠ .poll → (∀ u ∈ (s.sec i).queue, u.addr ≠ q.addr) →
      s.silent = false → s.GoesOn (s.endForeign i) i q.oneLoss (s.sec i).queue :=
    fun q hin hl hk hq hs => State.endForeign_goesOn hpend hin hl hk hq hslot hp hs
  unfold State.stuckOutcome
  rcases hex with h | h | ⟨outs, l, h⟩ <;> rw [h] <;> dsimp only
  · exact ⟨fun hin hq hr => State.burstEnded_rests hpend hin hq hslot hr,
      fun q hin hl hk hq hs => State.burstEnded_goesOn hpend hin hl hk hq hslot hp hs⟩
  · exact ⟨hrest, hgo⟩
  · exact ⟨hrest, hgo⟩

end foreign

/-! ## Carrier appears -/

section appears
variable {s : State} {i : SectionId}

theorem State.carrierUp_eq (h : (s.sec i).carrier = false) :
    s.carrierUp i = s.modLine i (fun x => { x with carrier := true, disowned := false }) := if_neg (by simp [h])

/-- The stuck timer as the carrier appears (R70). -/
theorem SectionCtl.retime_stuck {x : SectionCtl} (now : Nat) (ha : x.power = .active)
    (hl : x.line = .idle ∨ x.line = .unknown ∨ x.line = .foreign) (hs : x.isSending = false) (ht : x.stuckTimer = none)
    (hp : x.pairFree = false) : (x.retime now).stuckTimer = some ⟨now, 1000 * x.timingD.stuck⟩ := by
  have hruns : x.stuckRuns = true := by
    rcases hl with h | h | h <;> simp [SectionCtl.stuckRuns, ha, h, hs, hp]
  simp [SectionCtl.retime, SectionCtl.keepTimer, hruns, ht]

/-- The quiet timer of a line in UNKNOWN on a free pair (R66). -/
theorem SectionCtl.retime_unknown {x : SectionCtl} (now : Nat) (ha : x.power = .active) (hl : x.line = .unknown)
    (hp : x.pairFree = true) (ht : x.quietTimer = none) :
    (x.retime now).quietTimer = if x.space then none else some ⟨now, 500⟩ := by
  cases hsp : x.space <;> simp [SectionCtl.retime, SectionCtl.keepTimer, SectionCtl.quietRuns, ha, hl, hp, hsp, ht]

/-! ## Carrier gone -/

theorem State.carrierGone_discarded (h : (s.sec i).exch = .discarded) : s.carrierGone i = s.endForeign i := by
  rw [State.carrierGone, h]

theorem State.carrierGone_answerDue {outs : List OutRec} {l : List CheckFlag} (h : (s.sec i).exch = .answerDue outs l) :
    s.carrierGone i = s.sendAnswer i outs l := by
  rw [State.carrierGone, h]

theorem State.carrierGone_retryWait (h : (s.sec i).exch = .retryWait) : s.carrierGone i = s.resumeFlight i := by
  rw [State.carrierGone, h]

theorem State.carrierGone_reply (h : (s.sec i).exch = .reply) : s.carrierGone i = (s.burstEnded i).attemptFailed i := by
  rw [State.carrierGone, h]

theorem State.carrierGone_post (h : (s.sec i).exch = .post) : s.carrierGone i = (s.burstEnded i).endForeign i := by
  rw [State.carrierGone, h]

theorem State.sendAnswer_sends {outs : List OutRec} {l : List CheckFlag} (hp : (s.sec i).pairFree = true) (hs : s.silent = false) :
    s.sendAnswer i outs l = s.modLine i (fun x => { x with exch := .answering ⟨x.syncWord, .absent, outs⟩ l }) :=
  if_pos (by simp [hp, hs])

theorem State.stuckOutcome_quiet (h : (s.sec i).exch = .quiet) : s.stuckOutcome i = s.workArrived i := by
  rw [State.stuckOutcome, h]

end appears

end Sys2Proof.Machine

open Sys2Proof Sys2Proof.Machine

/-- Settles O55: the exchange that stands on the line says what follows as the pair becomes free of carrier. -/
theorem carrierHoldsThePairUntilItDropsOrIsDisowned : Obligations.CarrierHoldsThePairUntilItDropsOrIsDisowned := by
  rintro s i _ rfl
  have hdrops : (s.sec i).carrier = true → exec (.carrierDrops i) s = .next ((s.dropped i).carrierGone i) :=
    fun hc => congrArg Host.Outcome.next (State.carrierDown_eq hc)
  have hx := s.sec_dropped i
  have hby := s.dropped_byLine i
  have hfree : ((s.dropped i).sec i).pairFree = true := by rw [hx]; rfl
  have hnoCarrier : ((s.dropped i).sec i).carrier = false := by rw [hx]; rfl
  refine ⟨fun hc => congrArg Host.Outcome.next (if_pos hc), fun hc => ?_, fun hc => congrArg Host.Outcome.next (if_neg (by simp [hc])),
    fun hc hex hin hq hslot hr hpend => ?_, fun recs l hc hex hs => ?_, fun q hc hex hin ha hl => ⟨fun hle hs => ?_, fun hlt => ?_⟩,
    fun q hc hex hin ha hl => ⟨fun hlt hs => ?_, fun hle => ?_⟩, fun hc hex ha hl hslot hpend => ⟨fun hin hq hr => ?_,
    fun q hin hlt hk hq hs => ?_⟩, fun tm htm => ?_⟩
  · have hy : (s.modLine i (fun x => { x with carrier := true, disowned := false })).sec i =
        { s.sec i with carrier := true, disowned := false }.retime s.nowMs := State.sec_modLine_self _ _ _
    refine ⟨_, congrArg Host.Outcome.next (State.carrierUp_eq hc), ?_, ?_, ?_, ?_, fun ha hl hsend hst => ?_, rfl, rfl,
      (s.modLine_byLine i _).onlyLine⟩ <;> rw [hy]
    · rfl
    · rfl
    · rfl
    · exact if_neg (by simp [SectionCtl.quietRuns, SectionCtl.pairFree])
    · exact SectionCtl.retime_stuck _ ha hl hsend hst rfl
  · have hrests := State.endForeign_rests (s := s.dropped i) (i := i) (by rw [hx]; exact hpend) (by rw [hx]; exact hin)
      (by rw [hx]; exact hq) (by rw [hx]; exact hslot) (by rw [hx]; exact hr)
    have hacted := (s.dropped i).endForeign_acted i
    have hstuck := State.succeed_stuckTimer (s := s.dropped i) (i := i) (by rw [hx]; exact hslot) (by rw [hx]; exact hq)
      (by rw [hx]; exact hr) hfree
    rw [State.endForeign_none (by rw [hx]; exact hin)] at hrests hacted
    refine ⟨_, (hdrops hc).trans (by rw [State.carrierGone_discarded (by rw [hx]; exact hex),
      State.endForeign_none (by rw [hx]; exact hin)]), hacted.pair.carrier.trans hnoCarrier, hrests.line, hrests.exch, hstuck,
      hrests.events, hrests.ltu, (hby.trans hrests.byLine).onlyLine⟩
  · have hsend := (hdrops hc).trans (congrArg Host.Outcome.next ((State.carrierGone_answerDue (outs := recs) (l := l)
      (by rw [hx]; exact hex)).trans (State.sendAnswer_sends hfree hs)))
    refine ⟨_, hsend, ?_, ?_, ?_, rfl, rfl, (hby.trans (State.modLine_byLine _ i _)).onlyLine⟩ <;>
      rw [State.sec_modLine_self, hx] <;> rfl
  · have hin' : ((s.dropped i).sec i).inFlight = some q := by rw [hx]; exact hin
    have hsends := State.sendAttempt_resends (s := s.dropped i) i q hs
    have hacted := (s.dropped i).sendAttempt_acted i q
    have hexch := hsends.sends.exch
    have hqueue := hsends.queue
    rw [hx] at hexch hqueue
    exact ⟨_, (hdrops hc).trans (congrArg Host.Outcome.next ((State.carrierGone_retryWait (by rw [hx]; exact hex)).trans
      (State.resumeFlight_sends hin' (by rw [hx]; exact hle)))), hacted.pair.carrier.trans hnoCarrier, hsends.sends.line,
      hsends.sends.inFlight, hqueue, hexch, hsends.events, hsends.ltu, (hby.trans hsends.byLine).onlyLine⟩
  · have hin' : ((s.dropped i).sec i).inFlight = some q := by rw [hx]; exact hin
    have hb : ((s.dropped i).sec i).Busy := by rw [hx]; exact .of_line ha (.inl hl)
    obtain ⟨hcarrier, hout, hunres⟩ := ((s.dropped i).resumeFlight_acted i).afterDrop (.inl rfl)
    exact ⟨_, (hdrops hc).trans (congrArg Host.Outcome.next (State.carrierGone_retryWait (by rw [hx]; exact hex))), hcarrier,
      (State.resumeFlight_fails hb hin' (by rw [hx]; exact hlt)).1.afterDrop (.inl rfl), hout, hunres⟩
  · have hy := (s.dropped i).sec_burstEnded_self i
    rw [hx] at hy
    have hsends := State.sendAttempt_resends (s := (s.dropped i).burstEnded i) i { q with attempts := q.attempts + 1 } hs
    have hacted := ((s.dropped i).burstEnded_acted i).trans (State.sendAttempt_acted _ i { q with attempts := q.attempts + 1 })
    have hexch := hsends.sends.exch
    have hqueue := hsends.queue
    have hidle := hsends.idleSince
    rw [hy] at hexch hqueue hidle
    exact ⟨_, (hdrops hc).trans (congrArg Host.Outcome.next ((State.carrierGone_reply (by rw [hx]; exact hex)).trans
      (State.attemptFailed_sends (by rw [hy]; exact hin) (by rw [hy]; exact hlt) (by rw [hy]; rfl)))),
      hacted.pair.carrier.trans hnoCarrier, hsends.sends.line, hsends.sends.inFlight, hqueue, hidle, hexch, hsends.events,
      hsends.ltu, ((hby.trans (State.burstEnded_byLine _ i)).trans hsends.byLine).onlyLine⟩
  · have hy := (s.dropped i).sec_burstEnded_self i
    rw [hx] at hy
    have hb : (((s.dropped i).burstEnded i).sec i).Busy := by rw [hy]; exact .of_line ha (.inl hl)
    obtain ⟨hcarrier, hout, hunres⟩ := (State.attemptFailed_acted ((s.dropped i).burstEnded i) i).afterDrop (.inr rfl)
    exact ⟨_, (hdrops hc).trans (congrArg Host.Outcome.next (State.carrierGone_reply (by rw [hx]; exact hex))), hcarrier,
      (State.attemptFailed_fails hb (by rw [hy]; exact hin) (by rw [hy]; exact hle)).1.afterDrop (.inr rfl), hout, hunres⟩
  · have hacted := ((s.dropped i).burstEnded_acted i).trans (State.endForeign_acted _ i)
    have hrests := State.burstEnded_rests (s := s.dropped i) (i := i) (by rw [hx]; exact hpend) (by rw [hx]; exact hin)
      (by rw [hx]; exact hq) (by rw [hx]; exact hslot) (by rw [hx]; exact hr)
    exact ⟨_, (hdrops hc).trans (congrArg Host.Outcome.next (State.carrierGone_post (by rw [hx]; exact hex))),
      hacted.pair.carrier.trans hnoCarrier, hrests.line, hrests.exch, hrests.idleSince, hrests.events, hrests.ltu,
      (hby.trans hrests.byLine).onlyLine⟩
  · have hacted := ((s.dropped i).burstEnded_acted i).trans (State.endForeign_acted _ i)
    have hgo := State.burstEnded_goesOn (s := s.dropped i) (i := i) (q := q) (by rw [hx]; exact hpend) (by rw [hx]; exact hin) hlt hk
      (by rw [hx]; exact hq) (by rw [hx]; exact hslot) hfree hs
    have hqueue := hgo.queue
    rw [hx] at hqueue
    exact ⟨_, (hdrops hc).trans (congrArg Host.Outcome.next (State.carrierGone_post (by rw [hx]; exact hex))),
      hacted.pair.carrier.trans hnoCarrier, hgo.sends.line, hgo.sends.inFlight, hqueue, hgo.events, hgo.ltu,
      (hby.trans hgo.byLine).onlyLine⟩
  · clear hdrops hx hby hfree hnoCarrier
    have hx := s.sec_limitReached i (tm.start + tm.dur)
    have htold := s.limitReached_told i (tm.start + tm.dur)
    have hby := s.limitReached_byLine i (tm.start + tm.dur)
    have hfree := s.limitReached_free i (tm.start + tm.dur)
    have hrun : exec (.stuckLimit i) s = .next ((s.limitReached i (tm.start + tm.dur)).stuckOutcome i) :=
      congrArg Host.Outcome.next (State.stuckLimit_eq htm)
    have hacted := (s.limitReached i (tm.start + tm.dur)).stuckOutcome_acted i
    have hltu : (s.limitReached i (tm.start + tm.dur)).ltu = s.ltu := State.post_ltu _ _
    have hnow : (s.limitReached i (tm.start + tm.dur)).nowMs = max s.nowMs (tm.start + tm.dur) := hby.nowMs
    generalize s.limitReached i (tm.start + tm.dur) = u at *
    have hinner := hby.toInner.trans hacted.inner
    refine ⟨_, hrun, ?_, htold.first hacted.inner, hinner.nowMs, fun hex hl hslot hs q qs hq => ?_, fun hex ha hl hquiet => ?_,
      fun q n ha hl hin hn => ⟨fun hle hs => ?_, fun hlt => ?_⟩, fun ha hl hpend hslot hex => ⟨fun hin hq hr => ?_,
      fun q hin hlt hk hq hs => ?_⟩, ⟨hinner.rx, hinner.buffer, hinner.resetHeld, hinner.poweringUp⟩,
      ⟨hinner.reply, hinner.headTaken⟩, hinner.seconds, hinner.mode, hinner.globals⟩
    · rw [hacted.pair.disowned, hx]
      rfl
    · obtain ⟨hsend, hqueue, -⟩ := State.arbiter_sends (s := u) (i := i) (by rw [hx]; exact hl) hfree
        (State.measureRunnable_none (by rw [hx]; exact hslot)) (hby.silent.trans hs) (by rw [hx]; exact hq)
      rw [State.stuckOutcome_quiet (by rw [hx]; exact hex), State.workArrived_idle (by rw [hx]; exact hl)]
      exact ⟨hsend.line, hsend.inFlight, hqueue⟩
    · have hline : (u.sec i).line = .unknown := by rw [hx]; exact hl
      rw [State.stuckOutcome_quiet (by rw [hx]; exact hex), State.workArrived_busy (by rw [hline]; nofun)]
      refine ⟨hline, by rw [hx]; rfl, by rw [hx]; rfl, ?_, htold.tells, hltu, hby.calls, ⟨hby.dir, hby.rosters, hby.unresolved⟩,
        hby.others⟩
      rw [hx, hnow]
      exact SectionCtl.retime_unknown _ ha hl (by simp [SectionCtl.pairFree]) hquiet
    · have hb : (u.sec i).Busy := by rw [hx]; exact .of_line ha (.inl hl)
      obtain ⟨hsend, he⟩ := (State.stuckOutcome_owned hb hfree (by rw [hx]; exact hin) (by rw [hx]; exact hn)).1
        (by rw [hx]; exact hle) (hby.silent.trans hs)
      have hexch := hsend.exch
      rw [hx, ← hacted.inner.nowMs] at hexch
      exact ⟨hsend.line, hsend.inFlight, hexch, (htold.thenQuiet (.quiet he hacted.inner.silent hacted.inner.seconds)).tells⟩
    · have hb : (u.sec i).Busy := by rw [hx]; exact .of_line ha (.inl hl)
      obtain ⟨⟨more, htells⟩, -⟩ := (State.stuckOutcome_owned hb hfree (by rw [hx]; exact hin) (by rw [hx]; exact hn)).2
        (by rw [hx]; exact hlt)
      have hslotAt : u.slotAt i q.addr = s.slotAt i q.addr := State.slotAt_congr hby.rosters i q.addr
      rw [hslotAt] at htells
      exact ⟨more, htold.tells.trans htold.silent htold.seconds htells⟩
    · have hrests := (State.stuckOutcome_foreign (s := u) (i := i) (by rw [hx]; exact hex) (by rw [hx]; exact hpend)
        (by rw [hx]; exact hslot) hfree).1 (by rw [hx]; exact hin) (by rw [hx]; exact hq) (by rw [hx]; exact hr)
      have hframe := hby.trans hrests.byLine
      exact ⟨hrests.line, hrests.exch, hrests.inFlight, (htold.thenQuiet (.ofByLine hrests.byLine hrests.events)).tells,
        hframe.calls, ⟨hframe.dir, hframe.rosters, hframe.unresolved⟩⟩
    · have hgo := (State.stuckOutcome_foreign (s := u) (i := i) (by rw [hx]; exact hex) (by rw [hx]; exact hpend)
        (by rw [hx]; exact hslot) hfree).2 q (by rw [hx]; exact hin) hlt hk (by rw [hx]; exact hq) (hby.silent.trans hs)
      have hqueue := hgo.queue
      rw [hx] at hqueue
      exact ⟨hgo.sends.line, hgo.sends.inFlight, hqueue, (htold.thenQuiet (.ofByLine hgo.byLine hgo.events)).tells⟩
end

section
/-! SUPPORT. What an alert does, from the state in which its operation began to the state in which it ended. -/

-- One theorem after another: elaborated side by side, they ask for more thread stacks than the check has memory for.
set_option Elab.async false

namespace Sys2Proof.Machine

/-- `u` is the state in which a record from section `i`, ACTIVE, and address `a` reaches the call manager, in an operation that began
in `s`: `told` has been told, and what the call manager reads is as it was. -/
structure State.Brings (s u : State) (i : SectionId) (a : Addr) (told : List EventBody) : Prop where
  told : s.Told u told
  calls : s.SameCalls u
  globals : u.globals = s.globals
  nowMs : u.nowMs = s.nowMs
  others : s.SameOtherSections i u
  active : (u.sec i).power = .active
  defn : (u.sec i).defn = (s.sec i).defn
  resolve : u.resolve i a = s.resolve i a
  due : u.dispatchDue = false
  law : s.CallLaw → u.CallLaw

theorem State.callAt_spec {s : State} {i : SectionId} {a : Addr} {c : Call} (h : s.callAt i a = some c) :
    c ∈ s.calls ∧ c.sec = i ∧ c.addr = a := by
  have hp := List.find?_some h
  simp only [Bool.and_eq_true, beq_iff_eq] at hp
  exact ⟨State.mem_of_callAt h, hp⟩

section alert
variable {s : State} {i : SectionId} {a : Addr} {o : CallOrigin} {c : Call}

/-! ## By what stands at the address -/

theorem State.alert_zero : s.alert o i 0 = (s, none) := if_pos rfl

theorem Addr.ne_zero {a : Addr} (h : 1 ≤ a.val) : a ≠ 0 := by
  rintro rfl
  exact absurd h (by decide)

theorem State.postAnswers_connects {ch : ChanId} (hch : c.channel = some ch) : s.postAnswers c = s.connect c ch := by
  rw [State.postAnswers, hch]

theorem State.alert_ringing {ch : ChanId} (h1 : 1 ≤ a.val) (hc : s.callAt i a = some c) (hst : c.state = .ringing)
    (hch : c.channel = some ch) : s.alert o i a = (s.connect c ch, some c.ref) := by
  rw [State.alert, if_neg (Addr.ne_zero h1), hc]
  dsimp only
  rw [hst, State.postAnswers_connects hch]

theorem State.alert_abandoned (h1 : 1 ≤ a.val) (hc : s.callAt i a = some c) (hst : c.state = .abandoned) :
    s.alert o i a = (s.revive c, some c.ref) := by
  rw [State.alert, if_neg (Addr.ne_zero h1), hc]
  dsimp only
  rw [hst]

theorem State.alert_live (h1 : 1 ≤ a.val) (hc : s.callAt i a = some c)
    (hst : c.state = .queued ∨ c.state = .offered ∨ c.state = .connected ∨ c.state = .parked) :
    s.alert o i a = (s, some c.ref) := by
  rw [State.alert, if_neg (Addr.ne_zero h1), hc]
  dsimp only
  rcases hst with h | h | h | h <;> rw [h]

theorem State.alert_ref (h1 : 1 ≤ a.val) (hc : s.callAt i a = some c) : (s.alert o i a).2 = some c.ref := by
  rw [State.alert, if_neg (Addr.ne_zero h1), hc]
  dsimp only
  split <;> rfl

theorem State.alert_new (h1 : 1 ≤ a.val) (hc : s.callAt i a = none) : s.alert o i a = s.newAlert o i a := by
  rw [State.alert, if_neg (Addr.ne_zero h1), hc]

theorem State.newAlert_room (h : s.calls.length < 32) : s.newAlert o i a = s.createFromAlert o i a := if_pos h

theorem State.newAlert_evicts (h : 32 ≤ s.calls.length) {v : Call} (hv : s.oldestAbandoned = some v) :
    s.newAlert o i a = (s.endCall v .dismissedAuto).createFromAlert o i a := by
  refine (if_neg (Nat.not_lt.2 h)).trans ?_
  rw [hv]

theorem State.newAlert_deferred (h : 32 ≤ s.calls.length) (hv : s.oldestAbandoned = none) :
    s.newAlert o i a = (s.deferAlert o i a, none) := by
  refine (if_neg (Nat.not_lt.2 h)).trans ?_
  rw [hv]

/-! ## A call revived -/

theorem State.revive_alters (hc : s.findCall c.ref = some c) :
    s.Alters (s.revive c) { c with state := .queued } [.callRequeued c.ref .revived c.boost none] := by
  have hq : s.Told (s.modCall c.ref (fun x => { x with state := .queued })) [] := .quiet
  have htold : s.Told (s.revive c) [.callRequeued c.ref .revived c.boost none] :=
    (hq.afterQuiet (State.post_told _ (.callRequeued c.ref .revived c.boost none))).thenQuiet (u := s.revive c) .quiet
  refine State.modCall_alters (f := fun x => { x with state := .queued }) (fun _ => rfl) hc ?_ ?_ ?_ ?_ htold <;>
    simp [State.revive, State.markDispatch]

/-- A QUEUED call after the dispatcher's act: it waits, or has been offered (R162, R163). -/
theorem State.Dispatched.queued {t : State} (h : s.Dispatched t) (hc : s.findCall c.ref = some c) (hst : c.state = .queued) :
    ∃ d, t.findCall c.ref = some d ∧ (d.state = .queued ∨ d.state = .offered) ∧
      d = { c with state := d.state, channel := d.channel, offerTimer := d.offerTimer } := by
  rcases h.call c.ref with hsame | ⟨d, ch, tm, hd, -, hoff⟩
  · exact ⟨c, hsame.trans hc, .inl hst, rfl⟩
  · obtain rfl : c = d := Option.some.inj (hc.symm.trans hd)
    exact ⟨_, hoff, .inr rfl, rfl⟩

/-! ## A call made -/

/-- The new call of an alert, whatever the dispatcher has made of it since (R135, R149). -/
theorem State.createFromAlert_makes {u : State} (h : u.RefLaw) (hroom : u.calls.length < 32)
    (hres : u.resolve i a = s.resolve i a) (hdefn : (u.sec i).defn = (s.sec i).defn) (hsec : u.seconds = s.seconds) :
    ∃ c, (u.createFromAlert o i a).2 = some c.ref ∧ (∀ d ∈ u.calls, d.ref ≠ c.ref) ∧
      s.MakesCall (u.createFromAlert o i a).1.finish o i a c ∧ u.Told (u.createFromAlert o i a).1 [c.newTold] := by
  obtain ⟨hfresh, hrange⟩ := h.newRef_spec (Nat.le_of_lt hroom)
  have hplaced := State.newCall_placedBy hres hdefn .inbound o .queued
  have hadds := State.addCall_adds h (c := u.newCall .inbound o i a .queued) hfresh hrange
  have hmarked : (u.createFromAlert o i a).1.RefLaw := hadds.refs.same ⟨rfl, rfl, rfl, rfl, rfl, rfl, rfl⟩
  obtain ⟨d, hd, hst, heq⟩ := (State.finish_dispatched hmarked).queued (c := u.newCall .inbound o i a .queued) hadds.found rfl
  have href : d.ref = u.newRef := by rw [heq]; rfl
  have hnew : (u.newCall .inbound o i a .queued).newTold = d.newTold := by rw [heq]; rfl
  refine ⟨d, congrArg some href.symm, fun e he => href ▸ hfresh e he,
    ⟨by rw [href]; exact hd, by rw [heq]; rfl, by rw [heq]; rfl, by rw [heq]; rfl, by rw [heq]; rfl, hst, by rw [heq]; exact hsec,
      by rw [heq]; rfl, by rw [heq]; rfl, by rw [heq]; exact hplaced⟩, ?_⟩
  rw [← hnew]
  exact hadds.told.thenQuiet (u := (u.createFromAlert o i a).1) .quiet

end alert

end Sys2Proof.Machine
end

section
/-! SUPPORT. The outcome of an alert, by what stands at its address and in the table. -/

-- One theorem after another: elaborated side by side, they ask for more thread stacks than the check has memory for.
set_option Elab.async false

namespace Sys2Proof.Machine

section outcome
variable {s u t : State} {i : SectionId} {a : Addr} {told : List EventBody} {o : CallOrigin} {c : Call}

theorem State.Brings.found (h : s.Brings u i a told) (hrefs : s.RefLaw) (hc : s.callAt i a = some c) :
    u.callAt i a = some c ∧ u.findCall c.ref = some c ∧ c.sec = i :=
  ⟨(h.calls.callAt i a).trans hc, (hrefs.same h.calls).findCall (h.calls.1 ▸ (State.callAt_spec hc).1), (State.callAt_spec hc).2.1⟩

/-- An alert of a rung post connects its call (R137, R173). -/
theorem State.Brings.connects (h : s.Brings u i a told) (hrefs : s.RefLaw) (hc : s.callAt i a = some c) {ch : ChanId}
    (hch : c.channel = some ch) (hlate : (u.connect c ch).finish.NoCall i t) :
    t.findCall c.ref = some { c with state := .connected, connectedSince := some s.seconds, offerTimer := none,
                                     ringTimer := none } ∧
    t.chan ch = ⟨.connected, (s.chan ch).ready, some c.ref⟩ ∧ t.join i = .channel ch ∧
    s.TellsFirst t (told ++ [.callConnected c.ref ch]) := by
  obtain ⟨-, hfind, rfl⟩ := h.found hrefs hc
  rw [State.connect_finish h.active h.due] at hlate
  have halt := u.connect_alters c ch hfind
  have htakes := (u.connect_takes c ch).same hlate.calls
  have hrecord : c.connectedOn ch u.seconds = { c with
      state := .connected, connectedSince := some s.seconds, offerTimer := none, ringTimer := none } := by
    rw [h.told.seconds, Call.connectedOn, ← hch]
  refine ⟨(hlate.calls.findCall c.ref).trans (hrecord ▸ halt.found), ?_, ?_, (h.told.trans halt.told).first hlate.toInner⟩
  · rw [htakes.chan, if_pos rfl, h.calls.chan]
  · rw [htakes.join, if_pos rfl]

/-- An alert revives its ABANDONED call (R136). -/
theorem State.Brings.revives (h : s.Brings u i a told) (hrefs : s.RefLaw) (hc : s.callAt i a = some c)
    (hlate : (u.revive c).finish.NoCall i t) :
    (∃ d, t.findCall c.ref = some d ∧ (d.state = .queued ∨ d.state = .offered) ∧ d.direction = c.direction ∧
      d.post = c.post ∧ d.arrival = c.arrival ∧ d.boost = c.boost ∧ d.location = c.location ∧
      d.connectedTotal = c.connectedTotal) ∧
    s.TellsFirst t (told ++ [.callRequeued c.ref .revived c.boost none]) := by
  obtain ⟨-, hfind, -⟩ := h.found hrefs hc
  have halt := State.revive_alters hfind
  obtain ⟨d, hd, hst, heq⟩ := (State.finish_dispatched (halt.refs (hrefs.same h.calls))).queued
    (c := { c with state := .queued }) halt.found rfl
  refine ⟨⟨d, (hlate.calls.findCall c.ref).trans hd, hst, ?_⟩,
    (h.told.trans halt.told).first ((State.finish_inner _).trans hlate.toInner)⟩
  rw [heq]
  exact ⟨rfl, rfl, rfl, rfl, rfl, rfl⟩

/-- Nothing is registered: the call manager is as it was. -/
theorem State.Brings.same (h : s.Brings u i a told) (hlate : u.finish.NoCall i t) : s.SameCalls t ∧ s.TellsFirst t told := by
  rw [State.finish_idle h.due] at hlate
  exact ⟨h.calls.trans hlate.calls, h.told.first hlate.toInner⟩

/-! ## A new record -/

theorem State.MakesCall.same {v : State} (h : s.MakesCall t o i a c) (hs : t.SameCalls v) : s.MakesCall v o i a c :=
  ⟨(hs.findCall _).trans h.1, h.2⟩

/-- An alert that finds room makes a call (R135). -/
theorem State.Brings.makes (h : s.Brings u i a told) (hrefs : s.RefLaw) (hroom : s.calls.length < 32)
    (hlate : (u.createFromAlert o i a).1.finish.NoCall i t) :
    ∃ c, (u.createFromAlert o i a).2 = some c.ref ∧ (∀ d ∈ s.calls, d.ref ≠ c.ref) ∧ s.MakesCall t o i a c ∧
      t.history = s.history ∧ s.TellsFirst t (told ++ [c.newTold]) := by
  obtain ⟨c, href, hfresh, hmakes, htold⟩ := State.createFromAlert_makes (o := o) (hrefs.same h.calls) (by rw [h.calls.1]; exact hroom)
    h.resolve h.defn h.told.seconds
  refine ⟨c, href, h.calls.1 ▸ hfresh, hmakes.same hlate.calls, ?_,
    (h.told.trans htold).first ((State.finish_inner _).trans hlate.toInner)⟩
  have hhist : (u.createFromAlert o i a).1.history = u.history := by simp [State.createFromAlert, State.addCall, State.markDispatch]
  rw [hlate.calls.2.1, State.finish_history, hhist, h.calls.2.1]

/-- What the new call of an alert leaves of the table and of the sections (R135, R149). -/
theorem State.createFromAlert_leaves {u : State} (h : u.RefLaw) (hroom : u.calls.length < 32) :
    (∀ q, q ≠ u.newRef → (u.createFromAlert o i a).1.findCall q = u.findCall q) ∧
    (u.createFromAlert o i a).1.calls.length = u.calls.length + 1 ∧ (u.createFromAlert o i a).1.history = u.history ∧
    (u.createFromAlert o i a).1.fullEpisode = u.fullEpisode ∧ (u.createFromAlert o i a).1.secs = u.secs := by
  obtain ⟨hfresh, hrange⟩ := h.newRef_spec (Nat.le_of_lt hroom)
  have hadds := State.addCall_adds h (c := u.newCall .inbound o i a .queued) hfresh hrange
  exact ⟨hadds.others, hadds.size, hadds.history, by simp [State.createFromAlert, State.addCall, State.markDispatch], hadds.secs⟩

theorem State.finish_size (s : State) : s.finish.calls.length = s.calls.length := by
  rw [← List.length_map (f := Call.ref), s.finish_refs, List.length_map]

/-- The alert's own call stands elsewhere than the one it evicts. -/
theorem State.Brings.evicts (h : s.Brings u i a told) (hnone : s.callAt i a = none) (hfull : 32 ≤ s.calls.length) {v : Call}
    (hv : s.OldestAbandoned v) (hlaw : s.CallLaw)
    (hlate : ((u.endCall v .dismissedAuto).createFromAlert o i a).1.finish.NoCall i t) :
    ∃ c, ((u.endCall v .dismissedAuto).createFromAlert o i a).2 = some c.ref ∧
      (∀ d ∈ s.calls, d.ref ≠ v.ref → d.ref ≠ c.ref) ∧ s.MakesCall t o i a c ∧ s.Evicts t i v ∧
      s.TellsFirst t (told ++ [s.evictTold v, c.newTold]) := by
  have hmem : v ∈ u.calls := h.calls.1 ▸ hv.1
  have hev := State.endCall_evicts (h.law hlaw) hmem hv.2.1
  have hrefs := hev.switched.refs
  have hdepth : s.calls.length ≤ 32 := ((s.callLaw_iff.1 hlaw).2).size.1
  have hsize := hev.size
  rw [h.calls.1] at hsize
  have hroom : (u.endCall v .dismissedAuto).calls.length < 32 := by omega
  have hdir := (u.endCall_byCalls v .dismissedAuto)
  obtain ⟨hothers, hlength, hhist, hepisode, hsecs⟩ := State.createFromAlert_leaves (o := o) (i := i) (a := a) hrefs hroom
  obtain ⟨c, href, hfresh, hmakes, htold⟩ := State.createFromAlert_makes (s := s) (o := o) (i := i) (a := a) hrefs hroom
    ((State.resolve_congr hdir.dir hdir.rosters i a).trans h.resolve) ((hev.defn i).trans h.defn)
    (hdir.seconds.trans h.told.seconds)
  have hevict : u.evictTold v = s.evictTold v := by rw [State.evictTold, State.evictTold, h.told.seconds]
  have hnewRef : (u.endCall v .dismissedAuto).newRef = c.ref := Option.some.inj href
  have htells : s.Told _ (told ++ ([s.evictTold v] ++ [c.newTold])) := h.told.trans ((hevict ▸ hev.told).trans htold)
  refine ⟨c, href, fun d hd hne => hfresh d ?_, hmakes.same hlate.calls, ⟨fun d hd => ?_, ?_, ?_, ?_, fun hne => ?_⟩,
    htells.first ((State.finish_inner _).trans hlate.toInner)⟩
  · rw [hev.calls, List.mem_filter]
    exact ⟨h.calls.1 ▸ hd, by simpa using hne⟩
  · have hgone : (u.endCall v .dismissedAuto).findCall v.ref = none := by rw [hev.toEnds.findCall, if_pos rfl]
    rintro ⟨hsec, haddr⟩
    by_cases hr : v.ref = c.ref
    · rw [hr, hlate.calls.findCall, hmakes.1] at hd
      obtain rfl := Option.some.inj hd
      exact State.callAt_none hnone v hv.1 ⟨hsec.symm.trans hmakes.2.2.2.1, haddr.symm.trans hmakes.2.2.2.2.1⟩
    · rw [hlate.calls.findCall, State.finish_none ((hothers v.ref (by rw [hnewRef]; exact hr)).trans hgone)] at hd
      cases hd
  · rw [hlate.calls.1, State.finish_size, hlength, hsize]
  · rw [hlate.calls.2.1, State.finish_history, hhist, hev.history, h.calls.2.1, Call.histRec, h.told.seconds]
    rfl
  · rw [hlate.calls.2.2.2.1, State.finish_fullEpisode, hepisode, hev.full]
  · have hsec : t.sec v.sec = (u.endCall v .dismissedAuto).sec v.sec := by
      rw [(hlate.others v.sec hne).1, State.finish_sec, State.sec, hsecs]
      rfl
    have hgiven := hev.given
    rw [(h.others v.sec hne).1, h.told.silent, h.nowMs] at hgiven
    rw [hsec]
    exact hgiven

/-- An alert that finds neither room nor an ABANDONED call is deferred (R140). -/
theorem State.Brings.defers (h : s.Brings u i a told) (hlate : (u.deferAlert o i a).finish.NoCall i t) :
    t.fullEpisode = true ∧ t.calls = s.calls ∧ t.nextRef = s.nextRef ∧ t.history = s.history ∧
    s.TellsFirst t (told ++ (if s.fullEpisode then []
      else [.callTableFull i a (match s.entryAt i a with | some e => e.post | none => 0) o])) := by
  have hpost : (u.resolve i a).post = (match s.entryAt i a with | some e => e.post | none => 0) := by
    rw [h.resolve, State.resolve]
    cases s.entryAt i a <;> rfl
  obtain ⟨hcalls, hhist, hnext, hfull, -⟩ := h.calls
  have hdefer : (u.deferAlert o i a).dispatchDue = false ∧ (u.deferAlert o i a).calls = s.calls ∧
      (u.deferAlert o i a).nextRef = s.nextRef ∧ (u.deferAlert o i a).history = s.history ∧
      (u.deferAlert o i a).fullEpisode = true ∧ u.Told (u.deferAlert o i a) (if s.fullEpisode then []
        else [.callTableFull i a (match s.entryAt i a with | some e => e.post | none => 0) o]) := by
    unfold State.deferAlert
    rw [hfull, hpost]
    by_cases hf : s.fullEpisode = true
    · rw [if_pos hf, if_pos hf]
      exact ⟨h.due, hcalls, hnext, hhist, hfull.trans hf, .refl u⟩
    · rw [if_neg hf, if_neg hf]
      exact ⟨by simpa using h.due, by simpa using hcalls, by simpa using hnext, by simpa using hhist, rfl,
        (u.post_told _).thenQuiet .quiet⟩
  obtain ⟨hdue, h1, h2, h3, h4, htold⟩ := hdefer
  rw [State.finish_idle hdue] at hlate
  exact ⟨hlate.calls.2.2.2.1.trans h4, hlate.calls.1.trans h1, hlate.calls.2.2.1.trans h2, hlate.calls.2.1.trans h3,
    (h.told.trans htold).first hlate.toInner⟩

/-! ## The outcome -/

/-- What an alert does (R134 to R140). -/
theorem State.Brings.alertOutcome (h : s.Brings u i a told) (hrefs : s.RefLaw) (h1 : 1 ≤ a.val)
    (hlate : (u.alert o i a).1.finish.NoCall i t) : s.AlertOutcome t o i a told (u.alert o i a).2 := by
  refine ⟨fun c hc => ?_, fun hnone => ?_⟩
  · have hcu := (h.found hrefs hc).1
    refine ⟨State.alert_ref h1 hcu, fun ch hst hch => ?_, fun hst => ?_, fun hst => ?_⟩
    · rw [State.alert_ringing h1 hcu hst hch] at hlate
      exact h.connects hrefs hc hch hlate
    · rw [State.alert_abandoned h1 hcu hst] at hlate
      exact h.revives hrefs hc hlate
    · rw [State.alert_live h1 hcu hst] at hlate
      exact h.same hlate
  · have hnew := State.alert_new (o := o) h1 ((h.calls.callAt i a).trans hnone)
    rw [hnew] at hlate ⊢
    refine ⟨fun hroom => ?_, fun hfull => ⟨fun v hv hlaw => ?_, fun hno => ?_⟩⟩
    · rw [State.newAlert_room (by rw [h.calls.1]; exact hroom)] at hlate ⊢
      exact h.makes hrefs hroom hlate
    · have hv' : u.oldestAbandoned = some v := by
        rw [State.oldestAbandoned, h.calls.1]
        exact State.oldestAbandoned_eq hrefs hv
      rw [State.newAlert_evicts (by rw [h.calls.1]; exact hfull) hv'] at hlate ⊢
      exact h.evicts hnone hfull hv hlaw hlate
    · have hv' : u.oldestAbandoned = none := State.oldestAbandoned_none (by rw [h.calls.1]; exact hno)
      rw [State.newAlert_deferred (by rw [h.calls.1]; exact hfull) hv'] at hlate ⊢
      exact ⟨rfl, h.defers hlate⟩

end outcome

end Sys2Proof.Machine
end

section
/-! SUPPORT. What an alert does to a busy line: it changes its section's queue at most. And what the arbiter leaves of a round. -/

-- One theorem after another: elaborated side by side, they ask for more thread stacks than the check has memory for.
set_option Elab.async false

namespace Sys2Proof.Machine

/-- The controllers differ in their queues at most. -/
def SectionCtl.Queued (x y : SectionCtl) : Prop := y = { x with queue := y.queue }

theorem SectionCtl.Queued.refl (x : SectionCtl) : x.Queued x := rfl

theorem SectionCtl.Queued.trans {x y z : SectionCtl} (h1 : x.Queued y) (h2 : y.Queued z) : x.Queued z := by
  unfold SectionCtl.Queued at *
  rw [h2, h1]

/-- Section `i`, if its line is busy, has its queue changed at most. -/
def State.QueueOnly (i : SectionId) (s t : State) : Prop := (s.sec i).Busy → (s.sec i).Queued (t.sec i)

section queueOnly
variable {s t u : State} {i : SectionId}

theorem State.QueueOnly.refl (i : SectionId) (s : State) : s.QueueOnly i s := fun _ => .refl _

theorem State.QueueOnly.trans (h1 : State.QueueOnly i s t) (h2 : State.QueueOnly i t u) : State.QueueOnly i s u := fun hb => by
  have hx := h1 hb
  have hb' : (t.sec i).Busy := by
    rw [show t.sec i = _ from hx]
    exact ⟨hb.active, hb.idle, hb.brk⟩
  exact hx.trans (h2 hb')

theorem State.QueueOnly.ofSec (h : t.sec i = s.sec i) : State.QueueOnly i s t := fun _ => by
  rw [h]
  exact .refl _

variable (s i)

theorem State.arbiter_queueOnly : s.QueueOnly i (s.arbiter i) := fun hb => by
  rw [State.arbiter_elsewhere hb.idle hb.brk]
  exact .refl _

theorem State.offerNotice_queueOnly (j : SectionId) (a : Addr) (k : TxnKind) (r : Nat) : s.QueueOnly i (s.offerNotice j a k r) := by
  by_cases hij : i = j
  · subst hij
    intro hb
    rw [State.offerNotice_active hb.active (.inl hb.idle), State.modQueue_eq, State.sec_setSec_self]
    rfl
  · exact .ofSec ((s.offerNotice_byCalls j a k r).others i hij).1

theorem State.endCall_queueOnly (c : Call) (e : EndCause) : s.QueueOnly i (s.endCall c e) := by
  by_cases hic : i = c.sec
  · subst hic
    have hnotice := (State.QueueOnly.ofSec (i := c.sec) (s.retireCall_sec c e c.sec)).trans
      ((s.retireCall c e).offerNotice_queueOnly c.sec c.sec c.addr c.closing c.ref)
    unfold State.endCall State.freeHeld
    split
    · exact (hnotice.trans (.ofSec (State.releaseHeld_sec _ c c.sec))).trans (State.arbiter_queueOnly _ c.sec)
    · exact hnotice.trans (.ofSec (State.releaseHeld_sec _ c c.sec))
  · exact .ofSec ((s.endCall_byCalls c e).others i hic).1

theorem State.connect_queueOnly (c : Call) (ch : ChanId) : s.QueueOnly i (s.connect c ch) :=
  (State.QueueOnly.ofSec (s.joined_sec c ch i)).trans (State.offerNotice_queueOnly _ i c.sec c.addr .connect c.ref)

theorem State.postAnswers_queueOnly (c : Call) : s.QueueOnly i (s.postAnswers c) := by
  unfold State.postAnswers
  split
  · exact s.connect_queueOnly i c _
  · exact .refl i s

theorem State.revive_queueOnly (c : Call) : s.QueueOnly i (s.revive c) := .ofSec (by simp [State.revive])

theorem State.createFromAlert_queueOnly (o : CallOrigin) (j : SectionId) (a : Addr) :
    s.QueueOnly i (s.createFromAlert o j a).1 := by
  refine .ofSec ?_
  change ((s.addCall _).sec i) = _
  rw [State.sec, State.addCall_secs]
  rfl

theorem State.deferAlert_queueOnly (o : CallOrigin) (j : SectionId) (a : Addr) : s.QueueOnly i (s.deferAlert o j a) := by
  unfold State.deferAlert
  split
  · exact .refl i s
  · exact .ofSec (State.sec_post _ _ _)

theorem State.newAlert_queueOnly (o : CallOrigin) (j : SectionId) (a : Addr) : s.QueueOnly i (s.newAlert o j a).1 := by
  unfold State.newAlert
  split
  · exact s.createFromAlert_queueOnly i o j a
  · split
    · exact (s.endCall_queueOnly i _ _).trans (State.createFromAlert_queueOnly _ i o j a)
    · exact s.deferAlert_queueOnly i o j a

theorem State.alert_queueOnly (o : CallOrigin) (j : SectionId) (a : Addr) : s.QueueOnly i (s.alert o j a).1 := by
  unfold State.alert
  split
  · exact .refl i s
  · split
    · split
      · exact s.postAnswers_queueOnly i _
      · exact s.revive_queueOnly i _
      all_goals exact .refl i s
    · exact s.newAlert_queueOnly i o j a

theorem State.finish_queueOnly : s.QueueOnly i s.finish := .ofSec (s.finish_sec i)

theorem State.impliedAlert_queueOnly (j : SectionId) (a : Addr) (st : StatusFields) : s.QueueOnly i (s.impliedAlert j a st) := by
  unfold State.impliedAlert
  split
  · exact (s.alert_queueOnly i .poll j a).trans (State.finish_queueOnly _ i)
  · exact .refl i s

end queueOnly

/-! ## The counts of a round -/

/-- The same answers, misses and skips (R104). -/
def Round.SameCounts (r q : Round) : Prop := q.answered = r.answered ∧ q.missed = r.missed ∧ q.skipped = r.skipped

section counts
variable {s : State} {i : SectionId} {r : Round}

/-- The arbiter's act leaves the counts of a round in which an address is left (R73, R103). -/
theorem State.arbiter_keepsCounts (hr : (s.sec i).round = some r) (h : (s.nextEligible i r.cursor).isSome = true) :
    ∃ q, ((s.arbiter i).sec i).round = some q ∧ r.SameCounts q := by
  obtain ⟨a, ha⟩ := Option.isSome_iff_exists.1 h
  have hsame : ∃ q, (s.sec i).round = some q ∧ r.SameCounts q := ⟨r, hr, rfl, rfl, rfl⟩
  have hmeasure : ∃ q, ((s.startMeasure i).sec i).round = some q ∧ r.SameCounts q := by
    unfold State.startMeasure
    split
    · rw [State.sec_modLine_self]
      exact hsame
    · exact hsame
  unfold State.arbiter
  split
  · split
    · exact hsame
    · split
      · exact hmeasure
      · split
        · exact hsame
        · split
          · rw [State.sec_sendAttempt, State.sec_modSec_self]
            exact hsame
          · unfold State.arbitrateRound
            rw [hr]
            dsimp only
            rw [ha]
            dsimp only
            rw [State.sec_sendAttempt, State.sec_modSec_self]
            exact ⟨_, rfl, rfl, rfl, rfl⟩
  · split
    · exact hmeasure
    · exact hsame
  all_goals exact hsame

theorem State.enterIdle_keepsCounts (hr : (s.sec i).round = some r) (h : (s.nextEligible i r.cursor).isSome = true) :
    ∃ q, ((s.enterIdle i).sec i).round = some q ∧ r.SameCounts q := by
  have hnext : (s.settleIdle i).nextEligible i r.cursor = s.nextEligible i r.cursor := by
    unfold State.nextEligible
    simp only [State.settleIdle_eligible]
  exact State.arbiter_keepsCounts ((s.sec_settleIdle i).held.2.2.2.2.1.trans hr) (hnext ▸ h)

end counts

end Sys2Proof.Machine
end

section
/-! SUPPORT. The judgement of a reply burst. -/

-- One theorem after another: elaborated side by side, they ask for more thread stacks than the check has memory for.
set_option Elab.async false

namespace Sys2Proof.Machine

section judge
variable {s : State} {i : SectionId} {t q : Txn} {g : GoodRec} {recs : List LineRec}

/-! ## The records of the burst -/

theorem State.replyEnds_one (hex : (s.sec i).exch = .reply) (hin : (s.sec i).inFlight = some q) (h : readBurst recs = some [g]) :
    s.replyEnds i recs = (s.burstEnded i).judgeReply i q g := by
  rw [State.replyEnds, hex, hin]
  dsimp only
  rw [h]

theorem State.replyEnds_bad (hex : (s.sec i).exch = .reply) (hin : (s.sec i).inFlight = some q)
    (h : ∀ g, readBurst recs ≠ some [g]) : s.replyEnds i recs = (s.burstEnded i).attemptFailed i := by
  rw [State.replyEnds, hex, hin]
  dsimp only
  split
  · next hg => exact absurd hg (h _)
  · rfl

/-! ## The record against the step -/

theorem State.judgeReply_elsewhere (h : g.addr ≠ t.addr) : s.judgeReply i t g = s.attemptFailed i := if_neg h

theorem State.judgeReply_notice (ha : g.addr = t.addr) (hk : t.kind.isNotice = true ∨ t.kind.isLamp = true) :
    s.judgeReply i t g = if g.kind = .ack then s.succeed i else s.attemptFailed i := by
  refine (if_pos ha).trans ?_
  cases hkind : t.kind with
  | poll => simp [hkind, TxnKind.isNotice, TxnKind.isLamp] at hk
  | text cs => simp [hkind, TxnKind.isNotice, TxnKind.isLamp] at hk
  | _ => cases g.kind <;> rfl

theorem State.judgeReply_text (ha : g.addr = t.addr) {chars : List Byte} (hk : t.kind = .text chars) :
    s.judgeReply i t g = if g.kind = .ack then s.textAcked i t chars else if g.kind = .nack then s.failFlight i t .lengthShort
      else s.attemptFailed i := by
  refine (if_pos ha).trans ?_
  rw [hk]
  cases g.kind <;> rfl

theorem State.judgeReply_poll (ha : g.addr = t.addr) (hk : t.kind = .poll) {st : StatusFields} (hg : g.kind = .status)
    (hst : g.status = some st) : s.judgeReply i t g = s.pollAnswered i t.addr st := by
  refine (if_pos ha).trans ?_
  rw [hk, hg, hst]

theorem State.judgeReply_pollFails (ha : g.addr = t.addr) (hk : t.kind = .poll) (hg : g.kind ≠ .status) :
    s.judgeReply i t g = s.attemptFailed i := by
  refine (if_pos ha).trans ?_
  rw [hk]
  cases hkind : g.kind with
  | status => exact absurd hkind hg
  | _ => rfl

/-- The replies that do not fit the step in flight (R45, R46). -/
theorem State.judgeReply_fails
    (h : g.addr ≠ t.addr ∨ (t.kind = .poll ∧ g.kind ≠ .status) ∨
      ((t.kind.isNotice = true ∨ t.kind.isLamp = true) ∧ g.kind ≠ .ack) ∨
      ((∃ chars, t.kind = .text chars) ∧ g.kind ≠ .ack ∧ g.kind ≠ .nack)) : s.judgeReply i t g = s.attemptFailed i := by
  by_cases ha : g.addr = t.addr
  · rcases h with h | ⟨hk, hg⟩ | ⟨hk, hg⟩ | ⟨⟨chars, hk⟩, hack, hnack⟩
    · exact absurd ha h
    · exact State.judgeReply_pollFails ha hk hg
    · rw [State.judgeReply_notice ha hk, if_neg hg]
    · rw [State.judgeReply_text ha hk, if_neg hack, if_neg hnack]
  · exact State.judgeReply_elsewhere ha

/-! ## The steps of a TEXT -/

variable {chars : List Byte}

theorem State.textAcked_header (h : t.headerDone = false) :
    s.textAcked i t chars = s.sendAttempt i { t with headerDone := true, attempts := 0 } :=
  if_neg (by simp [h])

theorem State.textAcked_more (h : t.headerDone = true) (hmore : t.progress + 1 < recordCount chars) :
    s.textAcked i t chars = s.sendAttempt i { t with progress := t.progress + 1, attempts := 0 } :=
  (if_pos h).trans (if_neg (Nat.not_le.2 hmore))

theorem State.textAcked_last (h : t.headerDone = true) (hlast : recordCount chars ≤ t.progress + 1) :
    s.textAcked i t chars = s.succeed i := (if_pos h).trans (if_pos hlast)

theorem stepRecord_text (hk : t.kind = .text chars) (h : t.headerDone = true) :
    t.stepRecord = ⟨t.addr, .textRecord ((chars.drop (8 * t.progress)).take 8)⟩ := by
  rw [Txn.stepRecord, hk]
  exact if_pos h

/-- An ACK that completes the transaction (R45, R58). -/
theorem State.judgeReply_completes (ha : g.addr = t.addr) (hg : g.kind = .ack)
    (h : t.kind.isNotice = true ∨ t.kind.isLamp = true ∨ ∃ chars, t.kind = .text chars ∧ t.headerDone = true ∧
      (if chars = [] then 1 else (chars.length + 7) / 8) ≤ t.progress + 1) : s.judgeReply i t g = s.succeed i := by
  rcases h with h | h | ⟨chars, hk, hdone, hlast⟩
  · rw [State.judgeReply_notice ha (.inl h), if_pos hg]
  · rw [State.judgeReply_notice ha (.inr h), if_pos hg]
  · rw [State.judgeReply_text ha hk, if_pos hg, State.textAcked_last hdone (recordCount_eq chars ▸ hlast)]

/-! ## The frames after the burst's end -/

theorem State.Resends.afterBurst {u : State} (h : (s.burstEnded i).Resends u i t) :
    (s.sec i).Sends (u.sec i) t s.nowMs ∧ u.events = s.events ∧ u.ltu = s.ltu ∧ s.OnlyLine i u :=
  ⟨h.sends.afterBurst, h.events, h.ltu, ((s.burstEnded_byLine i).trans h.byLine).onlyLine⟩

/-- A failed attempt whose budget is not spent: one more attempt used, sent at once or waiting for the pair (R46, R47). -/
theorem State.attemptFailed_goesOn (hin : (s.sec i).inFlight = some q) (h : q.attempts < (s.sec i).timingD.retries) :
    ((s.attemptFailed i).sec i).inFlight = some { q with attempts := q.attempts + 1 } ∧
    ((s.attemptFailed i).sec i).idleSince = (s.sec i).idleSince ∧ (s.attemptFailed i).events = s.events ∧
    s.ByLine i (s.attemptFailed i) ∧
    ((s.sec i).pairFree = false → ((s.attemptFailed i).sec i).line = (s.sec i).line ∧
      ((s.attemptFailed i).sec i).exch = .retryWait) := by
  cases hp : (s.sec i).pairFree with
  | true =>
    rw [State.attemptFailed_sends hin h hp, State.sec_sendAttempt]
    exact ⟨rfl, rfl, rfl, s.sendAttempt_byLine i _, nofun⟩
  | false =>
    rw [State.attemptFailed_waits hin h hp, State.sec_modLine_self]
    exact ⟨rfl, rfl, rfl, s.modLine_byLine i _, fun _ => ⟨rfl, rfl⟩⟩

end judge

end Sys2Proof.Machine
end

section
/-! SUPPORT. A reply burst ends: the step completes, the attempt fails, or the poll is answered. -/

-- One theorem after another: elaborated side by side, they ask for more thread stacks than the check has memory for.
set_option Elab.async false

namespace Sys2Proof.Machine

theorem State.impliedAlert_outer (s : State) (i : SectionId) (a : Addr) (st : StatusFields) :
    s.Inner (s.impliedAlert i a st) ∧ (s.impliedAlert i a st).dir = s.dir := by
  unfold State.impliedAlert
  split
  · obtain ⟨hinner, hdir⟩ := s.alert_inner .poll i a
    exact ⟨hinner.trans (State.finish_inner _), (State.finish_dir _).trans hdir⟩
  · exact ⟨.refl s, rfl⟩

theorem State.impliedAlert_none {s : State} {i : SectionId} {a : Addr} {st : StatusFields}
    (h : st.hookOff = false ∨ (s.callAt i a).isSome = true) : s.impliedAlert i a st = s := by
  refine if_neg ?_
  rcases h with h | h
  · simp [h]
  · simp [Option.isSome_iff_ne_none.1 h]

theorem State.impliedAlert_alerts {s : State} {i : SectionId} {a : Addr} {st : StatusFields} (h : st.hookOff = true)
    (hnone : s.callAt i a = none) : s.impliedAlert i a st = (s.alert .poll i a).1.finish := if_pos (by simp [h, hnone])

theorem State.entryAt_addr {s : State} {i : SectionId} {a : Addr} {e : PostEntry} (h : s.entryAt i a = some e) : 1 ≤ a.val := by
  by_contra hlt
  rw [State.entryAt, State.slotAt, dif_neg hlt] at h
  cases h

/-! ## A status report that reaches the call manager -/

/-- A status report in an operation on the line, and what it tells (R108). -/
theorem State.ByLine.brings {s u : State} {i : SectionId} {a : Addr} {st : StatusFields} {e : PostEntry} {k : Fin 2}
    (h : s.ByLine i u) (hevents : u.events = s.events) (hactive : (u.sec i).power = .active) (hdefn : (u.sec i).defn = (s.sec i).defn)
    (hdue : s.dispatchDue = false) (hlaw : s.CallLaw → u.PowerLaw ∧ u.Switched) (he : s.entryAt i a = some e)
    (hl : s.lookup e.post = some (k, e)) :
    s.Brings (u.statusReport i a st) i a (e.told st s.globals.lowBattery) ∧
    (u.statusReport i a st).lookup e.post = some (k, { e with
      lastStatus := some st, lastReply := some s.seconds, missed := 0, reachable := true,
      lowBattery := decide (st.battery < s.globals.lowBattery) }) ∧
    s.Supervised (u.statusReport i a st) := by
  obtain ⟨hlookup, htold⟩ := State.statusReport_spec st ((State.entryAt_congr h.dir h.rosters i a).trans he)
    ((State.lookup_congr h.dir e.post).trans hl)
  have hsup := (State.Supervised.ofDir h.dir h.rosters).trans (u.statusReport_supervised i a st)
  have hcalls := h.toNoCall.trans (u.statusReport_noCall i i a st)
  have hsecs := u.statusReport_secs i a st
  have hsec : (u.statusReport i a st).sec i = u.sec i := by rw [State.sec, hsecs]; rfl
  rw [h.globals] at htold hlookup
  rw [h.seconds] at hlookup
  refine ⟨⟨State.Told.afterQuiet (.ofByLine h hevents) htold, hcalls.calls, hcalls.globals, hcalls.nowMs,
    hcalls.others, by rw [hsec]; exact hactive, by rw [hsec]; exact hdefn, hsup.resolve i a, hcalls.due.trans hdue,
    fun hs => ?_⟩, hlookup, hsup⟩
  obtain ⟨hp, hsw⟩ := hlaw hs
  exact (State.callLaw_iff _).2 ⟨(State.PowerKept.ofSecs hsecs).1 hp, hsw.statusReport i a st⟩

/-! ## The poll is answered -/

/-- A round with one more answer (R104). -/
def Round.answeredOne (r : Round) : Round := { r with answered := r.answered + 1 }

section answered
variable {s : State} {i : SectionId} {a : Addr} {st : StatusFields} {e : PostEntry} {k : Fin 2} {rd : Round}

/-- The state in which the answer to a poll has been reported to its post's entry (R45, R108). -/
def State.pollReported (i : SectionId) (a : Addr) (st : StatusFields) (s : State) : State :=
  ((s.burstEnded i).clearFlight i).statusReport i a st

theorem State.sec_pollReported (s : State) (i : SectionId) (a : Addr) (st : StatusFields) :
    (s.pollReported i a st).sec i = ({ s.sec i with idleSince := some s.nowMs } : SectionCtl).landed.retime s.nowMs := by
  rw [State.pollReported, State.sec, State.statusReport_secs]
  refine (State.sec_clearFlight_self _ i).trans ?_
  rw [s.sec_burstEnded_self i]
  rfl

theorem State.pollAnswered_eq (s : State) (i : SectionId) (a : Addr) (st : StatusFields) : (s.burstEnded i).pollAnswered i a st =
    (((s.pollReported i a st).impliedAlert i a st).pollEnded i a Round.answeredOne).enterIdle i := rfl

/-- The section as the round hears of the answer: what an implied alert has changed is its queue (R111). -/
theorem State.pollReported_queued (hb : (s.sec i).Busy) :
    ((s.pollReported i a st).sec i).Queued (((s.pollReported i a st).impliedAlert i a st).sec i) := by
  refine State.impliedAlert_queueOnly _ i i a st ?_
  rw [State.sec_pollReported]
  exact ⟨hb.active, hb.idle, hb.brk⟩

theorem State.pollReported_brings (hb : (s.sec i).Busy) (hdue : s.dispatchDue = false) (he : s.entryAt i a = some e)
    (hl : s.lookup e.post = some (k, e)) :
    s.Brings (s.pollReported i a st) i a (e.told st s.globals.lowBattery) ∧
    (s.pollReported i a st).lookup e.post = some (k, { e with
      lastStatus := some st, lastReply := some s.seconds, missed := 0, reachable := true,
      lowBattery := decide (st.battery < s.globals.lowBattery) }) ∧
    s.Supervised (s.pollReported i a st) := by
  have hx : ((s.burstEnded i).clearFlight i).sec i =
      ({ s.sec i with idleSince := some s.nowMs } : SectionCtl).landed.retime s.nowMs := by
    rw [State.sec_clearFlight_self, s.sec_burstEnded_self i]
    rfl
  refine State.ByLine.brings ((s.burstEnded_byLine i).trans (State.clearFlight_byLine _ i)) rfl (by rw [hx]; exact hb.active)
    (by rw [hx]; rfl) hdue (fun hlaw => ?_) he hl
  obtain ⟨hp, hsw⟩ := s.callLaw_iff.1 hlaw
  exact ⟨((s.burstEnded_power i).trans (State.clearFlight_power _ i)).1 hp, (hsw.burstEnded i).clearFlight i⟩

/-- The section and the addresses as the poll ends. -/
structure State.PollHeard (s u : State) (i : SectionId) : Prop where
  round : (u.sec i).round = (s.sec i).round
  defn : (u.sec i).defn = (s.sec i).defn
  pending : (u.sec i).pendingTiming = (s.sec i).pendingTiming
  overrun : (u.sec i).overrun = (s.sec i).overrun
  bracket : (u.sec i).bracket = (s.sec i).bracket
  eligible : ∀ b, u.eligibleAddr i b = s.eligibleAddr i b
  inner : s.Inner u

theorem State.pollReported_heard (hb : (s.sec i).Busy) (hdue : s.dispatchDue = false) (he : s.entryAt i a = some e)
    (hl : s.lookup e.post = some (k, e)) : s.PollHeard ((s.pollReported i a st).impliedAlert i a st) i := by
  obtain ⟨-, -, hsup⟩ := State.pollReported_brings (st := st) hb hdue he hl
  obtain ⟨hinner, hdir⟩ := (s.pollReported i a st).impliedAlert_outer i a st
  have hq := State.pollReported_queued (a := a) (st := st) hb
  have hfirst : s.Inner (s.pollReported i a st) :=
    (((s.burstEnded_byLine i).trans (State.clearFlight_byLine _ i)).toNoCall.trans (State.statusReport_noCall _ i i a st)).toInner
  generalize (s.pollReported i a st).impliedAlert i a st = u at *
  rw [SectionCtl.Queued, State.sec_pollReported] at hq
  refine ⟨?_, ?_, ?_, ?_, ?_, fun b => (State.eligibleAddr_congr hdir hinner.rosters i b).trans (hsup.eligible i b),
    hfirst.trans hinner⟩ <;> rw [hq] <;> rfl

variable {u : State}

theorem State.PollHeard.goesOn (h : s.PollHeard u i) (hround : (s.sec i).round = some rd)
    (hmore : ∃ b, a < b ∧ s.eligibleAddr i b = true) :
    ∃ q, (((u.pollEnded i a Round.answeredOne).enterIdle i).sec i).round = some q ∧ rd.answeredOne.SameCounts q := by
  have hround' := h.round.trans hround
  have hmore' : ∃ b, a < b ∧ u.eligibleAddr i b = true := by simpa only [h.eligible] using hmore
  rw [State.pollEnded_open hround' hmore']
  obtain ⟨b, hb, hel⟩ := hmore'
  have hnext : (u.nextEligible i (a.val + 1)).isSome = true :=
    State.nextEligible_isSome (a := b) (Fin.lt_def.1 hb) (by have := Fin.lt_def.1 hb; omega) hel
  exact State.enterIdle_keepsCounts (r := { rd.answeredOne with cursor := a.val + 1, kept := none })
    (congrArg SectionCtl.round (u.sec_pollCounted i a Round.answeredOne rd)) hnext

theorem State.PollHeard.ends (h : s.PollHeard u i) (hround : (s.sec i).round = some rd) (hpend : (s.sec i).pendingTiming = none)
    (hlast : ∀ b, a < b → s.eligibleAddr i b = false) :
    (((u.pollEnded i a Round.answeredOne).enterIdle i).sec i).round = none := by
  have hp : ((u.pollEnded i a Round.answeredOne).sec i).pendingTiming = none := by
    rw [show (u.pollEnded i a Round.answeredOne).sec i = _ from u.pollEnded_counted i a Round.answeredOne]
    exact h.pending.trans hpend
  have hnext : u.nextEligible i (a.val + 1) = none :=
    State.nextEligible_eq_none (fun b hb _ => (h.eligible b).trans (hlast b (Fin.lt_def.2 hb)))
  have hcounted := congrArg SectionCtl.round (u.sec_pollCounted i a Round.answeredOne rd)
  refine (State.enterIdle_closed hp ?_).1.round
  rw [State.pollEnded_eq (h.round.trans hround), State.closeIfDone_done hcounted hnext, (State.closeRound_spec hcounted).1]

theorem State.PollHeard.closes (h : s.PollHeard u i) (hround : (s.sec i).round = some rd) (hpend : (s.sec i).pendingTiming = none)
    (hlast : ∀ b, a < b → s.eligibleAddr i b = false) {d : SectionDef} (hd : (s.sec i).defn = some d) {told : List EventBody}
    (htold : s.Told u told) :
    s.RoundCloses ((u.pollEnded i a Round.answeredOne).enterIdle i) i d told (rd.answered + 1) rd.missed rd.skipped := by
  have hcloses := State.pollEnded_closes (s := u) (a := a) (f := Round.answeredOne) (h.defn.trans hd) (h.round.trans hround)
    (fun b hb => (h.eligible b).trans (hlast b hb))
  have hp : ((u.pollEnded i a Round.answeredOne).sec i).pendingTiming = none := by
    rw [show (u.pollEnded i a Round.answeredOne).sec i = _ from u.pollEnded_counted i a Round.answeredOne]
    exact h.pending.trans hpend
  obtain ⟨hclosed, hafter⟩ := State.enterIdle_closed hp hcloses.1
  exact hcloses.within htold h.overrun h.bracket hafter (State.enterIdle_byLine hp).dir hclosed

end answered

end Sys2Proof.Machine
end

section
/-! SUPPORT. The reply burst's obligation, assembled. -/

-- One theorem after another: elaborated side by side, they ask for more thread stacks than the check has memory for.
set_option Elab.async false

namespace Sys2Proof.Machine

/-- The frame of an operation that leaves what is outside the line, the calls and the directory, as the statements write it. -/
theorem State.Inner.outside {s t : State} (h : s.Inner t) : s.SameOutside t ∧ t.unresolved = s.unresolved :=
  ⟨⟨⟨h.rx, h.buffer, h.resetHeld, h.poweringUp⟩, ⟨h.reply, h.headTaken⟩, ⟨h.mode, h.globals, h.seconds, h.nowMs⟩, h.rosters⟩,
    h.unresolved⟩

section replies
variable {s : State} {i : SectionId} {q : Txn}

/-- The step in flight is the last one, and nothing else is to be done (R45). -/
theorem State.succeed_afterBurst (hpend : (s.sec i).pendingTiming = none) (hslot : (s.sec i).slot = none) :
    ((s.sec i).queue = [] → (s.sec i).round = none → s.Rests ((s.burstEnded i).succeed i) i) ∧
    (∀ n ns, (s.sec i).queue = n :: ns → (s.sec i).pairFree = true → s.silent = false →
      s.GoesOn ((s.burstEnded i).succeed i) i n ns) := by
  have hy := s.sec_burstEnded_self i
  refine ⟨fun hq hr => (State.succeed_rests (s := s.burstEnded i) ?_ ?_ ?_ ?_).afterBurst,
    fun n ns hq hp hs => (State.succeed_goesOn (s := s.burstEnded i) ?_ ?_ ?_ hs ?_).afterBurst⟩ <;> rw [hy] <;> assumption

/-- The failure of a host's transaction by a NACK (R58, R79). -/
theorem State.failFlight_nack (hb : (s.sec i).Busy) (ho : q.origin = .host) (hdue : s.dispatchDue = false) :
    s.FlightFails ((s.burstEnded i).failFlight i q .lengthShort) i q .lengthShort (some q.progress) ∧
    s.NoCall i ((s.burstEnded i).failFlight i q .lengthShort) := by
  have hb' : ((s.burstEnded i).sec i).Busy := by
    rw [s.sec_burstEnded_self i]
    exact ⟨hb.active, hb.idle, hb.brk⟩
  refine ⟨(State.failFlight_fails hb' rfl rfl rfl rfl).afterBurst, ?_⟩
  rw [State.failFlight_host (s := s.burstEnded i) ho hdue]
  exact (((s.burstEnded_byLine i).trans (State.clearFlight_byLine _ i)).trans (State.post_byLine _ i _)).toNoCall.trans
    (State.enterIdle_noCall _ i)

end replies

end Sys2Proof.Machine

open Sys2Proof Sys2Proof.Machine

/-- Settles O52: the one record of the burst is judged against the step in flight, and a poll's answer is a status report with its
alert. -/
theorem replyBurstCompletesTheStep : Obligations.ReplyBurstCompletesTheStep := by
  rintro s i _ q recs rfl hex hin ha hl hdue
  have hb : (s.sec i).Busy := .of_line ha (.inl hl)
  have hone : ∀ g, readBurst recs = some [g] → exec (.replyBurstEnd i recs) s = .next ((s.burstEnded i).judgeReply i q g) :=
    fun g hg => congrArg Host.Outcome.next (State.replyEnds_one hex hin hg)
  have hy := s.sec_burstEnded_self i
  refine ⟨fun g hg haddr => ⟨fun hack hk hpend => ?_, fun chars hk => ⟨fun hack hdone hs => ?_, fun hack hdone hmore hs => ?_,
    fun hnack ho => ?_⟩, fun st k e rd hstatus hst hk he hlook hround hpend hrefs => ?_⟩, fun hbad => ?_⟩
  · have hrun := (hone g hg).trans (congrArg Host.Outcome.next (State.judgeReply_completes haddr hack hk))
    refine ⟨fun hq hslot hr => ?_, fun n ns hq hslot hp hs => ?_⟩
    · have h := (State.succeed_afterBurst hpend hslot).1 hq hr
      exact ⟨_, hrun, h.line, h.inFlight, h.exch, h.idleSince, h.events, h.ltu, h.byLine.onlyLine⟩
    · have h := (State.succeed_afterBurst hpend hslot).2 n ns hq hp hs
      exact ⟨_, hrun, h.sends.line, h.sends.inFlight, h.queue, h.sends.exch, h.events, h.ltu, h.byLine.onlyLine⟩
  · obtain ⟨hsend, he, hltu, hframe⟩ :=
      (State.sendAttempt_resends (s := s.burstEnded i) i { q with headerDone := true, attempts := 0 } hs).afterBurst
    refine ⟨_, (hone g hg).trans (congrArg Host.Outcome.next ((State.judgeReply_text haddr hk).trans ((if_pos hack).trans
      (State.textAcked_header hdone)))), hsend.inFlight, hsend.line, hsend.exch.trans ?_, he, hltu, hframe⟩
    rw [stepRecord_text (t := { q with headerDone := true, attempts := 0 }) hk rfl]
  · obtain ⟨hsend, he, hltu, hframe⟩ :=
      (State.sendAttempt_resends (s := s.burstEnded i) i { q with progress := q.progress + 1, attempts := 0 } hs).afterBurst
    refine ⟨_, (hone g hg).trans (congrArg Host.Outcome.next ((State.judgeReply_text haddr hk).trans ((if_pos hack).trans
      (State.textAcked_more hdone (recordCount_eq chars ▸ hmore))))), hsend.inFlight, hsend.line, hsend.exch.trans ?_, he, hltu, hframe⟩
    rw [stepRecord_text (t := { q with progress := q.progress + 1, attempts := 0 }) hk hdone]
  · obtain ⟨hfails, hframe⟩ := State.failFlight_nack hb ho hdue
    obtain ⟨hlink, hreply, hset, -⟩ := hframe.toInner.outside.1
    exact ⟨_, (hone g hg).trans (congrArg Host.Outcome.next ((State.judgeReply_text haddr hk).trans ((if_neg (by simp [hnack])).trans
      (if_pos hnack)))), hfails, hframe.calls, hlink, hreply, hset, hframe.others⟩
  · have hrun := (hone g hg).trans (congrArg Host.Outcome.next ((State.judgeReply_poll haddr hk hstatus hst).trans
      (s.pollAnswered_eq i q.addr st)))
    obtain ⟨hbrings, hlooked, -⟩ := State.pollReported_brings (st := st) hb hdue he hlook
    have hheard := State.pollReported_heard (st := st) hb hdue he hlook
    obtain ⟨hin1, hdir1⟩ := (s.pollReported i q.addr st).impliedAlert_outer i q.addr st
    have hp : ((((s.pollReported i q.addr st).impliedAlert i q.addr st).pollEnded i q.addr Round.answeredOne).sec i).pendingTiming =
        none := by
      rw [show (((s.pollReported i q.addr st).impliedAlert i q.addr st).pollEnded i q.addr Round.answeredOne).sec i = _ from
        State.pollEnded_counted _ i q.addr Round.answeredOne]
      exact hheard.pending.trans hpend
    have hlast := (State.pollEnded_byLine ((s.pollReported i q.addr st).impliedAlert i q.addr st) i q.addr Round.answeredOne).trans
      (State.enterIdle_byLine hp)
    have hinner := hheard.inner.trans hlast.toInner
    refine ⟨_, hrun, (State.lookup_congr (hlast.dir.trans hdir1) e.post).trans hlooked, ?_,
      hbrings.told.first (hin1.trans hlast.toInner), fun hmore => ?_, hheard.ends hround hpend, fun hno => ?_, fun hoff hnone => ?_,
      hinner.outside⟩
    · rw [(State.enterIdle_settled _ i).1, (State.pollEnded_byLine _ i q.addr Round.answeredOne).nowMs, hheard.inner.nowMs]
    · obtain ⟨rd', hrd, hcounts⟩ := hheard.goesOn hround hmore
      exact ⟨rd', hrd, hcounts⟩
    · have hsame := State.impliedAlert_none (s := s.pollReported i q.addr st) (i := i) (a := q.addr) (st := st)
        (by rw [hbrings.calls.callAt]; exact hno)
      rw [hsame] at hlast hheard ⊢
      exact ⟨hbrings.calls.trans hlast.calls, fun j hj => ⟨(hlast.others j hj).1.trans (hbrings.others j hj).1,
        (hlast.others j hj).2.trans (hbrings.others j hj).2⟩,
        fun d hd hnext => hheard.closes hround hpend hnext hd hbrings.told⟩
    · have halert := State.impliedAlert_alerts (s := s.pollReported i q.addr st) (i := i) (a := q.addr) hoff
        ((hbrings.calls.callAt i q.addr).trans hnone)
      rw [halert] at hlast ⊢
      exact ⟨_, hbrings.alertOutcome hrefs (State.entryAt_addr he) hlast.toNoCall⟩
  · have hrun : exec (.replyBurstEnd i recs) s = .next ((s.burstEnded i).attemptFailed i) := by
      rcases hbad with hno | ⟨g, hg, hbad⟩
      · exact congrArg Host.Outcome.next (State.replyEnds_bad hex hin hno)
      · exact (hone g hg).trans (congrArg Host.Outcome.next (State.judgeReply_fails hbad))
    have hin' : ((s.burstEnded i).sec i).inFlight = some q := by rw [hy]; exact hin
    refine ⟨fun hlt => ?_, fun hle => ?_⟩
    · have hlt' : q.attempts < ((s.burstEnded i).sec i).timingD.retries := by rw [hy]; exact hlt
      obtain ⟨hflight, hidle, he, hby, hwait⟩ := State.attemptFailed_goesOn hin' hlt'
      refine ⟨_, hrun, hflight, hidle.trans (by rw [hy]), fun hp hs => ?_, fun hp => ?_, he,
        ((s.burstEnded_byLine i).trans hby).onlyLine⟩
      · rw [State.attemptFailed_sends hin' hlt' (by rw [hy]; exact hp)]
        obtain ⟨hsend, -⟩ := (State.sendAttempt_resends (s := s.burstEnded i) i { q with attempts := q.attempts + 1 } hs).afterBurst
        exact ⟨hsend.line, hsend.exch⟩
      · obtain ⟨hline, hexch⟩ := hwait (by rw [hy]; exact hp)
        exact ⟨hline.trans (by rw [hy]; exact hl), hexch⟩
    · have hb' : ((s.burstEnded i).sec i).Busy := by rw [hy]; exact ⟨hb.active, hb.idle, hb.brk⟩
      obtain ⟨hfails, hinner⟩ := State.attemptFailed_fails hb' hin' (by rw [hy]; exact hle)
      exact ⟨_, hrun, hfails.afterBurst, ((s.burstEnded_byLine i).toInner.trans hinner).outside⟩
end

section
/-! SUPPORT. A post-started burst: how it is read, how the unresolved-post record hears of it, and how it is answered. -/

-- One theorem after another: elaborated side by side, they ask for more thread stacks than the check has memory for.
set_option Elab.async false

namespace Sys2Proof.Machine

/-! ## The statuses latched -/

theorem checkAll_latched {rs : List LineRec} {gs : List GoodRec} (h : checkAll rs = some gs) :
    rs.map (fun r => if (checkRec r).isSome then CheckFlag.good else .bad) = List.replicate gs.length .good := by
  induction rs generalizing gs with
  | nil =>
    cases h
    rfl
  | cons r rs ih =>
    rw [checkAll] at h
    split at h
    · next g gs' hg hgs =>
      cases h
      rw [List.map_cons, ih hgs, if_pos (by rw [hg]; rfl)]
      rfl
    · cases h

theorem latches_eq {recs : List LineRec} {gs : List GoodRec} (h : readBurst recs = some gs) :
    latches recs = List.replicate gs.length .good := checkAll_latched h

/-! ## The unresolved-post record -/

/-- The unresolved-post record has heard of a record, if its slot is empty (R18). -/
def State.driven (i : SectionId) (g : GoodRec) (s : State) : State :=
  if (s.slotAt i g.addr).isNone then s.driveUnresolved i g else s

section driven
variable {s u : State} {i : SectionId} {g : GoodRec} {a : Addr} {k : PostKind} {st : Option StatusFields}

/-- What an operation on the line leaves for the call manager to read, with the unresolved-post record `un` and the events told. -/
structure State.Heard (s u : State) (i : SectionId) (told : List EventBody) (un : Option Unresolved) : Prop where
  told : s.Told u told
  calls : s.SameCalls u
  link : s.SameLink u
  reply : s.SameReply u
  settings : s.SameSettings u
  dir : u.dir = s.dir
  rosters : u.rosters = s.rosters
  unresolved : u.unresolved = un
  others : s.SameOtherSections i u
  sec : u.sec i = { s.sec i with idleSince := some s.nowMs }
  due : u.dispatchDue = s.dispatchDue
  law : s.CallLaw → u.CallLaw

/-- The unresolved-post record once it has heard of the record `g` (R18). -/
def State.unresolvedHeard (s : State) (i : SectionId) (g : GoodRec) : Option Unresolved :=
  match s.unresolved with
  | some u => some { u with more := min 255 (u.more + 1) }
  | none => some ⟨i, g.addr, g.kind, s.seconds, 0⟩

theorem State.driveUnresolved_eq (s : State) (i : SectionId) (g : GoodRec) : ∃ es, s.driveUnresolved i g =
    { s with unresolved := s.unresolvedHeard i g, events := es } := by
  unfold State.driveUnresolved State.unresolvedHeard
  cases s.unresolved with
  | some w => exact ⟨s.events, rfl⟩
  | none =>
    rw [State.post_eq]
    exact ⟨_, rfl⟩

theorem State.driveUnresolved_told (s : State) (i : SectionId) (g : GoodRec) :
    s.Told (s.driveUnresolved i g) (if s.unresolved.isSome then [] else [.unresolvedPost i g.addr g.kind]) := by
  unfold State.driveUnresolved
  split
  · next w h =>
    rw [h]
    exact .quiet
  · next h =>
    rw [h]
    exact State.Told.afterQuiet (t := { s with unresolved := some ⟨i, g.addr, g.kind, s.seconds, 0⟩ }) .quiet (State.post_told _ _)

/-- The first record of a burst, as the unresolved-post record hears of it (R18). -/
theorem State.driven_heard (s : State) (i : SectionId) (a : Addr) (k : PostKind) (st : Option StatusFields) :
    s.Heard ((s.burstEnded i).driven i ⟨a, k, st⟩) i (s.unresolvedTold i a k) (s.unresolvedAfter i a k) := by
  have hy := s.sec_burstEnded_self i
  have hby := s.burstEnded_byLine i
  have hlaw : s.CallLaw → (s.burstEnded i).PowerLaw ∧ (s.burstEnded i).Switched := fun h => by
    obtain ⟨hp, hsw⟩ := s.callLaw_iff.1 h
    exact ⟨(s.burstEnded_power i).1 hp, hsw.burstEnded i⟩
  cases hslot : s.slotAt i a with
  | some p =>
    have hsame : (s.burstEnded i).driven i ⟨a, k, st⟩ = s.burstEnded i :=
      if_neg (by rw [show (s.burstEnded i).slotAt i a = some p from hslot]; simp)
    have htold : s.unresolvedTold i a k = [] := if_pos (.inl (by rw [hslot]; rfl))
    have hafter : s.unresolvedAfter i a k = s.unresolved := if_pos (by rw [hslot]; rfl)
    rw [hsame, htold, hafter]
    exact ⟨.quiet, hby.calls, ⟨rfl, rfl, rfl, rfl⟩, ⟨rfl, rfl⟩, ⟨rfl, rfl, rfl, rfl⟩, rfl, rfl, rfl, hby.others, hy, rfl,
      fun h => (State.callLaw_iff _).2 (hlaw h)⟩
  | none =>
    have hdrives : (s.burstEnded i).driven i ⟨a, k, st⟩ = (s.burstEnded i).driveUnresolved i ⟨a, k, st⟩ :=
      if_pos (by rw [show (s.burstEnded i).slotAt i a = none from hslot]; rfl)
    have htold : s.unresolvedTold i a k = if s.unresolved.isSome then [] else [.unresolvedPost i a k] := by
      rw [State.unresolvedTold, hslot]
      simp
    have hafter : s.unresolvedAfter i a k = s.unresolvedHeard i ⟨a, k, st⟩ := if_neg (by rw [hslot]; simp)
    have hlaw' : s.CallLaw → ((s.burstEnded i).driveUnresolved i ⟨a, k, st⟩).CallLaw := fun h =>
      (State.callLaw_iff _).2 ⟨(State.PowerKept.ofSecs (State.driveUnresolved_secs _ i _)).1 (hlaw h).1,
        (hlaw h).2.driveUnresolved i _⟩
    have htells := (State.Told.quiet (s := s) (t := s.burstEnded i)).afterQuiet
      ((s.burstEnded i).driveUnresolved_told i ⟨a, k, st⟩)
    obtain ⟨es, heq⟩ := (s.burstEnded i).driveUnresolved_eq i ⟨a, k, st⟩
    rw [hdrives, htold, hafter]
    rw [heq] at hlaw' htells ⊢
    exact ⟨htells, hby.calls, ⟨rfl, rfl, rfl, rfl⟩, ⟨rfl, rfl⟩, ⟨rfl, rfl, rfl, rfl⟩, rfl, rfl, rfl, hby.others, hy, rfl, hlaw'⟩

variable {told : List EventBody} {un : Option Unresolved}

theorem State.Heard.brings (h : s.Heard u i told un) (hactive : (s.sec i).power = .active) (hdue : s.dispatchDue = false) (a : Addr) :
    s.Brings u i a told :=
  ⟨h.told, h.calls, h.settings.2.1, h.settings.2.2.2, h.others, by rw [h.sec]; exact hactive, by rw [h.sec],
    State.resolve_congr h.dir h.rosters i a, h.due.trans hdue, h.law⟩

end driven

/-! ## One record -/

section one
variable {s : State} {i : SectionId} {g : GoodRec} {recs : List LineRec}

theorem State.handRecords_one (s : State) (i : SectionId) (g : GoodRec) :
    State.handRecords i [g] false s = (((s.driven i g).handRecord i g).1, ((s.driven i g).handRecord i g).2) := by
  simp only [State.handRecords, State.driven, Bool.not_false, Bool.true_and, List.append_nil]

/-- A post-started burst of one record that is answered (R52, R54). -/
theorem State.postEnds_one (hex : (s.sec i).exch = .post) (h : readBurst recs = some [g]) {t : State} {out : OutRec}
    (hrec : ((s.burstEnded i).driven i g).handRecord i g = (t, [out])) :
    s.postEnds i recs = t.sendAnswer i [out] [.good] := by
  rw [State.postEnds, hex]
  dsimp only
  rw [h]
  dsimp only
  rw [State.handRecords_one, hrec, latches_eq h]
  rfl

theorem State.postEnds_bad (hex : (s.sec i).exch = .post) (h : readBurst recs = none) :
    s.postEnds i recs = (s.burstEnded i).discardPost i := by
  rw [State.postEnds, hex]
  dsimp only
  rw [h]

/-- The answer of a busy line, whatever its records have done to the section's queue and round (R54). -/
theorem State.sendAnswer_answers {t : State} {outs : List OutRec} {l : List CheckFlag} (hl : (s.sec i).line = .foreign)
    (hkept : ({ s.sec i with idleSince := some s.nowMs } : SectionCtl).SameLine (t.sec i)) (hs : t.silent = false)
    (hgood : l = List.replicate outs.length .good) :
    s.AnswersPost (t.sendAnswer i outs l) i outs := by
  have hpair : (t.sec i).pairFree = (s.sec i).pairFree := by
    rw [show t.sec i = _ from hkept]
    rfl
  have hbase : ∀ e : Exchange, ((t.modLine i (fun x => { x with exch := e })).sec i).line = .foreign ∧
      ((t.modLine i (fun x => { x with exch := e })).sec i).inFlight = (s.sec i).inFlight ∧
      ((t.modLine i (fun x => { x with exch := e })).sec i).idleSince = some s.nowMs := fun e => by
    rw [State.sec_modLine_self, show t.sec i = _ from hkept]
    exact ⟨hl, rfl, rfl⟩
  subst hgood
  cases hp : (s.sec i).pairFree with
  | true =>
    have hsync : (t.sec i).syncWord = (s.sec i).syncWord := by
      rw [show t.sec i = _ from hkept]
      rfl
    have hsends : t.sendAnswer i outs (List.replicate outs.length .good) = t.modLine i (fun x =>
        { x with exch := .answering ⟨(s.sec i).syncWord, .absent, outs⟩ (List.replicate outs.length .good) }) := by
      rw [State.sendAnswer_sends (hpair.trans hp) hs, State.modLine, State.modLine, hsync]
    rw [hsends]
    obtain ⟨hline, hin, hidle⟩ := hbase (.answering ⟨(s.sec i).syncWord, .absent, outs⟩ (List.replicate outs.length .good))
    exact ⟨hline, hin, hidle, fun _ => by rw [State.sec_modLine_self]; rfl, fun h => absurd (hp.symm.trans h) (by simp)⟩
  | false =>
    have hwaits : t.sendAnswer i outs (List.replicate outs.length .good) =
        t.modLine i (fun x => { x with exch := .answerDue outs (List.replicate outs.length .good) }) :=
      if_neg (by simp [hpair, hp])
    rw [hwaits]
    obtain ⟨hline, hin, hidle⟩ := hbase (.answerDue outs (List.replicate outs.length .good))
    exact ⟨hline, hin, hidle, fun h => absurd (hp.symm.trans h) (by simp), fun _ => by rw [State.sec_modLine_self]; rfl⟩

end one

end Sys2Proof.Machine
end

section
/-! SUPPORT. The records of a post-started burst that hang up or answer. -/

-- One theorem after another: elaborated side by side, they ask for more thread stacks than the check has memory for.
set_option Elab.async false

namespace Sys2Proof.Machine

section records
variable {s u v : State} {i : SectionId} {a : Addr} {c : Call} {told : List EventBody} {un : Option Unresolved}

/-! ## The answered burst as the statements read it -/

/-- What an answered burst leaves, whatever the call manager has done with its records (R54). -/
theorem State.Heard.answers (h : s.Heard u i told un) (ha : (s.sec i).power = .active) (hl : (s.sec i).line = .foreign)
    (hs : s.silent = false) (hinner : u.Inner v) (hkept : u.LineKept v) (outs : List OutRec) {l : List CheckFlag}
    (hgood : l = List.replicate outs.length .good) :
    s.AnswersPost (v.sendAnswer i outs l) i outs ∧ (v.sendAnswer i outs l).unresolved = un ∧
    s.SameOutside (v.sendAnswer i outs l) := by
  have hby := v.sendAnswer_byLine i outs l
  have hline : ({ s.sec i with idleSince := some s.nowMs } : SectionCtl).SameLine (v.sec i) := by
    rw [← h.sec]
    refine hkept i ?_
    rw [h.sec]
    exact .of_line ha (.inr hl)
  have hframe := hinner.trans hby.toInner
  obtain ⟨h1, h2, h3, h4⟩ := h.link
  obtain ⟨h5, h6⟩ := h.reply
  obtain ⟨h7, h8, h9, h10⟩ := h.settings
  exact ⟨State.sendAnswer_answers hl hline (hinner.silent.trans (h.told.silent.trans hs)) hgood, hframe.unresolved.trans h.unresolved,
    ⟨hframe.rx.trans h1, hframe.buffer.trans h2, hframe.resetHeld.trans h3, hframe.poweringUp.trans h4⟩,
    ⟨hframe.reply.trans h5, hframe.headTaken.trans h6⟩,
    ⟨hframe.mode.trans h7, hframe.globals.trans h8, hframe.seconds.trans h9, hframe.nowMs.trans h10⟩, hframe.rosters.trans h.rosters⟩

theorem State.SameOtherSections.trans' {t : State} (h1 : s.SameOtherSections i u) (h2 : u.SameOtherSections i t) :
    s.SameOtherSections i t :=
  fun j hj => ⟨(h2 j hj).1.trans (h1 j hj).1, (h2 j hj).2.trans (h1 j hj).2⟩

/-! ## ONHOOK -/

theorem State.onhook_none (h : s.callAt i a = none) : s.onhook i a = s := by
  rw [State.onhook, h]

theorem State.onhook_passed (h : s.callAt i a = some c) (hst : c.state = .ringing ∨ c.state = .abandoned) : s.onhook i a = s := by
  rw [State.onhook, h]
  dsimp only
  rcases hst with hst | hst <;> rw [hst]

theorem State.onhook_connected (h : s.callAt i a = some c) (hst : c.state = .connected) :
    s.onhook i a = s.endCall c .clearedByPost := by
  rw [State.onhook, h]
  dsimp only
  rw [hst]

theorem State.onhook_abandons (h : s.callAt i a = some c) (hst : c.state = .queued ∨ c.state = .offered ∨ c.state = .parked) :
    s.onhook i a = s.abandon c := by
  rw [State.onhook, h]
  dsimp only
  rcases hst with hst | hst | hst <;> rw [hst]

/-- A call as it is abandoned (R143). -/
def Call.asAbandoned (c : Call) : Call := { c with state := .abandoned, channel := none, offerTimer := none }

/-- The call has been abandoned, what it held has been released, and the CALL_ABANDONED told (R143). -/
def State.abandonedFreed (c : Call) (s : State) : State :=
  ((s.modCall c.ref Call.asAbandoned).releaseHeld c).post (.callAbandoned c.ref c.post c.sec c.addr c.state)

theorem State.abandonedFreed_alters (hc : s.findCall c.ref = some c) :
    s.Alters (s.abandonedFreed c) c.asAbandoned [.callAbandoned c.ref c.post c.sec c.addr c.state] := by
  have hrelease := (s.modCall c.ref Call.asAbandoned).calls_releaseChannel c.channel
  have hdrop := ((s.modCall c.ref Call.asAbandoned).releaseChannel c.channel).calls_dropPath c.sec c.ref
  have hquiet := (State.Told.quiet (s := s) (t := s.modCall c.ref Call.asAbandoned)).afterQuiet (State.releaseHeld_quietly _ c).1
  have htold := hquiet.afterQuiet (State.post_told _ (.callAbandoned c.ref c.post c.sec c.addr c.state))
  refine State.modCall_alters (f := Call.asAbandoned) (fun _ => rfl) hc ?_ ?_ ?_ ?_ htold
  · exact (State.post_calls _ _).trans (hdrop.1.trans hrelease.1)
  · exact (State.post_history _ _).trans (hdrop.2.1.trans hrelease.2.1)
  · exact (State.post_nextRef _ _).trans (hdrop.2.2.1.trans hrelease.2.2.1)
  · exact (State.post_fullEpisode _ _).trans (hdrop.2.2.2.1.trans hrelease.2.2.2)

/-- On a busy line the freed path is no occasion for the arbiter (R73, R143). -/
theorem State.abandon_alters (hb : (s.sec c.sec).Busy) (hc : s.findCall c.ref = some c) :
    s.Alters (s.abandon c) c.asAbandoned [.callAbandoned c.ref c.post c.sec c.addr c.state] := by
  have hgiven := (State.abandonedFreed_alters hc).offered c.sec c.addr .clear c.ref
  have hbusy : (((s.abandonedFreed c).offerNotice c.sec c.addr .clear c.ref).sec c.sec).Busy := by
    have hsame : (s.abandonedFreed c).sec c.sec = s.sec c.sec := by
      rw [State.abandonedFreed, State.sec_post, State.releaseHeld_sec]
      rfl
    have hq := (s.abandonedFreed c).offerNotice_queueOnly c.sec c.sec c.addr .clear c.ref (by rw [hsame]; exact hb)
    rw [show ((s.abandonedFreed c).offerNotice c.sec c.addr .clear c.ref).sec c.sec = _ from hq, hsame]
    exact ⟨hb.active, hb.idle, hb.brk⟩
  have heq : s.abandon c = (s.abandonedFreed c).offerNotice c.sec c.addr .clear c.ref := by
    unfold State.abandon
    dsimp only
    split
    · exact State.arbiter_elsewhere hbusy.idle hbusy.brk
    · rfl
  rw [heq]
  exact hgiven

/-! ## ANSWER -/

theorem State.answerRecord_connects {ch : ChanId} (h : s.callAt i a = some c) (hst : c.state = .ringing) (hch : c.channel = some ch) :
    s.answerRecord i a = s.connect c ch := by
  rw [State.answerRecord, h]
  exact (if_pos hst).trans (State.postAnswers_connects hch)

theorem State.answerRecord_passed (h : ∀ c, s.callAt i a = some c → c.state ≠ .ringing) : s.answerRecord i a = s := by
  unfold State.answerRecord
  split
  · next c hc => exact if_neg (h c hc)
  · rfl

/-! ## NOTICE -/

theorem State.takeNotice_passed {st : StatusFields} (h : s.slotAt i a = none) : s.takeNotice i a st = s := if_neg (by simp [h])

theorem State.takeNotice_taken {st : StatusFields} (h : (s.slotAt i a).isSome = true) :
    s.takeNotice i a st = (s.statusReport i a st).impliedAlert i a st := if_pos h

theorem State.takeNotice_inner (s : State) (i : SectionId) (a : Addr) (st : StatusFields) : s.Inner (s.takeNotice i a st) := by
  unfold State.takeNotice
  split
  · exact (State.statusReport_noCall s i i a st).toInner.trans (State.impliedAlert_outer _ i a st).1
  · exact .refl s

theorem State.takeNotice_queueOnly (s : State) (i : SectionId) (a : Addr) (st : StatusFields) : s.QueueOnly i (s.takeNotice i a st) := by
  unfold State.takeNotice
  split
  · exact (State.QueueOnly.ofSec (by rw [State.sec, State.statusReport_secs]; rfl)).trans (State.impliedAlert_queueOnly _ i i a st)
  · exact .refl i s

end records

end Sys2Proof.Machine
end

section
/-! SUPPORT. A post-started burst ends: each kind of record, and its answer. -/

-- One theorem after another: elaborated side by side, they ask for more thread stacks than the check has memory for.
set_option Elab.async false

namespace Sys2Proof.Machine

/-- What stands in every case of a post-started burst on a line in FOREIGN. -/
structure State.Receiving (s : State) (i : SectionId) : Prop where
  exch : (s.sec i).exch = .post
  active : (s.sec i).power = .active
  line : (s.sec i).line = .foreign
  silent : s.silent = false
  due : s.dispatchDue = false

/-- The state in which the first record of a post-started burst reaches its consumer (R18, R52). -/
def State.heard (i : SectionId) (a : Addr) (k : PostKind) (st : Option StatusFields) (s : State) : State :=
  (s.burstEnded i).driven i ⟨a, k, st⟩

section burst
variable {s : State} {i : SectionId} {a : Addr} {recs : List LineRec}

theorem State.Receiving.runs (h : s.Receiving i) {k : PostKind} {st : Option StatusFields} (hrec : readBurst recs = some [⟨a, k, st⟩])
    {v : State} {out : OutRec} (hhand : (s.heard i a k st).handRecord i ⟨a, k, st⟩ = (v, [out])) :
    exec (.postBurstEnd i recs) s = .next (v.sendAnswer i [out] [.good]) :=
  congrArg Host.Outcome.next (State.postEnds_one h.exch hrec hhand)

/-- The same call manager and events: an answered burst that changes nothing more. -/
theorem State.Brings.passed {u : State} {told : List EventBody} (h : s.Brings u i a told) (outs : List OutRec) (l : List CheckFlag) :
    s.SameCalls (u.sendAnswer i outs l) ∧ s.Tells (u.sendAnswer i outs l) told := by
  have hby := u.sendAnswer_byLine i outs l
  have hevents : (u.sendAnswer i outs l).events = u.events := by
    unfold State.sendAnswer
    split <;> rfl
  exact ⟨h.calls.trans hby.calls, (h.told.thenQuiet (.ofByLine hby hevents)).tells⟩

/-! ## A bad burst -/

theorem State.discardPost_waits (hp : (s.sec i).pairFree = false) :
    (s.burstEnded i).discardPost i = (s.burstEnded i).setExch i .discarded :=
  if_neg (by rw [s.sec_burstEnded_self i]; exact fun hf => absurd (hp.symm.trans hf) (by simp))

theorem State.discardPost_ends (hp : (s.sec i).pairFree = true) :
    (s.burstEnded i).discardPost i = (s.burstEnded i).endForeign i :=
  if_pos (by rw [s.sec_burstEnded_self i]; exact hp)

/-! ## ALERT -/

/-- An ALERT (R52, R55, R134). -/
theorem State.Receiving.alerts (h : s.Receiving i) (hrec : readBurst recs = some [⟨a, .alert, none⟩]) (hrefs : s.RefLaw) :
    ∃ (t : State) (ref : Option Nat), exec (.postBurstEnd i recs) s = .next t ∧
      (1 ≤ a.val → s.AlertOutcome t .alert i a (s.unresolvedTold i a .alert) ref) ∧
      (a = 0 → ref = none ∧ s.SameCalls t) ∧
      (a = 0 ∨ (∃ c, s.callAt i a = some c ∧ c.state ≠ .ringing ∧ c.state ≠ .abandoned) →
        s.Tells t (s.unresolvedTold i a .alert)) ∧
      s.AnswersPost t i [⟨a, match ref with | some r => .alertRegistered r | none => .alertDeferred⟩] ∧
      t.unresolved = s.unresolvedAfter i a .alert ∧ t.dir = s.dir ∧ s.SameOutside t ∧
      (a = 0 ∨ (s.callAt i a).isSome = true ∨ s.calls.length < 32 → s.SameOtherSections i t) := by
  have hheard : s.Heard (s.heard i a .alert none) i _ _ := s.driven_heard i a .alert none
  have hrun := h.runs hrec (v := ((s.heard i a .alert none).alert .alert i a).1.finish)
    (out := ⟨a, alertAck ((s.heard i a .alert none).alert .alert i a).2⟩) rfl
  generalize s.heard i a .alert none = u at *
  have hbrings := hheard.brings h.active h.due a
  obtain ⟨hinner, hdir⟩ := u.alert_inner .alert i a
  have hby := State.sendAnswer_byLine (u.alert .alert i a).1.finish i [⟨a, alertAck (u.alert .alert i a).2⟩] [.good]
  obtain ⟨hanswers, hun, hout⟩ := hheard.answers h.active h.line h.silent (hinner.trans (State.finish_inner _))
    ((u.alert_lineKept .alert i a).trans (State.finish_lineKept _)) [⟨a, alertAck (u.alert .alert i a).2⟩] (l := [.good]) rfl
  have hidle : u.alert .alert i a = (u, none) → (u.alert .alert i a).1.finish = u := fun heq => by
    rw [heq]
    exact State.finish_idle hbrings.due
  refine ⟨_, (u.alert .alert i a).2, hrun, fun h1 => hbrings.alertOutcome hrefs h1 hby.toNoCall, fun hzero => ?_, fun hno => ?_, ?_,
    hun, ?_, hout, fun hwhere => ?_⟩
  · have heq : u.alert .alert i a = (u, none) := by rw [hzero]; exact State.alert_zero
    rw [hidle heq]
    exact ⟨by rw [heq], (hbrings.passed _ _).1⟩
  · have heq : (u.alert .alert i a).1 = u := by
      rcases hno with hzero | ⟨c, hc, hr, hab⟩
      · rw [hzero, State.alert_zero]
      · by_cases h1 : 1 ≤ a.val
        · rw [State.alert_live h1 ((hbrings.calls.callAt i a).trans hc)]
          cases hst : c.state <;> simp_all
        · rw [State.alert, if_pos (Fin.ext (Nat.lt_one_iff.1 (Nat.lt_of_not_le h1)))]
    rw [heq, State.finish_idle hbrings.due]
    exact (hbrings.passed _ _).2
  · cases href : (u.alert .alert i a).2 <;> rw [href] at hanswers <;> exact hanswers
  · rw [hby.dir, State.finish_dir, hdir, hheard.dir]
  · refine hheard.others.trans' (State.SameOtherSections.trans' (u := (u.alert .alert i a).1.finish) ?_ hby.others)
    rcases hwhere with hzero | hwhere
    · rw [hidle (by rw [hzero]; exact State.alert_zero)]
      exact fun _ _ => ⟨rfl, rfl⟩
    · have hcalls := u.alert_byCalls .alert i a (by rw [hbrings.calls.callAt, hbrings.calls.1]; exact hwhere)
      exact (hcalls.trans (State.finish_byCalls _ i)).others

/-! ## ONHOOK -/

/-- An ONHOOK (R141). -/
theorem State.Receiving.hangsUp (h : s.Receiving i) (hrec : readBurst recs = some [⟨a, .onhook, none⟩]) (hrefs : s.RefLaw) :
    ∃ t : State, exec (.postBurstEnd i recs) s = .next t ∧
      (∀ c, s.callAt i a = some c →
        ((c.state = .queued ∨ c.state = .offered ∨ c.state = .parked) →
          t.findCall c.ref = some { c with state := .abandoned, channel := none, offerTimer := none } ∧
          s.TellsFirst t (s.unresolvedTold i a .onhook ++ [.callAbandoned c.ref c.post i a c.state])) ∧
        (c.state = .connected → t.findCall c.ref = none ∧
          s.TellsFirst t (s.unresolvedTold i a .onhook ++
            [.callEnded c.ref c.post i a c.direction .clearedByPost (c.connectedSeconds s.seconds)])) ∧
        (c.state = .ringing ∨ c.state = .abandoned → s.SameCalls t ∧ s.Tells t (s.unresolvedTold i a .onhook))) ∧
      (s.callAt i a = none → s.SameCalls t ∧ s.Tells t (s.unresolvedTold i a .onhook)) ∧
      s.AnswersPost t i [⟨a, .ack⟩] ∧ t.unresolved = s.unresolvedAfter i a .onhook ∧ t.dir = s.dir ∧ s.SameOutside t ∧
      s.SameOtherSections i t := by
  have hheard : s.Heard (s.heard i a .onhook none) i _ _ := s.driven_heard i a .onhook none
  have hrun := h.runs hrec (v := ((s.heard i a .onhook none).onhook i a).finish) (out := ⟨a, .ack⟩) rfl
  generalize s.heard i a .onhook none = u at *
  have hbrings := hheard.brings h.active h.due a
  have hby := State.sendAnswer_byLine (u.onhook i a).finish i [⟨a, .ack⟩] [.good]
  have hcalls := (u.onhook_byCalls i a).trans (State.finish_byCalls _ i)
  obtain ⟨hanswers, hun, hout⟩ := hheard.answers h.active h.line h.silent hcalls.toInner
    ((u.onhook_lineKept i a).trans (State.finish_lineKept _)) [⟨a, .ack⟩] (l := [.good]) rfl
  have hpassed : u.onhook i a = u → s.SameCalls ((u.onhook i a).finish.sendAnswer i [⟨a, .ack⟩] [.good]) ∧
      s.Tells ((u.onhook i a).finish.sendAnswer i [⟨a, .ack⟩] [.good]) (s.unresolvedTold i a .onhook) := fun heq => by
    rw [heq, State.finish_idle hbrings.due]
    exact hbrings.passed _ _
  refine ⟨_, hrun, fun c hc => ?_, fun hno => hpassed (State.onhook_none ((hbrings.calls.callAt i a).trans hno)), hanswers, hun,
    hby.dir.trans (hcalls.dir.trans hheard.dir), hout, hheard.others.trans' (hcalls.others.trans' hby.others)⟩
  obtain ⟨hcu, hfind, hsec⟩ := hbrings.found hrefs hc
  have haddr := (State.callAt_spec hc).2.2
  refine ⟨fun hst => ?_, fun hst => ?_, fun hst => hpassed (State.onhook_passed hcu hst)⟩
  · have halt := State.abandon_alters (s := u) (c := c) (by
      rw [hsec, hheard.sec]
      exact .of_line h.active (.inr h.line)) hfind
    rw [hsec, haddr] at halt
    rw [State.onhook_abandons hcu hst] at hby ⊢
    refine ⟨(hby.calls.findCall c.ref).trans
      ((State.finish_dispatched (halt.refs (hrefs.same hbrings.calls))).keeps (q := c.ref) halt.found (by simp)),
      (hbrings.told.trans halt.told).first ((State.finish_inner _).trans hby.toInner)⟩
  · obtain ⟨bs, hbs⟩ := u.endCall_toldFirst c .clearedByPost
    rw [State.onhook_connected hcu hst] at hby ⊢
    obtain ⟨cs, hcs⟩ := ((State.finish_inner _).trans hby.toInner).told'
    have hends := u.endCall_ends c .clearedByPost
    rw [Call.endTold, hsec, haddr, hbrings.told.seconds] at hbs
    refine ⟨(hby.calls.findCall c.ref).trans (State.finish_none (by rw [hends.findCall, if_pos rfl])), bs ++ cs, ?_⟩
    have hall := ((hbrings.told.trans hbs).trans hcs).tells
    simpa using hall

/-! ## ANSWER -/

/-- An ANSWER (R137). -/
theorem State.Receiving.picksUp (h : s.Receiving i) (hrec : readBurst recs = some [⟨a, .answer, none⟩]) (hrefs : s.RefLaw) :
    ∃ t : State, exec (.postBurstEnd i recs) s = .next t ∧
      (∀ c ch, s.callAt i a = some c → c.state = .ringing → c.channel = some ch →
        t.findCall c.ref = some { c with state := .connected, connectedSince := some s.seconds, offerTimer := none,
                                         ringTimer := none } ∧
        t.chan ch = ⟨.connected, (s.chan ch).ready, some c.ref⟩ ∧ t.join i = .channel ch ∧
        s.TellsFirst t (s.unresolvedTold i a .answer ++ [.callConnected c.ref ch])) ∧
      ((∀ c, s.callAt i a = some c → c.state ≠ .ringing) → s.SameCalls t ∧ s.Tells t (s.unresolvedTold i a .answer)) ∧
      s.AnswersPost t i [⟨a, .ack⟩] ∧ t.unresolved = s.unresolvedAfter i a .answer ∧ t.dir = s.dir ∧ s.SameOutside t ∧
      s.SameOtherSections i t := by
  have hheard : s.Heard (s.heard i a .answer none) i _ _ := s.driven_heard i a .answer none
  have hrun := h.runs hrec (v := ((s.heard i a .answer none).answerRecord i a).finish) (out := ⟨a, .ack⟩) rfl
  generalize s.heard i a .answer none = u at *
  have hbrings := hheard.brings h.active h.due a
  have hby := State.sendAnswer_byLine (u.answerRecord i a).finish i [⟨a, .ack⟩] [.good]
  have hcalls := (u.answerRecord_byCalls i a).trans (State.finish_byCalls _ i)
  obtain ⟨hanswers, hun, hout⟩ := hheard.answers h.active h.line h.silent hcalls.toInner
    ((u.answerRecord_lineKept i a).trans (State.finish_lineKept _)) [⟨a, .ack⟩] (l := [.good]) rfl
  refine ⟨_, hrun, fun c ch hc hst hch => ?_, fun hno => ?_, hanswers, hun, hby.dir.trans (hcalls.dir.trans hheard.dir), hout,
    hheard.others.trans' (hcalls.others.trans' hby.others)⟩
  · rw [State.answerRecord_connects ((hbrings.calls.callAt i a).trans hc) hst hch] at hby ⊢
    exact hbrings.connects hrefs hc hch hby.toNoCall
  · rw [State.answerRecord_passed (fun c hc => hno c ((hbrings.calls.callAt i a).symm.trans hc)), State.finish_idle hbrings.due]
    exact hbrings.passed _ _

end burst

end Sys2Proof.Machine
end

section
/-! SUPPORT. A post-started burst ends: a NOTICE, and two records. -/

-- One theorem after another: elaborated side by side, they ask for more thread stacks than the check has memory for.
set_option Elab.async false

namespace Sys2Proof.Machine

section burst
variable {s : State} {i : SectionId} {a : Addr} {recs : List LineRec}

theorem State.sendAnswer_round (s : State) (i : SectionId) (outs : List OutRec) (l : List CheckFlag) :
    ((s.sendAnswer i outs l).sec i).round = (s.sec i).round := by
  unfold State.sendAnswer
  split <;> rw [State.sec_modLine_self] <;> rfl

/-- A NOTICE (R109, R111). -/
theorem State.Receiving.notices (h : s.Receiving i) {st : StatusFields} (hrec : readBurst recs = some [⟨a, .notice, some st⟩])
    (hrefs : s.RefLaw) :
    ∃ t : State, exec (.postBurstEnd i recs) s = .next t ∧
      (s.slotAt i a = none → t.dir = s.dir ∧ s.SameCalls t ∧ s.Tells t (s.unresolvedTold i a .notice)) ∧
      (∀ k e, s.entryAt i a = some e → s.lookup e.post = some (k, e) →
        t.lookup e.post = some (k, { e with
          lastStatus := some st, lastReply := some s.seconds, missed := 0, reachable := true,
          lowBattery := decide (st.battery < s.globals.lowBattery) }) ∧
        ((st.hookOff = false ∨ (s.callAt i a).isSome = true) →
          s.SameCalls t ∧ s.SameOtherSections i t ∧ s.Tells t (e.told st s.globals.lowBattery)) ∧
        (st.hookOff = true → s.callAt i a = none →
          ∃ ref, s.AlertOutcome t .poll i a (e.told st s.globals.lowBattery) ref)) ∧
      (t.sec i).round = (s.sec i).round ∧ s.AnswersPost t i [⟨a, .ack⟩] ∧ t.unresolved = s.unresolvedAfter i a .notice ∧
      s.SameOutside t := by
  have hheard : s.Heard (s.heard i a .notice (some st)) i _ _ := s.driven_heard i a .notice (some st)
  have hrun := h.runs hrec (v := (s.heard i a .notice (some st)).takeNotice i a st) (out := ⟨a, .ack⟩) rfl
  have hfilled : (s.slotAt i a).isSome = true → s.heard i a .notice (some st) = s.burstEnded i := fun hs =>
    if_neg (by rw [show (s.burstEnded i).slotAt i a = s.slotAt i a from rfl]; simpa [Option.isSome_iff_ne_none] using hs)
  generalize hu : s.heard i a .notice (some st) = u at *
  have hbrings := hheard.brings h.active h.due a
  have hbusy : (u.sec i).Busy := by
    rw [hheard.sec]
    exact .of_line h.active (.inr h.line)
  have hby := State.sendAnswer_byLine (u.takeNotice i a st) i [⟨a, .ack⟩] [.good]
  obtain ⟨hanswers, hun, hout⟩ := hheard.answers h.active h.line h.silent (u.takeNotice_inner i a st)
    (u.takeNotice_lineKept i a st) [⟨a, .ack⟩] (l := [.good]) rfl
  have hslotAt : u.slotAt i a = s.slotAt i a := State.slotAt_congr hheard.rosters i a
  refine ⟨_, hrun, fun hnone => ?_, fun k e he hl => ?_, ?_, hanswers, hun, hout⟩
  · have hsame := State.takeNotice_passed (st := st) (hslotAt.trans hnone)
    rw [hsame] at hby ⊢
    exact ⟨hby.dir.trans hheard.dir, hbrings.passed _ _⟩
  · have hslot : (s.slotAt i a).isSome = true := by
      cases hs : s.slotAt i a with
      | none =>
        rw [State.entryAt, hs] at he
        cases he
      | some p => rfl
    have hempty : u = s.burstEnded i := hfilled hslot
    have hline : s.ByLine i u := hempty ▸ s.burstEnded_byLine i
    have hevents : u.events = s.events := by rw [hempty]; rfl
    obtain ⟨hreported, hlookup, -⟩ := hline.brings (st := st) hevents hbusy.active (by rw [hheard.sec]) h.due
      (fun hlaw => (State.callLaw_iff _).1 (hheard.law hlaw)) he hl
    have htaken := State.takeNotice_taken (s := u) (st := st) (by rw [hslotAt]; exact hslot)
    rw [htaken] at hby ⊢
    obtain ⟨-, hdir⟩ := (u.statusReport i a st).impliedAlert_outer i a st
    refine ⟨(State.lookup_congr (hby.dir.trans hdir) e.post).trans hlookup, fun hoff => ?_, fun hoff hno => ?_⟩
    · rw [State.impliedAlert_none (by rw [hreported.calls.callAt]; exact hoff)] at hby ⊢
      obtain ⟨hcalls, htells⟩ := hreported.passed [⟨a, .ack⟩] [.good]
      exact ⟨hcalls, hreported.others.trans' hby.others, htells⟩
    · rw [State.impliedAlert_alerts hoff ((hreported.calls.callAt i a).trans hno)] at hby ⊢
      exact ⟨_, hreported.alertOutcome hrefs (State.entryAt_addr he) hby.toNoCall⟩
  · rw [State.sendAnswer_round, show (u.takeNotice i a st).sec i = _ from u.takeNotice_queueOnly i a st hbusy, hheard.sec]

/-! ## Two records -/

theorem State.handRecord_onhook {s : State} {i : SectionId} {a : Addr} (hnone : s.callAt i a = none) (hdue : s.dispatchDue = false) :
    s.handRecord i ⟨a, .onhook, none⟩ = (s, [⟨a, .ack⟩]) := by
  change ((s.onhook i a).finish, _) = _
  rw [State.onhook_none hnone, State.finish_idle hdue]

/-- Of two ONHOOKs where no call stands, the first from an empty slot is the one the unresolved-post record hears of (R18). -/
theorem State.handRecords_onhooks {s : State} {i : SectionId} {a b : Addr} (ha : s.callAt i a = none) (hb : s.callAt i b = none)
    (hdue : s.dispatchDue = false) {u : State}
    (hu : u = if (s.slotAt i a).isSome then s.driven i ⟨b, .onhook, none⟩ else s.driven i ⟨a, .onhook, none⟩)
    (hcalls : s.SameCalls u) (hdue' : u.dispatchDue = false) :
    State.handRecords i [⟨a, .onhook, none⟩, ⟨b, .onhook, none⟩] false s = (u, [⟨a, .ack⟩, ⟨b, .ack⟩]) := by
  have hua := State.handRecord_onhook ((hcalls.callAt i a).trans ha) hdue'
  have hub := State.handRecord_onhook ((hcalls.callAt i b).trans hb) hdue'
  rw [State.handRecords]
  cases hslot : s.slotAt i a with
  | some p =>
    rw [hslot] at hu
    obtain rfl : u = s.driven i ⟨b, .onhook, none⟩ := hu
    simp only [Option.isNone_some, Bool.not_false, Bool.and_false, Bool.false_eq_true, if_false, Bool.or_false,
      State.handRecord_onhook ha hdue, State.handRecords_one, hub]
    rfl
  | none =>
    rw [hslot] at hu
    have hdrives : u = s.driveUnresolved i ⟨a, .onhook, none⟩ := hu.trans (if_pos (show (s.slotAt i a).isNone = true by rw [hslot]; rfl))
    simp only [Option.isNone_none, Bool.not_false, Bool.and_true, if_true, Bool.or_true, ← hdrives, hua, State.handRecords,
      Bool.not_true, Bool.false_and, Bool.false_eq_true, if_false, hub, List.append_nil]
    rfl

theorem State.Receiving.hangUpTwice (h : s.Receiving i) {b : Addr}
    (hrec : readBurst recs = some [⟨a, .onhook, none⟩, ⟨b, .onhook, none⟩]) (ha : s.callAt i a = none) (hb : s.callAt i b = none) :
    ∃ t : State, exec (.postBurstEnd i recs) s = .next t ∧ s.AnswersPost t i [⟨a, .ack⟩, ⟨b, .ack⟩] ∧
      t.unresolved = (if (s.slotAt i a).isSome then s.unresolvedAfter i b .onhook else s.unresolvedAfter i a .onhook) ∧
      s.Tells t (if (s.slotAt i a).isSome then s.unresolvedTold i b .onhook else s.unresolvedTold i a .onhook) ∧
      s.SameCalls t ∧ t.dir = s.dir ∧ s.SameOutside t ∧ s.SameOtherSections i t := by
  obtain ⟨u, hu⟩ : ∃ u, u = if (s.slotAt i a).isSome then s.heard i b .onhook none else s.heard i a .onhook none := ⟨_, rfl⟩
  have hheard : s.Heard u i (if (s.slotAt i a).isSome then s.unresolvedTold i b .onhook else s.unresolvedTold i a .onhook)
      (if (s.slotAt i a).isSome then s.unresolvedAfter i b .onhook else s.unresolvedAfter i a .onhook) := by
    rw [hu]
    split
    · exact s.driven_heard i b .onhook none
    · exact s.driven_heard i a .onhook none
  have hbrings := hheard.brings h.active h.due a
  have hboth : State.handRecords i [⟨a, .onhook, none⟩, ⟨b, .onhook, none⟩] false (s.burstEnded i) = (u, [⟨a, .ack⟩, ⟨b, .ack⟩]) :=
    State.handRecords_onhooks (s := s.burstEnded i) ha hb h.due hu hbrings.calls hbrings.due
  have hrun : s.postEnds i recs = u.sendAnswer i [⟨a, .ack⟩, ⟨b, .ack⟩] [.good, .good] := by
    rw [State.postEnds, h.exch]
    dsimp only
    rw [hrec]
    dsimp only
    rw [hboth, latches_eq hrec]
    rfl
  have hby := u.sendAnswer_byLine i [⟨a, .ack⟩, ⟨b, .ack⟩] [.good, .good]
  obtain ⟨hanswers, hun, hout⟩ := hheard.answers h.active h.line h.silent (.refl u) (.refl u) [⟨a, .ack⟩, ⟨b, .ack⟩]
    (l := [.good, .good]) rfl
  obtain ⟨hcalls, htells⟩ := hbrings.passed [⟨a, .ack⟩, ⟨b, .ack⟩] [.good, .good]
  exact ⟨_, congrArg Host.Outcome.next hrun, hanswers, hun, htells, hcalls, hby.dir.trans hheard.dir, hout,
    hheard.others.trans' hby.others⟩

end burst

end Sys2Proof.Machine

open Sys2Proof Sys2Proof.Machine

/-- Settles O53: a bad burst is discarded, and the records of a good one are handed to the call manager and answered. -/
theorem postBurstIsHandedToTheCallManager : Obligations.PostBurstIsHandedToTheCallManager := by
  rintro s i _ recs a rfl hex ha hl hs hdue
  have hreceiving : s.Receiving i := ⟨hex, ha, hl, hs, hdue⟩
  have hy := s.sec_burstEnded_self i
  refine ⟨fun hbad => ⟨fun hp => ?_, fun hp hin hq hslot hr hpend => ?_⟩, fun hrec hrefs => hreceiving.alerts hrec hrefs,
    fun hrec hrefs => hreceiving.hangsUp hrec hrefs, fun hrec hrefs => hreceiving.picksUp hrec hrefs,
    fun st hrec hrefs => hreceiving.notices hrec hrefs, fun b hrec hna hnb => hreceiving.hangUpTwice hrec hna hnb⟩
  · refine ⟨_, congrArg Host.Outcome.next ((State.postEnds_bad hex hbad).trans (State.discardPost_waits hp)), ?_, ?_, ?_, rfl, rfl,
      ((s.burstEnded_byLine i).trans (State.modLine_byLine _ i _)).onlyLine⟩ <;> rw [State.setExch, State.sec_modLine_self, hy]
    · rfl
    · exact hl
    · rfl
  · have hrests := State.burstEnded_rests hpend hin hq hslot hr
    exact ⟨_, congrArg Host.Outcome.next ((State.postEnds_bad hex hbad).trans (State.discardPost_ends hp)), hrests.exch, hrests.line,
      hrests.idleSince, hrests.events, hrests.ltu, hrests.byLine.onlyLine⟩
end

section
/-! SUPPORT. The abort of a section's queue, and the report of what it has taken out. -/

-- One theorem after another: elaborated side by side, they ask for more thread stacks than the check has memory for.
set_option Elab.async false

namespace Sys2Proof.Machine

/-! ## The abort of a queue -/

section abort
variable {s t u : State} {i : SectionId}

theorem SectionCtl.slot_none {x : SectionCtl} (h : x.slot = none) : { x with slot := none } = x := by rw [← h]

/-- The abort of a MEASURE (R125, R126). -/
theorem State.abortMeasure_spec (s : State) (i : SectionId) : s.Told (s.abortMeasure i) (s.measureAbortTold i) ∧
    (s.abortMeasure i).sec i = { s.sec i with slot := none } ∧ ((s.abortMeasure i).ltuOf i).running = none := by
  unfold State.abortMeasure State.measureAbortTold
  cases hrun : (s.ltuOf i).running with
  | some r =>
    refine ⟨State.Told.afterQuiet (t := (s.setLtu i _).modSec i _) .quiet (State.post_told _ _), ?_, by simp⟩
    rw [State.sec_post, State.sec_modSec_self]
    rfl
  | none =>
    cases hslot : (s.sec i).slot with
    | some g =>
      refine ⟨State.Told.afterQuiet (t := s.modSec i _) .quiet (State.post_told _ _), ?_, by simpa using hrun⟩
      rw [State.sec_post, State.sec_modSec_self]
    | none => exact ⟨.refl s, (SectionCtl.slot_none hslot).symm, hrun⟩

/-- A section with nothing in its queue, on its line or in its MEASURE slot (R80). -/
def SectionCtl.aborted (x : SectionCtl) (now : Nat) : SectionCtl :=
  { { x with exch := .quiet, inFlight := none, queue := [] }.retime now with slot := none }

/-- The abort of a queue (R80). -/
theorem State.abortQueue_spec (s : State) (i : SectionId) : s.Told (s.abortQueue i) (s.measureAbortTold i) ∧
    (s.abortQueue i).sec i = (s.sec i).aborted s.nowMs ∧ ((s.abortQueue i).ltuOf i).running = none := by
  obtain ⟨htold, hsec, hrun⟩ := (s.modLine i (fun x => { x with exch := .quiet, inFlight := none, queue := [] })).abortMeasure_spec i
  have hsame : (s.modLine i (fun x => { x with exch := .quiet, inFlight := none, queue := [] })).measureAbortTold i =
      s.measureAbortTold i := by
    unfold State.measureAbortTold
    rw [State.sec_modLine_self]
    rfl
  rw [State.sec_modLine_self] at hsec
  rw [hsame] at htold
  exact ⟨State.Told.afterQuiet .quiet htold, hsec, hrun⟩

/-! ## The reports of an abort -/

theorem State.failTold_aborted (s : State) (i : SectionId) (q : Txn) : s.failTold i q .aborted = s.abortTold i q := rfl

theorem State.abortTold_congr {s t : State} (h : t.rosters = s.rosters) (i : SectionId) (q : Txn) :
    t.abortTold i q = s.abortTold i q := by
  rw [State.abortTold, State.abortTold, State.slotAt_congr h]

/-- An aborted transaction that ends no call is told (R80). -/
theorem State.reportFailed_aborted {q : Txn} (h : q.kind = .ring → ∀ r, q.origin = .call r → s.findCall r = none) :
    s.reportFailed i q .aborted = s.post (s.abortTold i q) := by
  cases ho : q.origin with
  | round => exact State.reportFailed_round ho s i .aborted
  | host => exact State.reportFailed_host ho s i .aborted
  | call n =>
    rw [State.reportFailed_call ho, State.failTold_aborted]
    by_cases hk : q.kind = .ring
    · have hgone : (s.post (s.abortTold i q)).findCall n = none :=
        ((State.post_byLine s i _).calls.findCall n).trans (h hk n ho)
      rw [State.noticeFailed, hgone]
    · exact State.noticeFailed_other hk _ _

/-- The reports of an abort none of whose rings has a call left are what they tell. -/
theorem State.reportAborted_told (qs : List Txn) {s : State}
    (h : ∀ q ∈ qs, q.kind = .ring → ∀ r, q.origin = .call r → s.findCall r = none) :
    s.Told (State.reportAborted i qs s) (qs.map (s.abortTold i)) ∧ s.SameCalls (State.reportAborted i qs s) := by
  induction qs generalizing s with
  | nil => exact ⟨.refl s, .refl s⟩
  | cons q qs ih =>
    have hcalls := (State.post_byLine s i (s.abortTold i q)).calls
    have hslots : (s.post (s.abortTold i q)).abortTold i = s.abortTold i := by
      funext t
      exact State.abortTold_congr (State.post_byLine s i (s.abortTold i q)).rosters i t
    rw [State.reportAborted, State.reportFailed_aborted (h q (by simp))]
    obtain ⟨htold, hsame⟩ := ih (s := s.post (s.abortTold i q)) (fun t ht hk r ho =>
      (hcalls.findCall r).trans (h t (by simp [ht]) hk r ho))
    rw [hslots] at htold
    exact ⟨(s.post_told _).trans htold, hcalls.trans hsame⟩

theorem State.reportAborted_inner (qs : List Txn) (s : State) : s.Inner (State.reportAborted i qs s) := by
  induction qs generalizing s with
  | nil => exact .refl s
  | cons q qs ih => exact (s.reportFailed_inner i q .aborted).trans (ih _)

/-! ## A section without calls -/

/-- No live call is of section `i`. -/
def State.NoCallsOn (s : State) (i : SectionId) : Prop := ∀ c ∈ s.calls, c.sec ≠ i

/-- No live call is of section `i`, and section `i` and its path are as they were. -/
structure State.Untouched (i : SectionId) (s t : State) : Prop where
  calls : t.NoCallsOn i
  sec : t.sec i = s.sec i
  ltuOf : t.ltuOf i = s.ltuOf i
  holder : t.holder i = s.holder i

theorem State.Untouched.trans (h1 : State.Untouched i s t) (h2 : State.Untouched i t u) : State.Untouched i s u :=
  ⟨h2.calls, h2.sec.trans h1.sec, h2.ltuOf.trans h1.ltuOf, h2.holder.trans h1.holder⟩

theorem State.NoCallsOn.same (h : s.NoCallsOn i) (hs : s.SameCalls t) : t.NoCallsOn i := fun c hc => h c (hs.1 ▸ hc)

/-- A call of another section ends. -/
theorem State.NoCallsOn.endCall (h : s.NoCallsOn i) {c : Call} (hc : c ∈ s.calls) (e : EndCause) :
    State.Untouched i s (s.endCall c e) := by
  have hends := s.endCall_ends c e
  obtain ⟨hsec, hltu⟩ := (s.endCall_byCalls c e).others i (Ne.symm (h c hc))
  refine ⟨fun d hd => ?_, hsec, hltu, ?_⟩
  · rw [hends.calls, List.mem_filter] at hd
    exact h d hd.1
  · rw [hends.holder, if_neg (fun hj => h c hc hj.1.symm)]

theorem State.NoCallsOn.reportFailed (h : s.NoCallsOn i) (q : Txn) : State.Untouched i s (s.reportFailed i q .aborted) := by
  have hpost : State.Untouched i s (s.post (s.failTold i q .aborted)) :=
    ⟨h.same (State.post_byLine s i _).calls, by simp, by simp, (State.post_byLine s i _).calls.holder i⟩
  cases ho : q.origin with
  | round =>
    rw [State.reportFailed_round ho]
    exact hpost
  | host =>
    rw [State.reportFailed_host ho]
    exact hpost
  | call n =>
    rw [State.reportFailed_call ho]
    unfold State.noticeFailed
    split
    · next c hc =>
      split
      · exact hpost.trans (hpost.calls.endCall (State.mem_of_findCall hc).1 _)
      · exact hpost
    · exact hpost

theorem State.NoCallsOn.reportAborted (qs : List Txn) {s : State} (h : s.NoCallsOn i) :
    State.Untouched i s (State.reportAborted i qs s) := by
  induction qs generalizing s with
  | nil => exact ⟨h, rfl, rfl, rfl⟩
  | cons q qs ih => exact (h.reportFailed q).trans (ih (h.reportFailed q).calls)

/-- The dispatcher offers a call of another section. -/
theorem State.NoCallsOn.offer (h : s.NoCallsOn i) {c : Call} (hc : c ∈ s.calls) (ch : ChanId) :
    State.Untouched i s (s.offer c ch) := by
  have hne : i ≠ c.sec := Ne.symm (h c hc)
  have hcalls : (s.offer c ch).calls = s.calls.map (fun x => if x.ref == c.ref then
      { x with state := .offered, channel := some ch, offerTimer := some ⟨s.nowMs, 1000 * s.globals.offerTimeout⟩ } else x) := by
    simp [State.offer, State.modCall]
  refine ⟨fun d hd => ?_, by simp [State.offer, State.sec], by simp [State.offer, State.ltuOf],
    (s.offer_path c ch i).1.trans (if_neg hne)⟩
  rw [hcalls, List.mem_map] at hd
  obtain ⟨x, hx, rfl⟩ := hd
  split
  · exact h x hx
  · exact h x hx

theorem State.NoCallsOn.dispatch (n : Nat) {s : State} (h : s.NoCallsOn i) : State.Untouched i s (State.dispatch n s) := by
  induction n generalizing s with
  | zero => exact ⟨h, rfl, rfl, rfl⟩
  | succ n ih =>
    unfold State.dispatch
    split
    · next ch c hch hc => exact (h.offer (State.bestCall_mem hc).1 ch).trans (ih (h.offer (State.bestCall_mem hc).1 ch).calls)
    · exact ⟨h, rfl, rfl, rfl⟩

theorem State.NoCallsOn.finish (h : s.NoCallsOn i) : State.Untouched i s s.finish := by
  have hmarked : State.NoCallsOn { s with dispatchDue := false } i := h
  unfold State.finish
  split
  · split
    · obtain ⟨h1, h2, h3, h4⟩ := hmarked.dispatch 4
      exact ⟨h1, h2, h3, h4⟩
    · exact ⟨h, rfl, rfl, rfl⟩
  · exact ⟨h, rfl, rfl, rfl⟩

end abort

end Sys2Proof.Machine
end

section
/-! SUPPORT. The calls of a section ended one after another. -/

-- One theorem after another: elaborated side by side, they ask for more thread stacks than the check has memory for.
set_option Elab.async false

namespace Sys2Proof.Machine

theorem Channel.released_released (x : Channel) : x.released.released = x.released := rfl

theorem take_append_take {α : Type} (n : Nat) (l m : List α) : (l ++ m.take n).take n = (l ++ m).take n := by
  rw [List.take_append, List.take_append, List.take_take, Nat.min_eq_left (Nat.sub_le _ _)]

/-- The calls `cs` have been ended one after another (R145). -/
structure State.EndsAll (s t : State) (cs : List Call) (e : EndCause) : Prop where
  calls : ∀ d, d ∈ t.calls ↔ d ∈ s.calls ∧ ∀ c ∈ cs, d.ref ≠ c.ref
  history : t.history = if cs = [] then s.history else
    ((cs.map (fun c => c.histRec e s.seconds)).reverse ++ s.history).take Config.historyDepth
  full : t.fullEpisode = if cs = [] then s.fullEpisode else false
  next : t.nextRef = s.nextRef
  chan : ∀ d, t.chan d = if ∃ c ∈ cs, c.channel = some d then (s.chan d).released else s.chan d
  holder : ∀ i, t.holder i = if ∃ c ∈ cs, c.sec = i ∧ s.holder i = some c.ref then none else s.holder i

section endsAll
variable {s t u : State} {c : Call} {cs : List Call} {e : EndCause} {i : SectionId}

theorem State.EndsAll.nil (s : State) (e : EndCause) : s.EndsAll s [] e :=
  ⟨fun d => by simp, by simp, by simp, rfl, fun d => by simp, fun i => by simp⟩

/-- One call is ended, and then the others. -/
theorem State.EndsAll.cons (h1 : s.Ends u c e) (hsec : u.seconds = s.seconds) (h2 : u.EndsAll t cs e) : s.EndsAll t (c :: cs) e := by
  refine ⟨fun d => ?_, ?_, ?_, h2.next.trans h1.next, fun d => ?_, fun i => ?_⟩
  · rw [h2.calls, h1.calls]
    simp [and_assoc]
  · rw [if_neg (by simp), h2.history, h1.history, hsec]
    split
    · next hnil =>
      subst hnil
      rfl
    · rw [take_append_take, List.map_cons, List.reverse_cons, List.append_assoc]
      rfl
  · rw [if_neg (by simp), h2.full, h1.full]
    split <;> rfl
  · rw [h2.chan, h1.chan]
    by_cases hc : c.channel = some d
    · rw [if_pos hc, Channel.released_released, ite_self, if_pos ⟨c, by simp, hc⟩]
    · rw [if_neg hc]
      exact if_congr (by simp [hc]) rfl rfl
  · by_cases hc : c.sec = i ∧ s.holder i = some c.ref
    · obtain ⟨rfl, hh⟩ := hc
      have hu : u.holder c.sec = none := by rw [h1.holder, if_pos ⟨rfl, hh⟩]
      rw [h2.holder, hu, ite_self, if_pos ⟨c, by simp, rfl, hh⟩]
    · have hfree : ¬(i = c.sec ∧ s.holder c.sec = some c.ref) := fun hj => hc ⟨hj.1.symm, hj.1 ▸ hj.2⟩
      have hu : u.holder i = s.holder i := by rw [h1.holder, if_neg hfree]
      rw [h2.holder, hu]
      refine if_congr ⟨fun ⟨d, hd, hx⟩ => ⟨d, by simp [hd], hx⟩, fun ⟨d, hd, hx⟩ => ?_⟩ rfl rfl
      rcases List.mem_cons.1 hd with rfl | hd
      · exact absurd hx hc
      · exact ⟨d, hd, hx⟩

/-- The state after the calls have ended may be read a little later or earlier, where the call manager's part is the same. -/
theorem State.EndsAll.within {s' t' : State} (h : s.EndsAll t cs e) (hs : s'.SameCalls s) (hsec : s.seconds = s'.seconds)
    (ht : t.SameCalls t') : s'.EndsAll t' cs e := by
  refine ⟨fun d => ?_, ?_, ?_, ht.2.2.1.trans (h.next.trans hs.2.2.1), fun d => ?_, fun i => ?_⟩
  · rw [ht.1, h.calls, hs.1]
  · rw [ht.2.1, h.history, hs.2.1, hsec]
  · rw [ht.2.2.2.1, h.full, hs.2.2.2.1]
  · rw [ht.chan, h.chan, hs.chan]
  · rw [ht.holder, h.holder, hs.holder]

/-- Once the calls of a section have ended, none is left on it (R145). -/
theorem State.EndsAll.noCalls (h : s.EndsAll t (s.callsInOrder i) e) : t.NoCallsOn i := fun d hd hsec => by
  obtain ⟨hmem, hall⟩ := (h.calls d).1 hd
  exact hall d (State.mem_callsInOrder.2 ⟨hmem, hsec⟩) rfl

/-- Its path is free (R159). -/
theorem State.EndsAll.pathFree (h : s.EndsAll t (s.callsInOrder i) e) (hpath : s.PathLaw) : t.holder i = none := by
  rw [h.holder]
  cases hh : s.holder i with
  | none => exact ite_self _
  | some r =>
    have hp := hpath i
    rw [hh] at hp
    obtain ⟨c, hc, rfl, hsec, -⟩ := hp
    exact if_pos ⟨c, State.mem_callsInOrder.2 ⟨hc, hsec⟩, hsec, rfl⟩

/-- A call that has ended is found no more. -/
theorem State.EndsAll.gone (h : s.EndsAll t (s.callsInOrder i) e) {r : Nat}
    (hr : ∀ c, s.findCall r = some c → c.sec = i) : t.findCall r = none := by
  rw [State.findCall, List.find?_eq_none]
  intro d hd heq
  have href : d.ref = r := by simpa using heq
  obtain ⟨hmem, hall⟩ := (h.calls d).1 hd
  cases hf : s.findCall r with
  | none =>
    rw [State.findCall, List.find?_eq_none] at hf
    exact hf d hmem heq
  | some c =>
    obtain ⟨hc, hcr⟩ := State.mem_of_findCall hf
    exact hall c (State.mem_callsInOrder.2 ⟨hc, hr c hf⟩) (href.trans hcr.symm)

/-- What the end of a section's calls leaves, as the statements read it (R145, R150). -/
theorem State.EndsAll.endsCalls (h : s.EndsAll t (s.callsInOrder i) e) (hglob : t.globals = s.globals) :
    s.EndsCalls t.finish i e (s.callsInOrder i) := by
  refine ⟨s.callsInOrder_perm i, sortBy_before_pairwise _, fun hnil => ?_, fun hne => ?_, (State.finish_nextRef t).trans h.next,
    fun hoff c hc ch hch => ?_⟩
  · rw [State.finish_history, State.finish_fullEpisode, h.history, h.full, if_pos hnil, if_pos hnil]
    exact ⟨rfl, rfl⟩
  · rw [State.finish_history, State.finish_fullEpisode, h.history, h.full, if_neg hne, if_neg hne]
    exact ⟨rfl, rfl⟩
  · rw [(State.finish_calls (by rw [hglob]; exact hoff)).chan, h.chan, if_pos ⟨c, hc, hch⟩, Channel.released_eq]

/-! ## The line test records -/

theorem State.retireCall_ltu (s : State) (c : Call) (e : EndCause) (i : SectionId) : (s.retireCall c e).ltuOf i = s.ltuOf i := by
  simp [State.retireCall, State.ltuOf]

theorem State.releaseHeld_ltu (s : State) (c : Call) (i : SectionId) : (s.releaseHeld c).ltuOf i = s.ltuOf i := by
  have hdrop : ∀ u : State, (u.dropPath c.sec c.ref).ltuOf i = u.ltuOf i := fun u => by
    unfold State.dropPath
    split <;> rfl
  rw [State.releaseHeld, hdrop]
  unfold State.releaseChannel
  split
  · split <;> rfl
  · rfl

/-! ## On a section out of service -/

/-- The end of a call of a section that is OFF leaves the section and its line test record alone (R75, R96). -/
theorem State.endCall_off (hoff : (s.sec c.sec).power = .off) (hl : (s.sec c.sec).line = .down) :
    (s.endCall c e).sec c.sec = s.sec c.sec ∧ (s.endCall c e).ltuOf c.sec = s.ltuOf c.sec := by
  have hquiet : (s.retireCall c e).offerNotice c.sec c.addr c.closing c.ref = s.retireCall c e :=
    State.offerNotice_off (by rwa [State.retireCall_sec]) _ _ _
  have hfree : (s.retireCall c e).freeHeld c = (s.retireCall c e).releaseHeld c := by
    unfold State.freeHeld
    split
    · rw [State.arbiter_elsewhere]
      all_goals rw [State.releaseHeld_sec, State.retireCall_sec, hl]; nofun
    · rfl
  rw [State.endCall, hquiet, hfree, State.releaseHeld_sec, State.retireCall_sec, State.releaseHeld_ltu, State.retireCall_ltu]
  exact ⟨rfl, rfl⟩

theorem State.endCalls_off (cs : List Call) {s : State} (hsec : ∀ c ∈ cs, c.sec = i) (hoff : (s.sec i).power = .off)
    (hl : (s.sec i).line = .down) :
    s.EndsAll (State.endCalls e cs s) cs e ∧ (State.endCalls e cs s).sec i = s.sec i ∧
    (State.endCalls e cs s).ltuOf i = s.ltuOf i ∧ s.Told (State.endCalls e cs s) (cs.map (fun c => c.endTold e s.seconds)) := by
  induction cs generalizing s with
  | nil => exact ⟨.nil s e, rfl, rfl, .refl s⟩
  | cons c cs ih =>
    obtain rfl := hsec c (by simp)
    obtain ⟨hone, hltu⟩ := State.endCall_off (c := c) (e := e) hoff hl
    have htold := s.endCall_told c e (fun _ => by rw [hl]; nofun)
    have hby := s.endCall_byCalls c e
    obtain ⟨h1, h2, h3, h4⟩ := ih (s := s.endCall c e) (fun d hd => hsec d (by simp [hd])) (by rw [hone]; exact hoff)
      (by rw [hone]; exact hl)
    rw [hby.seconds] at h4
    exact ⟨h1.cons (s.endCall_ends c e) hby.seconds, h2.trans hone, h3.trans hltu, htold.trans h4⟩

end endsAll

end Sys2Proof.Machine
end

section
/-! SUPPORT. A section is taken out of service. -/

-- One theorem after another: elaborated side by side, they ask for more thread stacks than the check has memory for.
set_option Elab.async false

namespace Sys2Proof.Machine

section reports
variable {s v : State} {i : SectionId} {e : EndCause}

/-! ## The last steps: the reports, and the dispatcher -/

theorem State.reports_inner (s : State) (i : SectionId) (qs : List Txn) : s.Inner (State.reportAborted i qs s).finish :=
  (State.reportAborted_inner qs s).trans (State.finish_inner _)

/-- The last steps leave a section without calls alone. -/
theorem State.NoCallsOn.reports (h : v.NoCallsOn i) (qs : List Txn) : State.Untouched i v (State.reportAborted i qs v).finish :=
  (h.reportAborted qs).trans (h.reportAborted qs).calls.finish

/-- Where no ring names the call of another section, the last steps end no call (R74, R80, R145). -/
theorem State.EndsAll.reports (h : s.EndsAll v (s.callsInOrder i) e) (hin : s.Inner v) (hhome : s.RingsAtHome i)
    {bs : List EventBody} (htold : s.Told v bs) :
    s.EndsCalls (State.reportAborted i (s.sec i).held v).finish i e (s.callsInOrder i) ∧
    s.TellsFirst (State.reportAborted i (s.sec i).held v).finish (bs ++ (s.sec i).held.map (s.abortTold i)) := by
  obtain ⟨hreports, hcalls⟩ := State.reportAborted_told (i := i) (s.sec i).held
    (fun q hq hk r ho => h.gone (fun c hc => hhome q hq hk r c ho hc))
  rw [show v.abortTold i = s.abortTold i from funext (State.abortTold_congr hin.rosters i)] at hreports
  exact ⟨(h.within (.refl s) rfl hcalls).endsCalls ((State.reportAborted_inner _ v).globals.trans hin.globals),
    (htold.trans hreports).first (State.finish_inner _)⟩

theorem State.TellsFirst.head {bs cs : List EventBody} (h : s.TellsFirst v (bs ++ cs)) : s.TellsFirst v bs := by
  obtain ⟨more, hmore⟩ := h
  exact ⟨cs ++ more, List.append_assoc bs cs more ▸ hmore⟩

theorem State.TellsFirst.start {s' : State} {bs : List EventBody} (h : s'.TellsFirst v bs) (he : s'.events = s.events)
    (hr : s'.silent = s.silent) (hs : s'.seconds = s.seconds) : s.TellsFirst v bs := by
  obtain ⟨more, hmore⟩ := h
  exact ⟨more, hmore.start he hr hs⟩

end reports

/-! ## A section goes OFF -/

/-- What becomes of a section that goes OFF, up to the ends of its calls (R80, R96). -/
def State.putOff (i : SectionId) (s : State) : State :=
  (((s.abortQueue i).modLine i SectionCtl.goOff).post (.sectionState i .off .empty)).applyPending i

section putOff
variable {i : SectionId}

theorem State.takeOut_eq (s : State) (i : SectionId) : s.takeOut i =
    (State.reportAborted i (s.sec i).held (State.endCalls .sectionOff (s.callsInOrder i) (s.putOff i))).finish := rfl

theorem State.putOff_noCall (s : State) (i : SectionId) : s.NoCall i (s.putOff i) :=
  (((s.abortQueue_byLine i).trans (State.modLine_byLine _ i _)).trans (State.post_byLine _ i _)).toNoCall.trans
    (State.applyPending_noCall _ i)

/-- The section controller that has gone OFF (R96, R98). -/
theorem State.sec_putOff (s : State) (i : SectionId) : ∃ d, (s.putOff i).sec i =
    { (((s.sec i).aborted s.nowMs).goOff.retime s.nowMs) with
      timing := (s.sec i).pendingTiming.or (s.sec i).timing, pendingTiming := none, due := d } := by
  obtain ⟨-, hsec, -⟩ := s.abortQueue_spec i
  obtain ⟨d, hd⟩ := (((s.abortQueue i).modLine i SectionCtl.goOff).post (.sectionState i .off .empty)).sec_applyPending i
  refine ⟨d, hd.trans ?_⟩
  rw [State.sec_post, State.sec_modLine_self, hsec, (s.abortQueue_byLine i).nowMs]
  rfl

theorem State.applyPending_ltu (s : State) (i j : SectionId) : (s.applyPending i).ltuOf j = s.ltuOf j := by
  have hltu : (s.applyPending i).ltu = s.ltu := s.settleIdle_ltu i
  rw [State.ltuOf, hltu]
  rfl

theorem State.putOff_running (s : State) (i : SectionId) : ((s.putOff i).ltuOf i).running = none := by
  obtain ⟨-, -, hrun⟩ := s.abortQueue_spec i
  rw [State.putOff, State.applyPending_ltu, State.ltuOf_post, State.ltuOf_modLine]
  exact hrun

/-- What a section that goes OFF tells before its calls end (R64, R96, R125, R126). -/
theorem State.putOff_told (s : State) (i : SectionId) : s.Told (s.putOff i)
    (s.measureAbortTold i ++ .sectionState i .off ReasonSet.empty :: flipsTold (s.sec i).pendingTiming (s.postsByAddress i)) := by
  obtain ⟨habort, hsec, -⟩ := s.abortQueue_spec i
  have hby : s.ByLine i (((s.abortQueue i).modLine i SectionCtl.goOff).post (.sectionState i .off .empty)) :=
    ((s.abortQueue_byLine i).trans (State.modLine_byLine _ i _)).trans (State.post_byLine _ i _)
  have hstate := (State.Told.quiet (s := s.abortQueue i) (t := (s.abortQueue i).modLine i SectionCtl.goOff)).trans
    (State.post_told _ (.sectionState i .off .empty))
  have hflips := State.applyPending_tells (((s.abortQueue i).modLine i SectionCtl.goOff).post (.sectionState i .off .empty)) i
  rw [State.postsByAddress_congr hby.dir, State.sec_post, State.sec_modLine_self, hsec] at hflips
  have hlate := State.applyPending_noCall (((s.abortQueue i).modLine i SectionCtl.goOff).post (.sectionState i .off .empty)) i
  have := (habort.trans hstate).trans ⟨hlate.silent, hlate.seconds, hflips⟩
  rw [List.append_assoc] at this
  exact this

/-- A section taken out of service: it is as `putOff` leaves it, its calls are gone, and what is told stands in order (R96). -/
theorem State.takeOut_spec (s : State) (i : SectionId) (hpath : s.PathLaw) :
    (s.takeOut i).sec i = (s.putOff i).sec i ∧ ((s.takeOut i).ltuOf i).running = none ∧ (s.takeOut i).NoCallsOn i ∧
    (s.takeOut i).holder i = none ∧ s.Inner (s.takeOut i) ∧
    s.TellsFirst (s.takeOut i) (s.measureAbortTold i ++ [.sectionState i .off ReasonSet.empty]) ∧
    (s.RingsAtHome i → s.EndsCalls (s.takeOut i) i .sectionOff (s.callsInOrder i) ∧
      s.TellsFirst (s.takeOut i) (s.measureAbortTold i ++ .sectionState i .off ReasonSet.empty ::
        flipsTold (s.sec i).pendingTiming (s.postsByAddress i) ++
        (s.callsInOrder i).map (fun c => c.endTold .sectionOff s.seconds) ++ (s.sec i).held.map (s.abortTold i))) := by
  have hoff := s.putOff_noCall i
  have htold := s.putOff_told i
  obtain ⟨d, hsec⟩ := s.sec_putOff i
  obtain ⟨hends, hkept, hltu, hended⟩ := State.endCalls_off (s := s.putOff i) (i := i) (e := .sectionOff) (s.callsInOrder i)
    (fun c hc => (State.mem_callsInOrder.1 hc).2) (by rw [hsec]; rfl) (by rw [hsec]; rfl)
  have hall := hends.within hoff.calls hoff.seconds (.refl _)
  have hinner : s.Inner (State.endCalls .sectionOff (s.callsInOrder i) (s.putOff i)) :=
    hoff.toInner.trans (State.endCalls_byCalls _ i _ _ (fun c hc => (State.mem_callsInOrder.1 hc).2)).toInner
  have hlast := hall.noCalls.reports (s.sec i).held
  rw [hoff.seconds] at hended
  rw [State.takeOut_eq]
  refine ⟨hlast.sec.trans hkept, ?_, hlast.calls, hlast.holder.trans (hall.pathFree hpath),
    hinner.trans (State.reports_inner _ i _), ?_, fun hhome => hall.reports hinner hhome (htold.trans hended)⟩
  · rw [hlast.ltuOf, hltu]
    exact s.putOff_running i
  · rw [List.append_cons] at htold
    exact ((htold.trans hended).first (State.reports_inner _ i _)).head.head

end putOff

/-! ## SECTION SERVICE OUT -/

/-- What SECTION SERVICE with the direction out answers (R95). -/
theorem State.serviceOutAct_found {s : State} {i : SectionId} {force : Nat} (hf : force ≤ 1) (hd : (s.sec i).defn ≠ none) :
    s.serviceOutAct i.val 1 force =
      if (s.sec i).power = .off then (s, .ok, .serviceOut .off 0)
      else if s.callsOn i = [] ∨ force = 1 then (s.takeOut i, .ok, .serviceOut (s.sec i).power (s.callsOn i).length)
      else (s, .callsPresent, .callCount (s.callsOn i).length) := by
  delta State.serviceOutAct
  rw [flagOf_eq_some hf]
  refine (s.onSection_found i _ hd).trans (if_congr Iff.rfl rfl (if_congr ?_ rfl rfl))
  rw [Bool.or_eq_true, List.isEmpty_iff, decide_eq_true_iff]

end Sys2Proof.Machine

open Sys2Proof Sys2Proof.Machine

/-- Settles O30: a section taken out of service goes OFF, and then its calls end. -/
theorem sectionServiceOutTakesASectionOff : Obligations.SectionServiceOutTakesASectionOff := by
  rintro h s i force f rfl ha hforce hd
  generalize hu : s.taking ⟨.sectionService, h, byte1 i.val ++ byte1 1 ++ byte1 force, 3⟩ = u at *
  have hact := State.serviceOutAct_found (s := u) hforce (by subst hu; exact hd)
  have hrun : ∀ {t st b}, u.serviceOutAct i.val 1 force = (t, st, b) → exec (.sectionServiceOut h i.val 1 force) s =
      .next (t.replied ⟨.sectionService, h, byte1 i.val ++ byte1 1 ++ byte1 force, 3⟩ st b) := fun hx =>
    exec_of_act rfl ha (by rw [hu]; exact hx)
  refine ⟨fun hoff => ?_, fun hon hcalls h0 => ?_, fun hon hgo hpath => ?_⟩
  · rw [State.answers, hu]
    exact hrun (hact.trans (if_pos (by subst hu; exact hoff)))
  · rw [State.answers, hu]
    subst hu
    exact hrun (hact.trans ((if_neg hon).trans (if_neg (by rintro (hnone | h1); exacts [hcalls hnone, by omega]))))
  · obtain ⟨hsec, hrunning, hcalls, hholder, hinner, hfirst, hhome⟩ := u.takeOut_spec i (by subst hu; exact hpath)
    obtain ⟨⟨hlink, -, hset, hrosters⟩, hun⟩ := hinner.outside
    obtain ⟨d, hd⟩ := u.sec_putOff i
    subst hu
    refine ⟨_, hrun (hact.trans ((if_neg hon).trans (if_pos hgo))), ?_, ?_, ?_, ?_, ?_, ?_, ?_, ?_, ?_, ?_, ?_, ?_, ?_, ?_, ?_, ?_,
      hrunning, hcalls, hholder, hfirst.start rfl rfl rfl, fun hr => ?_, hlink, hset, hrosters, hun⟩
    case refine_17 =>
      obtain ⟨hends, htold⟩ := hhome hr
      exact ⟨_, _, s.postsByAddress_spec i, hends, htold.start rfl rfl rfl⟩
    all_goals rw [hsec, hd]
    case refine_16 =>
      change (s.sec i).pendingTiming.or (s.sec i).timing = _
      cases (s.sec i).pendingTiming <;> rfl
    all_goals rfl
end

section
/-! SUPPORT. The calls of a section ended by its reset: their closing notices join the queue, and nothing starts. -/

-- One theorem after another: elaborated side by side, they ask for more thread stacks than the check has memory for.
set_option Elab.async false

namespace Sys2Proof.Machine

/-! ## Closing notices -/

/-- The closing notice of an ended call (R145). -/
def Call.closingNotice (c : Call) : Txn := ⟨c.closing, c.addr, .call c.ref, 0, 0, 0, false⟩

/-- Closing notices join a queue one after another (R75, R81). -/
def joinClosing (cs : List Call) (q : List Txn) : List Txn := cs.foldl (fun q c => joinNotice c.closingNotice q) q

theorem eq_or_mem_of_joinNotice {t u : Txn} {q : List Txn} (h : u ∈ joinNotice t q) : u = t ∨ u ∈ q := by
  unfold joinNotice at h
  split at h
  · obtain ⟨v, hv, rfl⟩ := List.mem_map.1 h
    split
    · exact .inl rfl
    · exact .inr hv
  · exact (List.mem_append.1 h).symm.imp_left List.mem_singleton.1

/-- A notice for an address that no transaction waits for joins at the end (R75). -/
theorem joinNotice_new {t : Txn} {q : List Txn} (h : ∀ u ∈ q, u.addr ≠ t.addr) : joinNotice t q = q ++ [t] := by
  unfold joinNotice
  rw [if_neg]
  simp only [List.any_eq_true, Bool.and_eq_true, beq_iff_eq, not_exists, not_and]
  exact fun u hu _ => h u hu

theorem joinClosing_kinds (cs : List Call) {q : List Txn} (h : ∀ u ∈ q, u.kind = .clear ∨ u.kind = .ringStop) :
    ∀ u ∈ joinClosing cs q, u.kind = .clear ∨ u.kind = .ringStop := by
  induction cs generalizing q with
  | nil => exact h
  | cons c cs ih =>
    refine ih (fun u hu => ?_)
    rcases eq_or_mem_of_joinNotice hu with rfl | hu
    · change c.closing = .clear ∨ c.closing = .ringStop
      unfold Call.closing
      split
      · exact .inr rfl
      · exact .inl rfl
    · exact h u hu

/-- The closing notices of calls of different posts stand one after another. -/
theorem joinClosing_distinct (cs : List Call) {q : List Txn} (hcs : cs.Pairwise (fun c d => c.addr ≠ d.addr))
    (hq : ∀ u ∈ q, ∀ c ∈ cs, u.addr ≠ c.addr) : joinClosing cs q = q ++ cs.map Call.closingNotice := by
  induction cs generalizing q with
  | nil => exact (List.append_nil q).symm
  | cons c cs ih =>
    obtain ⟨hc, hcs⟩ := List.pairwise_cons.1 hcs
    have hnew : joinNotice c.closingNotice q = q ++ [c.closingNotice] := joinNotice_new (fun u hu => hq u hu c (by simp))
    rw [joinClosing, List.foldl_cons, hnew]
    refine (ih hcs (fun u hu d hd => ?_)).trans (by simp)
    rcases List.mem_append.1 hu with hu | hu
    · exact hq u hu d (by simp [hd])
    · rw [List.mem_singleton.1 hu]
      exact hc d hd

/-- The live calls of a section are of different posts (R129). -/
theorem State.PlaceLaw.callsInOrder {s : State} (h : s.PlaceLaw) (i : SectionId) :
    (s.callsInOrder i).Pairwise (fun c d => c.addr ≠ d.addr) := by
  refine ((s.callsInOrder_perm i).pairwise_iff (fun hne => hne.symm)).2 ?_
  refine (h.filter _).imp_of_mem (fun hc hd hne haddr => hne ⟨?_, haddr⟩)
  rw [State.callsOn, List.mem_filter, beq_iff_eq] at hc hd
  exact hc.2.trans hd.2.symm

/-! ## The calls of a section being reset -/

section quietly
variable {s : State} {i : SectionId} {e : EndCause} {c : Call}

/-- The end of a call of a section being reset (R81, R145). -/
theorem State.endCallQuietly_spec (hon : (s.sec c.sec).power ≠ .off) :
    (s.endCallQuietly c e).sec c.sec = { s.sec c.sec with queue := joinNotice c.closingNotice (s.sec c.sec).queue } ∧
    (s.endCallQuietly c e).ltuOf c.sec = s.ltuOf c.sec ∧ s.Told (s.endCallQuietly c e) [c.endTold e s.seconds] := by
  have hjoins : (s.retireCall c e).offerQuietNotice c.sec c.addr c.closing c.ref =
      (s.retireCall c e).modQueue c.sec (joinNotice c.closingNotice) := by
    unfold State.offerQuietNotice
    split
    · next hoff => exact absurd hoff (by rw [State.retireCall_sec]; exact hon)
    all_goals rfl
  rw [State.endCallQuietly, hjoins, State.releaseHeld_sec, State.releaseHeld_ltu, State.modQueue_eq, State.sec_setSec_self,
    State.ltuOf_setSec, State.retireCall_sec, State.retireCall_ltu]
  exact ⟨rfl, rfl, ((s.retireCall_told c e).thenQuiet .quiet).thenQuiet (State.releaseHeld_quietly _ c).1⟩

theorem State.endCallsQuietly_spec (cs : List Call) {s : State} (hsec : ∀ c ∈ cs, c.sec = i) (hon : (s.sec i).power ≠ .off) :
    s.EndsAll (State.endCallsQuietly e cs s) cs e ∧
    (State.endCallsQuietly e cs s).sec i = { s.sec i with queue := joinClosing cs (s.sec i).queue } ∧
    (State.endCallsQuietly e cs s).ltuOf i = s.ltuOf i ∧
    s.Told (State.endCallsQuietly e cs s) (cs.map (fun c => c.endTold e s.seconds)) ∧ s.ByCalls i (State.endCallsQuietly e cs s) := by
  induction cs generalizing s with
  | nil => exact ⟨.nil s e, rfl, rfl, .refl s, .refl i s⟩
  | cons c cs ih =>
    obtain rfl := hsec c (by simp)
    obtain ⟨hone, hltu, htold⟩ := State.endCallQuietly_spec (c := c) (e := e) hon
    have hby := s.endCallQuietly_byCalls c e
    obtain ⟨h1, h2, h3, h4, h5⟩ := ih (s := s.endCallQuietly c e) (fun d hd => hsec d (by simp [hd])) (by rw [hone]; exact hon)
    rw [hby.seconds] at h4
    rw [hone] at h2
    exact ⟨h1.cons (s.endCallQuietly_ends c e) hby.seconds, h2, h3.trans hltu, htold.trans h4, hby.trans h5⟩

end quietly

/-! ## The line of a section being reset -/

section line
variable {x : SectionCtl}

/-- No break timer and no stuck timer runs in BREAK and in TESTING (R70, R71). -/
theorem SectionCtl.aborted_timers (now : Nat) (h : x.line = .brk ∨ x.line = .testing) :
    (x.aborted now).breakTimer = none ∧ (x.aborted now).stuckTimer = none := by
  rcases h with h | h <;>
    simp [SectionCtl.aborted, SectionCtl.retime, SectionCtl.keepTimer, SectionCtl.breakRuns, SectionCtl.stuckRuns, h]

/-- The timers that a line in UNKNOWN starts (R70, R71). -/
theorem SectionCtl.retime_starts (now : Nat) (ha : x.power = .active) (hl : x.line = .unknown) (hx : x.exch = .quiet)
    (hb : x.breakTimer = none) (hs : x.stuckTimer = none) :
    (x.retime now).breakTimer = (if x.space then some ⟨now, 1000 * x.timingD.brk⟩ else none) ∧
    (x.retime now).stuckTimer = (if x.pairFree then none else some ⟨now, 1000 * x.timingD.stuck⟩) := by
  have hsending : x.isSending = false := by simp [SectionCtl.isSending, hx]
  constructor
  · simp [SectionCtl.retime, SectionCtl.keepTimer, SectionCtl.breakRuns, ha, hl, hb]
  · cases hp : x.pairFree <;> simp [SectionCtl.retime, SectionCtl.keepTimer, SectionCtl.stuckRuns, ha, hl, hs, hp, hsending]

theorem SectionCtl.resetReasons_reset (x : SectionCtl) : x.resetReasons.reset = true := by
  unfold SectionCtl.resetReasons
  split <;> rfl

end line

end Sys2Proof.Machine
end

section
/-! SUPPORT. A section reset. -/

-- One theorem after another: elaborated side by side, they ask for more thread stacks than the check has memory for.
set_option Elab.async false

namespace Sys2Proof.Machine

/-! ## Up to the pending timing record -/

/-- A section reset up to the pending timing record: queue, line and round emptied, the calls ended (R81 steps 1 to 4). -/
def State.resetBegun (i : SectionId) (s : State) : State :=
  (((s.abortQueue i).endCallsQuietly .sectionReset (s.callsInOrder i)).modSec i (fun x => { x with round := none })).applyPending i

/-- A section controller being reset, with the queue `q` and the due time `d`. -/
def SectionCtl.resetBegun (x : SectionCtl) (now : Nat) (q : List Txn) (d : Option Nat) : SectionCtl :=
  { x.aborted now with
    queue := q, round := none, timing := x.pendingTiming.or x.timing, pendingTiming := none, due := d }

section begun
variable {s : State} {i : SectionId}

theorem State.resetSection_eq (s : State) (i : SectionId) :
    s.resetSection i = (State.reportAborted i (s.sec i).held ((s.resetBegun i).resetLine i)).finish := rfl

/-- What a section reset has done before the line state is set (R64, R81, R125, R145). -/
theorem State.resetBegun_spec (hon : (s.sec i).power ≠ .off) :
    s.EndsAll (s.resetBegun i) (s.callsInOrder i) .sectionReset ∧
    (∃ d, (s.resetBegun i).sec i = (s.sec i).resetBegun s.nowMs (joinClosing (s.callsInOrder i) []) d) ∧
    ((s.resetBegun i).ltuOf i).running = none ∧
    s.Told (s.resetBegun i) (s.measureAbortTold i ++ (s.callsInOrder i).map (fun c => c.endTold .sectionReset s.seconds) ++
      flipsTold (s.sec i).pendingTiming (s.postsByAddress i)) ∧
    s.Inner (s.resetBegun i) := by
  obtain ⟨habort, hsec, hrun⟩ := s.abortQueue_spec i
  have hby := s.abortQueue_byLine i
  obtain ⟨hends, hquiet, hltu, htold, hcalls⟩ := State.endCallsQuietly_spec (s := s.abortQueue i) (i := i) (e := .sectionReset)
    (s.callsInOrder i) (fun c hc => (State.mem_callsInOrder.1 hc).2) (by rw [hsec]; exact hon)
  rw [hby.seconds] at htold
  rw [hsec] at hquiet
  rw [State.resetBegun]
  generalize State.endCallsQuietly .sectionReset (s.callsInOrder i) (s.abortQueue i) = u at *
  have hround : (u.modSec i (fun x => { x with round := none })).sec i =
      { (s.sec i).aborted s.nowMs with queue := joinClosing (s.callsInOrder i) [], round := none } := by
    rw [State.sec_modSec_self, hquiet]
    rfl
  have hcleared := u.modSec_byLine i (fun x => { x with round := none })
  have hltu' : (u.modSec i (fun x => { x with round := none })).ltuOf i = u.ltuOf i := State.ltuOf_modSec _ _ _ _
  have hquiet' : u.Told (u.modSec i (fun x => { x with round := none })) [] := .quiet
  generalize u.modSec i (fun x => { x with round := none }) = v at *
  have hlate := v.applyPending_noCall i
  have hflips := v.applyPending_tells i
  rw [hround, State.postsByAddress_congr (hcleared.dir.trans (hcalls.dir.trans hby.dir))] at hflips
  obtain ⟨d, hd⟩ := v.sec_applyPending i
  rw [hround] at hd
  refine ⟨hends.within hby.calls hby.seconds (hcleared.calls.trans hlate.calls), ⟨d, hd⟩, ?_,
    ((habort.trans htold).thenQuiet hquiet').trans ⟨hlate.silent, hlate.seconds, hflips⟩,
    ((hby.toInner.trans hcalls.toInner).trans hcleared.toInner).trans hlate.toInner⟩
  rw [State.applyPending_ltu, hltu', hltu]
  exact hrun

end begun

/-! ## The line of a section being reset -/

/-- A section controller whose line a reset has set (R81 step 5). -/
def SectionCtl.lineReset (x : SectionCtl) (now : Nat) : SectionCtl :=
  if x.power = .active then { x with line := .unknown, exch := .quiet }.retime now else x.woken now x.resetReasons

section line
variable {s : State} {i : SectionId}

theorem State.resetLine_eq (s : State) (i : SectionId) : s.resetLine i = s.setSec i ((s.sec i).lineReset s.nowMs) := by
  unfold State.resetLine SectionCtl.lineReset
  split
  · rfl
  · exact s.startWake_eq i _

variable {x : SectionCtl} {now : Nat}

theorem SectionCtl.lineReset_active (h : x.power = .active) :
    x.lineReset now = { x with line := .unknown, exch := .quiet }.retime now := if_pos h

theorem SectionCtl.lineReset_asleep (h : x.power ≠ .active) : x.lineReset now = x.woken now x.resetReasons := if_neg h

/-- The fields that a reset of the line leaves alone, and those that it clears. -/
theorem SectionCtl.lineReset_keeps (x : SectionCtl) (now : Nat) :
    (x.lineReset now).exch = .quiet ∧ (x.lineReset now).inFlight = x.inFlight ∧ (x.lineReset now).slot = x.slot ∧
    (x.lineReset now).round = x.round ∧ (x.lineReset now).queue = x.queue ∧ (x.lineReset now).episode = x.episode ∧
    (x.lineReset now).defn = x.defn ∧ (x.lineReset now).bracket = x.bracket ∧
    (x.lineReset now).pendingTiming = x.pendingTiming ∧ (x.lineReset now).anchor = x.anchor ∧
    (x.lineReset now).timing = x.timing := by
  unfold SectionCtl.lineReset
  split <;> exact ⟨rfl, rfl, rfl, rfl, rfl, rfl, rfl, rfl, rfl, rfl, rfl⟩

end line

/-! ## The whole reset -/

section whole
variable {s : State} {i : SectionId}

/-- A section reset: the section controller it leaves, its calls gone, and what is told in order (R81). -/
theorem State.resetSection_spec (hon : (s.sec i).power ≠ .off) (hpath : s.PathLaw) :
    (∃ d, (s.resetSection i).sec i =
      ((s.sec i).resetBegun s.nowMs (joinClosing (s.callsInOrder i) []) d).lineReset s.nowMs) ∧
    ((s.resetSection i).ltuOf i).running = none ∧ (s.resetSection i).NoCallsOn i ∧ (s.resetSection i).holder i = none ∧
    s.Inner (s.resetSection i) ∧
    (s.RingsAtHome i → s.EndsCalls (s.resetSection i) i .sectionReset (s.callsInOrder i) ∧
      s.TellsFirst (s.resetSection i) (s.measureAbortTold i ++
        (s.callsInOrder i).map (fun c => c.endTold .sectionReset s.seconds) ++
        flipsTold (s.sec i).pendingTiming (s.postsByAddress i) ++ (s.sec i).held.map (s.abortTold i))) := by
  obtain ⟨hends, ⟨d, hsec⟩, hrun, htold, hinner⟩ := State.resetBegun_spec hon
  rw [State.resetSection_eq, State.resetLine_eq, hsec, hinner.nowMs]
  generalize hx : (s.sec i).resetBegun s.nowMs (joinClosing (s.callsInOrder i) []) d = x
  have hby := (s.resetBegun i).setSec_byLine i (x.lineReset s.nowMs)
  have hall := hends.within (.refl s) rfl hby.calls
  have hset := hinner.trans hby.toInner
  have hlast := hall.noCalls.reports (s.sec i).held
  refine ⟨⟨d, ?_⟩, ?_, hlast.calls, hlast.holder.trans (hall.pathFree hpath), hset.trans (State.reports_inner _ i _),
    fun hhome => hall.reports hset hhome (htold.thenQuiet .quiet)⟩
  · rw [hlast.sec, State.sec_setSec_self, hx]
  · rw [hlast.ltuOf, State.ltuOf_setSec]
    exact hrun

end whole

/-! ## The statement's own words -/

section words
variable {x : SectionCtl} {now : Nat} {q : List Txn} {d : Option Nat}

/-- An ACTIVE section that has been reset waits in UNKNOWN (R81 step 5). -/
theorem SectionCtl.resetBegun_active (h : x.power = .active) :
    ((x.resetBegun now q d).lineReset now).power = .active ∧ ((x.resetBegun now q d).lineReset now).line = .unknown := by
  rw [SectionCtl.lineReset_active (x := x.resetBegun now q d) h]
  exact ⟨h, rfl⟩

/-- Another section in service that has been reset wakes with the reason RESET (R81 step 5, R90). -/
theorem SectionCtl.resetBegun_asleep (h : x.power ≠ .active) :
    ((x.resetBegun now q d).lineReset now).power = .waking .powerUp ∧ ((x.resetBegun now q d).lineReset now).line = .down ∧
    ((x.resetBegun now q d).lineReset now).reasons.reset = true ∧
    ((x.resetBegun now q d).lineReset now).wakeTimer = some ⟨now, 300⟩ := by
  rw [SectionCtl.lineReset_asleep (x := x.resetBegun now q d) h]
  exact ⟨rfl, rfl, SectionCtl.resetReasons_reset _, rfl⟩

/-- A line that was in BREAK or in TESTING starts its timers with the applied timing (R64, R70, R71). -/
theorem SectionCtl.resetBegun_timers (h : x.power = .active) (hl : x.line = .brk ∨ x.line = .testing) {y : SectionCtl}
    (hy : y = (x.resetBegun now q d).lineReset now) :
    y.breakTimer = (if x.space then some ⟨now, 1000 * (y.timing.getD Timing.default).brk⟩ else none) ∧
    y.stuckTimer = (if x.pairFree then none else some ⟨now, 1000 * (y.timing.getD Timing.default).stuck⟩) := by
  obtain ⟨hb, hs⟩ := SectionCtl.aborted_timers now hl
  rw [SectionCtl.lineReset_active (x := x.resetBegun now q d) h] at hy
  subst hy
  exact SectionCtl.retime_starts (x := { x.resetBegun now q d with line := .unknown, exch := .quiet }) now h rfl rfl hb hs

end words

end Sys2Proof.Machine

open Sys2Proof Sys2Proof.Machine

/-- Settles O31: a section reset empties the section, ends its calls, and sets its line. -/
theorem sectionResetClearsTheSection : Obligations.SectionResetClearsTheSection := by
  rintro h s i f rfl ha hd
  generalize hu : s.taking ⟨.sectionReset, h, byte1 i.val, 1⟩ = u at *
  refine ⟨fun hoff => ?_, fun hon hpath => ?_⟩
  · rw [State.answers, hu]
    refine exec_of_act rfl ha ?_
    rw [hu]
    exact u.onSectionInService_off i _ (by subst hu; exact hd) (by subst hu; exact hoff)
  · have hact : u.sectionResetAct i.val = (u.resetSection i, .ok, .nothing) :=
      u.onSectionInService_found i _ (by subst hu; exact hd) (by subst hu; exact hon)
    have hrun : exec (.sectionReset h i.val) s =
        .next ((u.resetSection i).replied ⟨.sectionReset, h, byte1 i.val, 1⟩ .ok .nothing) :=
      exec_of_act rfl ha (by rw [hu]; exact hact)
    obtain ⟨⟨d, hsec⟩, hrunning, hcalls, hholder, hinner, hhome⟩ :=
      State.resetSection_spec (s := u) (i := i) (by subst hu; exact hon) (by subst hu; exact hpath)
    obtain ⟨⟨hlink, -, hset, hrosters⟩, hun⟩ := hinner.outside
    subst hu
    change _ = ((s.sec i).resetBegun s.nowMs (joinClosing (s.callsInOrder i) []) d).lineReset s.nowMs at hsec
    obtain ⟨hexch, hflight, hslot, hround, hqueue, hepisode, hdefn, hbracket, hpending, hanchor, htiming⟩ :=
      ((s.sec i).resetBegun s.nowMs (joinClosing (s.callsInOrder i) []) d).lineReset_keeps s.nowMs
    rw [← hsec] at hexch hflight hslot hround hqueue hepisode hdefn hbracket hpending hanchor htiming
    refine ⟨_, hrun, fun hactive => ?_, fun hasleep => ?_, hexch, hflight, hslot, hround, ?_, hepisode, hdefn, hbracket, hpending,
      hanchor, hrunning, hcalls, hholder, htiming.trans ?_, fun hactive hline => ?_, fun hr => ?_, hlink, hset, hrosters, hun⟩
    · exact hsec ▸ SectionCtl.resetBegun_active hactive
    · exact hsec ▸ SectionCtl.resetBegun_asleep hasleep
    · rw [hqueue]
      exact joinClosing_kinds _ (by simp)
    · change (s.sec i).pendingTiming.or (s.sec i).timing = _
      cases (s.sec i).pendingTiming <;> rfl
    · exact SectionCtl.resetBegun_timers hactive hline hsec
    · obtain ⟨hends, htold⟩ := hhome hr
      exact ⟨_, _, s.postsByAddress_spec i, hends,
        fun hplace => hqueue.trans (joinClosing_distinct _ (hplace.callsInOrder i) (by simp)), htold.start rfl rfl rfl⟩
end
